-- ==== Sys2Proof/Word.lean ====
section
/-! DEFINITION. The word types of the Tambrel T418 and their plainest arithmetic. -/

namespace Sys2Proof

/-- A byte of the placement link (chapter 10). -/
abbrev Byte := BitVec 8

/-- A 16-bit tag: a request's own tag, or an issue tag 1..65535 (R104, R168). -/
abbrev Tag := BitVec 16

/-- A value of the 32-bit seconds counter (R190). -/
abbrev Time := BitVec 32

/-- A block set: a set of offsets 0..63 of one extent, offset k at bit k ("Wire order" of 00_scope.md). -/
abbrev BlockSet := BitVec 64

/-- A set of owners 0..3, owner k at bit k (the flags byte of a binding record, section 10.7). -/
abbrev OwnerSet := BitVec 4

namespace BlockSet

/-- The set of no offset. -/
def none : BlockSet := 0#64

/-- All 64 offsets: a complete valid set (R108). -/
def full : BlockSet := BitVec.allOnes 64

/-- The offsets of `a` that are not in `b`. -/
def diff (a b : BlockSet) : BlockSet := a &&& ~~~b

/-- Every offset of `a` is in `b` (R2). -/
def subset (a b : BlockSet) : Bool := a &&& b == a

/-- The offsets `lo` to `hi - 1` (R1). -/
def span (lo hi : Nat) : BlockSet := BitVec.ofNat 64 (2 ^ hi - 2 ^ lo)

end BlockSet

end Sys2Proof
end

