-- ==== Sys2Proof/Syntax.lean ====
section
/-! DEFINITION. The commands of the Tambrel T418: one constructor for each row of spec/opcode_table.json. -/

namespace Sys2Proof

/-- The commands. A row of the down lane carries the bytes received on it; a request row is the taking of the
frame at the head of the request intake (R172) and finds its operands in that frame's body (log 1). -/
inductive Instr where
  /-- POWER_ON (R20, R190 and the power-on part of every chapter). -/
  | powerOn
  /-- RESET_LINE (R181). -/
  | resetLine
  /-- SECONDS_ADVANCE (R190). -/
  | secondsAdvance
  /-- ROW_EXPIRY of the candidate row with this row index (R48). -/
  | rowExpiry (row : Nat)
  /-- BAR_END of the candidate row with this row index (R49). -/
  | barEnd (row : Nat)
  /-- BACKOFF_END of the waiting order of this slot (R99). -/
  | backoffEnd (slot : Nat)
  /-- ORDER_TIMEOUT of the issued order with this tag (R113). -/
  | orderTimeout (tag : Tag)
  /-- DELTA_DELAY_EXPIRY (R157). -/
  | deltaDelayExpiry
  /-- SPIN_UP_CADENCE (R133). -/
  | spinUpCadence
  /-- MAINS_CADENCE (R135). -/
  | mainsCadence
  /-- REST_ADVICE (R136). -/
  | restAdvice
  /-- DRAIN_PICKER_RUN (R128). -/
  | drainPickerRun
  /-- PROMOTION_PICKER_RUN (R64). -/
  | promotionPickerRun
  /-- REFILL_SCAN (R148). -/
  | refillScan
  /-- DISPATCH (R103). -/
  | dispatch
  /-- TAKE_ITEM (R27). -/
  | takeItem
  /-- PULL_BYTE: these bytes are received and end with a pull byte (R167). -/
  | pullByte (bytes : List Byte)
  /-- BAD_FRAME: these bytes are received and end a bad frame (R170). -/
  | badFrame (bytes : List Byte)
  /-- REQUEST_INTAKE: these bytes are received and complete a checked frame that is no notice (R171). -/
  | requestIntake (bytes : List Byte)
  /-- ACCESS: these bytes are received and complete a checked ACCESS frame (R22). -/
  | access (bytes : List Byte)
  /-- PLATTER: these bytes are received and complete a checked PLATTER frame (R122). -/
  | platter (bytes : List Byte)
  /-- SUPPLY: these bytes are received and complete a checked SUPPLY frame (R124). -/
  | supply (bytes : List Byte)
  /-- ATTACH (R153). -/
  | attach
  /-- IMPORT_BEGIN (R162). -/
  | importBegin
  /-- IMPORT_PUT (R163). -/
  | importPut
  /-- IMPORT_END (R164). -/
  | importEnd
  /-- EXPORT (R159). -/
  | exportMap
  /-- SYNC (R158). -/
  | sync
  /-- LOOKUP (R74). -/
  | lookup
  /-- PLAN_WRITE (R78). -/
  | planWrite
  /-- DISCARD (R92). -/
  | discard
  /-- PIN (R143). -/
  | pin
  /-- UNPIN (R146). -/
  | unpin
  /-- UNPIN_ALL: an UNPIN with count 0 (R147). -/
  | unpinAll
  /-- COMPLETE (R107). -/
  | complete
  /-- SKIP_ON: QUEUE-CONTROL with the action SKIP-ON (R118). -/
  | skipOn
  /-- SKIP_OFF: QUEUE-CONTROL with the action SKIP-OFF (R118). -/
  | skipOff
  /-- RESUME: QUEUE-CONTROL with the action RESUME (R118). -/
  | resume
  /-- DRAIN_ALL (R131). -/
  | drainAll
  /-- POLICY (R176). -/
  | policy
  /-- STATUS (R178). -/
  | status
  /-- CONDITION (R186). -/
  | condition
  /-- FAULTS (R188). -/
  | faults
  /-- FAULTS_CLEAR (R188). -/
  | faultsClear
  /-- RESET_WARM: RESET with WARM (R180). -/
  | resetWarm
  /-- RESET_COLD: RESET with COLD (R179). -/
  | resetCold
  /-- UNKNOWN_KIND_REQUEST (R173). -/
  | unknownKindRequest
  /-- SEND_REPLY (R175). -/
  | sendReply
  /-- SEND_ORDER (R106). -/
  | sendOrder
  /-- DELTA (R157). -/
  | delta
  /-- EXPORT_DATA (R159). -/
  | exportData
  /-- EXPORT_END (R160). -/
  | exportEnd
  /-- SEND_ADVICE (R132). -/
  | sendAdvice
  deriving DecidableEq, Repr

end Sys2Proof
end

