-- ==== Sys2Proof/Decode.lean ====
section
/-! DEFINITION. The command that a word spells by the bits of spec/opcode_table.json. The table gives NO row any
bits (every row's "fields" is empty and none has "fixed"), so no word spells a command (log 16). The frames by
which the controller sends requests and notices are read in Machine/Link.lean from section 10.7. -/

namespace Sys2Proof

/-- No row of the table has bits: no word spells a command. -/
def decodeTableWord (_nbits _w : Nat) : Option Instr := none

end Sys2Proof
end

