-- ==== Sys2Proof/Config.lean ====
section
/-! DEFINITION. What the part fixes in its build, and the one choice the manual leaves free. -/

namespace Sys2Proof.Config

/-- The number of sets of the Candidate Table (R41). -/
def candidateSets : Nat := 1024

/-- The number of ways of a set (R41). -/
def candidateWays : Nat := 8

/-- FREE CHOICE (log 7). Whether the decay visit of candidate row `row` at the advance numbered `n` reads the
admission threshold after the refill of that advance (R57) or before it. R46 says only "as it stands at the
visit", and no rule orders the visit and the refill of one advance. It has no body, so nothing can lean on it. -/
opaque visitSeesRefill (n row : Nat) : Bool

end Sys2Proof.Config
end

