-- ==== Sys2Proof/Machine/State.lean ====
section
/-! DEFINITION. The state of the Tambrel T418, block by block, as plain data, and the state after reset. -/

namespace Sys2Proof.Machine

/-! ### Why a step stops -/

/-- A step that stops. No command of the T418 stops, so no meaning raises this; the manual's own "faults" are
entries of the fault table (`FaultEntry`). -/
inductive Fault where
  /-- Raised by no meaning. Safe: the machine would stop where the hardware goes on. -/
  | halted
  deriving DecidableEq, Repr

/-- A command that is not modelled. The manual's own refusals (REFER) are replies (`ReplyBody.refer`). -/
inductive Refusal where
  /-- Raised only by an arm of `exec` whose command has no meaning yet; there is none. Safe. -/
  | notModelled (mnemonic : String)
  deriving DecidableEq, Repr

/-! ### Binding Table (chapter 1) -/

/-- The bound states of a slot (section 1.3). -/
inductive BindState where
  | filling
  | held
  | draining
  deriving DecidableEq, Repr

/-- The binding record of a bound slot (section 1.2). -/
structure Binding where
  state : BindState
  extent : Nat
  valid : BlockSet
  dirty : BlockSet
  /-- Present in FILLING from dispatch (R3). -/
  overtaken : Option BlockSet
  /-- Present in DRAINING from dispatch (R3). -/
  redirtied : Option BlockSet
  owners : OwnerSet
  heat : Nat
  idle : Nat
  /-- Present while dirty, outside IMPORTING (R4). -/
  dirtySince : Option Time
  strikes : Nat
  /-- The issue tag, present while the order is issued (R6). -/
  tag : Option Tag
  deriving DecidableEq, Repr

/-- A slot that is not FREE. A RETIRED slot has strikes 2 and is condemned by its state (R16). -/
inductive Slot where
  | bound (b : Binding)
  | retired
  deriving DecidableEq, Repr

/-- The Binding Table: N, E, and the slots that are not FREE, in rising slot order (log 13). -/
structure BindingTable where
  n : Nat
  e : Nat
  slots : List (Nat × Slot)
  deriving DecidableEq, Repr

/-- The fields of the persisted form (R17). -/
structure Record where
  slot : Nat
  /-- FREE 0, HELD 1, RETIRED 2 (section 10.7). -/
  pstate : Nat
  extent : Nat
  owners : OwnerSet
  condemned : Bool
  strikes : Nat
  valid : BlockSet
  dirty : BlockSet
  heat : Nat
  deriving DecidableEq, Repr

/-! ### Heat Unit (chapter 2) -/

inductive AccessKind where
  | read
  | write
  deriving DecidableEq, Repr

inductive Served where
  | flash
  | platter
  | platterWoke
  deriving DecidableEq, Repr

/-- An access item (chapter 2). -/
structure AccessItem where
  start : Nat
  count : Nat
  kind : AccessKind
  served : Served
  deriving DecidableEq, Repr

/-- A stream tracker that holds a stream (section 2.3). -/
structure Tracker where
  nextExpected : Nat
  run : Nat
  deriving DecidableEq, Repr

/-- The Heat Unit. The trackers stand in recency order; a place not listed is an empty tracker. -/
structure HeatUnit where
  intake : List AccessItem
  lapse : Bool
  lapseCount : Nat
  trackers : List Tracker
  wheel : Nat
  deriving DecidableEq, Repr

/-! ### Candidate Table (chapter 3) -/

/-- A WATCHING row. `expiryDue` is the model's own: the row met the test of R48 at the last advance (log 5). -/
structure Watch where
  extent : Nat
  heat : Nat
  idle : Nat
  eligible : Bool
  expiryDue : Bool
  deriving DecidableEq, Repr

/-- A row that is not EMPTY (section 3.1). -/
inductive Row where
  | watching (w : Watch)
  | barred (extent : Nat) (barredUntil : Time)
  deriving DecidableEq, Repr

/-- The Candidate Table: the rows that are not EMPTY, in rising row index (log 13). -/
structure CandidateTable where
  rows : List (Nat × Row)
  untracked : Nat
  deriving DecidableEq, Repr

/-! ### Admission Unit (chapter 4) -/

/-- The Admission Unit. `runsOwed` is the model's own: picker runs started and not yet taken (log 4). -/
structure Admission where
  tokens : Nat
  acc : Nat
  runsOwed : Nat
  deriving DecidableEq, Repr

/-! ### Order Unit (chapter 6) -/

inductive QueueId where
  | pinFill
  | heatFill
  | drain
  deriving DecidableEq, Repr

/-- The kind of an order, which is also its direction: FILL inward, DRAIN outward (R117). -/
inductive OrderKind where
  | fill
  | drain
  deriving DecidableEq, Repr

/-- The fields an order has for its whole life (section 6.1). Its kind follows from its queue (R97). -/
structure Order where
  queue : QueueId
  slot : Nat
  extent : Nat
  attempts : Nat
  backoff : Nat
  deriving DecidableEq, Repr

/-- A waiting order. -/
structure Waiting where
  order : Order
  notBefore : Option Time
  deriving DecidableEq, Repr

/-- An issued order. `timeoutDue` is the model's own: the order met the test of R113 at an advance (log 6). -/
structure Issued where
  order : Order
  blocks : BlockSet
  tag : Tag
  issueTime : Time
  timeoutDue : Bool
  deriving DecidableEq, Repr

structure OrderQueue where
  waiting : List Waiting
  skip : Bool
  halted : Bool
  deriving DecidableEq, Repr

/-- The marker of which of heat fill and drain was served last (R101). -/
inductive Marker where
  | heatFill
  | drain
  deriving DecidableEq, Repr

structure OrderUnit where
  pinFill : OrderQueue
  heatFill : OrderQueue
  drain : OrderQueue
  issued : List Issued
  tagCounter : Tag
  lastServed : Marker
  lastKind : Option OrderKind
  retryCount : Nat
  deriving DecidableEq, Repr

/-! ### Platter and Staging Monitor (chapter 7) -/

inductive PlatterState where
  | resting
  | waking
  | ready
  | parked
  | slowing
  deriving DecidableEq, Repr

inductive Supply where
  | mains
  | battery
  deriving DecidableEq, Repr

inductive HoldStage where
  | calm
  | soon
  | urgent
  | closed
  deriving DecidableEq, Repr

/-- A spin-up cadence that is not none: its stage, next due time and SOON step (R133). -/
structure SpinUp where
  stage : HoldStage
  nextDue : Time
  step : Nat
  deriving DecidableEq, Repr

/-- The Monitor. `drainRunsOwed` and the three `…Due` flags are the model's own (log 4, log 5). -/
structure Monitor where
  platter : PlatterState
  supply : Supply
  drainAll : Bool
  spinUp : Option SpinUp
  mains : Option Time
  restRef : Option Time
  restGiven : Bool
  drainRunsOwed : Nat
  spinUpDue : Bool
  mainsDue : Bool
  restDue : Bool
  deriving DecidableEq, Repr

/-! ### Pin Unit (chapter 8) -/

inductive AlertCode where
  | pinsLost
  | mapReplaced
  | pinsDropped
  deriving DecidableEq, Repr

/-- The Pin Unit's alerts, one for each owner. `scansOwed` is the model's own: refill scans started and not yet
taken (log 4). The pin limit is `Policy.pinLimit`; the pinned count is computed (log 13). -/
structure PinUnit where
  alert0 : Option AlertCode
  alert1 : Option AlertCode
  alert2 : Option AlertCode
  alert3 : Option AlertCode
  scansOwed : Nat
  deriving DecidableEq, Repr

/-! ### Map Journal Unit (chapter 9) -/

inductive Lifecycle where
  | unbound
  | importing
  | active
  deriving DecidableEq, Repr

structure LogEntry where
  slot : Nat
  time : Time
  deriving DecidableEq, Repr

/-- A waiting SYNC: the request in hand (its tag) and the SYNC mark (R158). -/
structure SyncWait where
  tag : Tag
  mark : Nat
  deriving DecidableEq, Repr

/-- A running export: the cursor and the count of records sent (R159). -/
structure Exporting where
  cursor : Nat
  sent : Nat
  deriving DecidableEq, Repr

structure Journal where
  life : Lifecycle
  log : List LogEntry
  sync : Option SyncWait
  stale : Bool
  exporting : Option Exporting
  accepted : Nat
  rejected : Nat
  deriving DecidableEq, Repr

/-! ### Policy (section 10.6) -/

/-- The 18 policy parameters, in id order. -/
structure Policy where
  aBase : Nat
  hyst : Nat
  bMax : Nat
  rate : Nat
  pc : Nat
  pr : Nat
  lifetime : Nat
  barPeriod : Nat
  streamThreshold : Nat
  sLim : Nat
  hHold : Nat
  drainDelay : Nat
  pinLimit : Nat
  orderTimeout : Nat
  flushCount : Nat
  deltaDelay : Nat
  restDelay : Nat
  window : Nat
  deriving DecidableEq, Repr

/-! ### Conditions and faults (chapter 11) -/

inductive CondKey where
  | none
  | form
  | range
  | phase
  | lost
  | limit
  | order
  deriving DecidableEq, Repr

inductive CondCode where
  | none
  | unknownKind
  | badLength
  | badField
  | outOfRange
  | unbound
  | importing
  | alreadyActive
  | noImport
  | pinsLost
  | mapReplaced
  | pinsDropped
  | importMismatch
  | late
  deriving DecidableEq, Repr

/-- The condition record (R183). -/
structure Condition where
  key : CondKey
  code : CondCode
  shortfall : Nat
  kind : Byte
  tag : Tag
  deriving DecidableEq, Repr

inductive FaultKind where
  | flashFault
  | platterFault
  | orderTimeout
  | orderExhausted
  | linkCheck
  | linkOverrun
  | linkForm
  | intakeLapse
  deriving DecidableEq, Repr

inductive Subject where
  | none
  | slot (k : Nat)
  | extent (x : Nat)
  | queue (q : QueueId)
  deriving DecidableEq, Repr

structure FaultEntry where
  kind : FaultKind
  subject : Subject
  first : Time
  last : Time
  repeats : Nat
  deriving DecidableEq, Repr

structure FaultUnit where
  cond : Condition
  faults : List FaultEntry
  overflow : Nat
  deriving DecidableEq, Repr

/-! ### Placement link (chapter 10) -/

/-- A frame without its sync, length and check, which follow from these (R168). -/
structure Frame where
  kind : Byte
  tag : Tag
  body : List Byte
  deriving DecidableEq, Repr

/-- A tier of a run (chapter 5). -/
inductive Tier where
  | flash (slot : Nat)
  | platter
  deriving DecidableEq, Repr

structure Run where
  first : Nat
  count : Nat
  tier : Tier
  deriving DecidableEq, Repr

/-- The fields of a STATUS reply (R178). -/
structure StatusBody where
  life : Lifecycle
  n : Nat
  e : Nat
  window : Nat
  free : Nat
  filling : Nat
  held : Nat
  draining : Nat
  retired : Nat
  dirtyCount : Nat
  pinnedCount : Nat
  tokens : Nat
  aEff : Nat
  stage : HoldStage
  oldestAge : Nat
  platter : PlatterState
  supply : Supply
  pinQueue : Nat
  heatQueue : Nat
  drainQueue : Nat
  pinSkip : Bool
  heatSkip : Bool
  drainSkip : Bool
  pinHalted : Bool
  heatHalted : Bool
  drainHalted : Bool
  issued : Nat
  logLength : Nat
  stale : Bool
  exporting : Bool
  lapseCount : Nat
  untracked : Nat
  faultCount : Nat
  seconds : Time
  deriving DecidableEq, Repr

/-- The fields after status OK (section 10.7). -/
inductive OkBody where
  | bare
  | attach (n e w : Nat)
  | importPut (rejected : Nat)
  | runs (covered : Nat) (runs : List Run)
  | covered (count : Nat)
  | shortfall (count : Nat)
  | released (count : Nat)
  | policy (p : Policy)
  | status (b : StatusBody)
  | condition (c : Condition) (retryCount : Nat)
  | faults (overflow : Nat) (entries : List FaultEntry)
  deriving DecidableEq, Repr

/-- The body of a reply by its status (R174). -/
inductive ReplyBody where
  | ok (b : OkBody)
  | refer (key : CondKey) (code : CondCode)
  | retry
  | needsPlatter
  deriving DecidableEq, Repr

/-- The REPLY frame waiting: the tag of the request it answers, and its body. -/
structure Reply where
  tag : Tag
  body : ReplyBody
  deriving DecidableEq, Repr

/-- An ORDER frame waiting (R106). -/
structure OrderFrame where
  tag : Tag
  kind : OrderKind
  slot : Nat
  extent : Nat
  blocks : BlockSet
  deriving DecidableEq, Repr

inductive AdviceKind where
  | spinUp
  | rest
  deriving DecidableEq, Repr

/-- An ADVICE frame waiting (R132). The urgency CALM stands for "none". -/
structure Advice where
  kind : AdviceKind
  urgency : HoldStage
  dirtyCount : Nat
  oldestAge : Nat
  queued : Nat
  deriving DecidableEq, Repr

/-- The Link Interface. `rx` holds the bytes of the frame the receiver is inside, or bytes it has still to hunt
through after a bad frame; an empty `rx` is HUNTING (log 3). -/
structure Link where
  rx : List Byte
  intake : List Frame
  reply : Option Reply
  orderFrames : List OrderFrame
  advice : Option Advice
  deltaAsking : Bool
  credit : Nat
  upLane : Option Frame
  deriving DecidableEq, Repr

/-! ### The whole state -/

/-- The state of the part and the queue of waiting commands. `choices` is the model's own counter, read by the one
free choice (log 7). -/
structure State where
  seconds : Time
  policy : Policy
  bt : BindingTable
  hu : HeatUnit
  ct : CandidateTable
  au : Admission
  ou : OrderUnit
  psm : Monitor
  pu : PinUnit
  mju : Journal
  lif : Link
  cfu : FaultUnit
  choices : Nat
  pending : List Instr
  deriving DecidableEq, Repr

/-! ### The state after reset -/

/-- The policy at power-on: every default of section 10.6, S_lim and the pin limit 0 because N is 0 (R177). -/
def Policy.default : Policy where
  aBase := 256
  hyst := 32
  bMax := 4096
  rate := 32
  pc := 4
  pr := 16
  lifetime := 300
  barPeriod := 3600
  streamThreshold := 128
  sLim := 0
  hHold := 600
  drainDelay := 30
  pinLimit := 0
  orderTimeout := 30
  flushCount := 16
  deltaDelay := 2
  restDelay := 20
  window := 4

/-- The Binding Table of R20 for a given E: E is "the value last taken", 0 after power-on (R152). -/
def BindingTable.empty (e : Nat) : BindingTable := ⟨0, e, []⟩

/-- R39. -/
def HeatUnit.reset : HeatUnit := ⟨[], false, 0, [], 0⟩

/-- R54. -/
def CandidateTable.reset : CandidateTable := ⟨[], 0⟩

/-- R71: T at the B_max in force, the accumulator 0, no run in progress. -/
def Admission.full (bMax : Nat) : Admission := ⟨bMax, 0, 0⟩

def OrderQueue.empty : OrderQueue := ⟨[], false, false⟩

/-- R120. -/
def OrderUnit.reset : OrderUnit := ⟨.empty, .empty, .empty, [], 1#16, .drain, none, 0⟩

/-- R137. -/
def Monitor.reset : Monitor :=
  ⟨.resting, .battery, false, none, none, none, false, 0, false, false, false⟩

/-- R150: every owner's alert is PINS-LOST. -/
def PinUnit.reset : PinUnit :=
  ⟨some .pinsLost, some .pinsLost, some .pinsLost, some .pinsLost, 0⟩

/-- R165. -/
def Journal.reset : Journal := ⟨.unbound, [], none, false, none, 0, 0⟩

/-- R181. -/
def Link.reset : Link := ⟨[], [], none, [], none, false, 0, none⟩

/-- R185: key, code, shortfall, kind and tag cleared. -/
def Condition.clear : Condition := ⟨.none, .none, 0, 0#8, 0#16⟩

/-- R185, R189. -/
def FaultUnit.reset : FaultUnit := ⟨.clear, [], 0⟩

/-- The part after power-on (R20, R39, R54, R71, R120, R137, R150, R165, R177, R181, R185, R189, R190), with no
command waiting. -/
def State.reset : State where
  seconds := 0#32
  policy := .default
  bt := .empty 0
  hu := .reset
  ct := .reset
  au := .full 4096
  ou := .reset
  psm := .reset
  pu := .reset
  mju := .reset
  lif := .reset
  cfu := .reset
  choices := 0
  pending := []

end Sys2Proof.Machine
end

