-- ==== Sys2Proof/Machine/Operands.lean ====
section
/-! DEFINITION. Reading operands: little-endian fields and records of section 10.7, the kind codes of section 10.3,
the row a request frame belongs to, and the division of a block range into extents (R1). -/

namespace Sys2Proof.Machine

/-! ### Fields of a body (section 10.7) -/

/-- The value of a little-endian field. -/
def leValue : List Byte → Nat
  | [] => 0
  | b :: rest => b.toNat + 256 * leValue rest

/-- The field of `size` bytes at `offset`. -/
def fieldAt (body : List Byte) (offset size : Nat) : Nat :=
  leValue ((body.drop offset).take size)

/-- `size` bytes of `v`, low byte first. -/
def leBytes : Nat → Nat → List Byte
  | 0, _ => []
  | size + 1, v => BitVec.ofNat 8 v :: leBytes size (v / 256)

/-- The body cut into records of `size` bytes, `count` of them. -/
def recordsOf (size : Nat) : Nat → List Byte → List (List Byte)
  | 0, _ => []
  | count + 1, body => body.take size :: recordsOf size count (body.drop size)

/-! ### Kind codes (section 10.3) -/

namespace Kind
def attach : Byte := 0x10#8
def importBegin : Byte := 0x11#8
def importPut : Byte := 0x12#8
def importEnd : Byte := 0x13#8
def exportMap : Byte := 0x14#8
def sync : Byte := 0x15#8
def lookup : Byte := 0x20#8
def planWrite : Byte := 0x21#8
def discard : Byte := 0x22#8
def pin : Byte := 0x30#8
def unpin : Byte := 0x31#8
def complete : Byte := 0x40#8
def queueControl : Byte := 0x41#8
def drainAll : Byte := 0x42#8
def policy : Byte := 0x50#8
def status : Byte := 0x51#8
def condition : Byte := 0x52#8
def faults : Byte := 0x53#8
def faultsClear : Byte := 0x54#8
def reset : Byte := 0x5F#8
def access : Byte := 0x60#8
def platter : Byte := 0x61#8
def supply : Byte := 0x62#8
def reply : Byte := 0x80#8
def order : Byte := 0x81#8
def delta : Byte := 0x82#8
def exportData : Byte := 0x83#8
def exportEnd : Byte := 0x84#8
def advice : Byte := 0x85#8
end Kind

/-- The rows of the opcode table that are the taking of a request frame. -/
inductive RequestRow where
  | attach
  | importBegin
  | importPut
  | importEnd
  | exportMap
  | sync
  | lookup
  | planWrite
  | discard
  | pin
  | unpin
  | unpinAll
  | complete
  | skipOn
  | skipOff
  | resume
  | drainAll
  | policy
  | status
  | condition
  | faults
  | faultsClear
  | resetWarm
  | resetCold
  | unknownKind
  deriving DecidableEq, Repr

/-- The row of a QUEUE-CONTROL frame by its action byte (R118). A frame with no such action, which is refused
whatever row takes it, is given to SKIP_ON (log 10). -/
def queueControlRow (body : List Byte) : RequestRow :=
  match fieldAt body 1 1 with
  | 1 => .skipOff
  | 2 => .resume
  | _ => .skipOn

/-- The row of an UNPIN frame: count 0 in a body of the right length is UNPIN_ALL (R147). -/
def unpinRow (body : List Byte) : RequestRow :=
  if body.length = 6 ∧ fieldAt body 5 1 = 0 then .unpinAll else .unpin

/-- The row of a RESET frame by its kind byte; a malformed one is given to RESET_WARM (log 10). -/
def resetRow (body : List Byte) : RequestRow :=
  if body.length = 1 ∧ fieldAt body 0 1 = 1 then .resetCold else .resetWarm

/-- The row that takes a request frame: exactly one for every frame. -/
def requestRow (f : Frame) : RequestRow :=
  if f.kind = Kind.attach then .attach
  else if f.kind = Kind.importBegin then .importBegin
  else if f.kind = Kind.importPut then .importPut
  else if f.kind = Kind.importEnd then .importEnd
  else if f.kind = Kind.exportMap then .exportMap
  else if f.kind = Kind.sync then .sync
  else if f.kind = Kind.lookup then .lookup
  else if f.kind = Kind.planWrite then .planWrite
  else if f.kind = Kind.discard then .discard
  else if f.kind = Kind.pin then .pin
  else if f.kind = Kind.unpin then unpinRow f.body
  else if f.kind = Kind.complete then .complete
  else if f.kind = Kind.queueControl then queueControlRow f.body
  else if f.kind = Kind.drainAll then .drainAll
  else if f.kind = Kind.policy then .policy
  else if f.kind = Kind.status then .status
  else if f.kind = Kind.condition then .condition
  else if f.kind = Kind.faults then .faults
  else if f.kind = Kind.faultsClear then .faultsClear
  else if f.kind = Kind.reset then resetRow f.body
  else .unknownKind

/-- Whether a kind code is a notice's (section 10.3). -/
def isNotice (kind : Byte) : Bool :=
  kind == Kind.access || kind == Kind.platter || kind == Kind.supply

/-- Whether a body length is right for the kind (the table "Request bodies" of section 10.7). -/
def lengthOk (row : RequestRow) (len : Nat) : Bool :=
  match row with
  | .attach | .importBegin => len == 7
  | .importPut => decide (26 ≤ len) && decide (len ≤ 416) && len % 26 == 0
  | .importEnd => len == 4
  | .exportMap | .sync | .drainAll | .status | .condition | .faults | .faultsClear => len == 0
  | .lookup | .planWrite | .discard => len == 6
  | .pin | .unpin | .unpinAll => len == 6
  | .complete => len == 11
  | .skipOn | .skipOff | .resume => len == 2
  | .policy => decide (len ≤ 80) && len % 5 == 0
  | .resetWarm | .resetCold => len == 1
  | .unknownKind => true

/-- The refusal of a request that the lifecycle does not serve (the table of R173). -/
def phaseRefusal (row : RequestRow) (life : Lifecycle) : Option CondCode :=
  match row with
  | .attach | .importBegin =>
    match life with
    | .unbound => none
    | .importing => some .importing
    | .active => some .alreadyActive
  | .importPut | .importEnd =>
    match life with
    | .importing => none
    | .unbound => some .noImport
    | .active => some .noImport
  | .policy | .status | .condition | .faults | .faultsClear | .resetWarm | .resetCold | .unknownKind => none
  | .exportMap | .sync | .lookup | .planWrite | .discard | .pin | .unpin | .unpinAll | .complete
  | .skipOn | .skipOff | .resume | .drainAll =>
    match life with
    | .unbound => some .unbound
    | .importing => some .importing
    | .active => none

/-! ### Enumerated operands (section 10.7) -/

def platterOf (v : Nat) : Option PlatterState :=
  match v with
  | 0 => some .resting
  | 1 => some .waking
  | 2 => some .ready
  | 3 => some .parked
  | 4 => some .slowing
  | _ => none

def supplyOf (v : Nat) : Option Supply :=
  match v with
  | 0 => some .mains
  | 1 => some .battery
  | _ => none

def queueOf (v : Nat) : Option QueueId :=
  match v with
  | 0 => some .pinFill
  | 1 => some .heatFill
  | 2 => some .drain
  | _ => none

/-- The completion codes (section 6.4). -/
inductive CompletionCode where
  | done
  | partialCopy
  | parked
  | refused
  | flashFault
  | platterFault
  | aborted
  deriving DecidableEq, Repr

def completionOf (v : Nat) : Option CompletionCode :=
  match v with
  | 0 => some .done
  | 1 => some .partialCopy
  | 2 => some .parked
  | 3 => some .refused
  | 4 => some .flashFault
  | 5 => some .platterFault
  | 6 => some .aborted
  | _ => none

def accessKindOf (v : Nat) : Option AccessKind :=
  match v with
  | 0 => some .read
  | 1 => some .write
  | _ => none

def servedOf (v : Nat) : Option Served :=
  match v with
  | 0 => some .flash
  | 1 => some .platter
  | 2 => some .platterWoke
  | _ => none

/-! ### Records carried in frames (section 10.7) -/

/-- One access item of 8 bytes, checked for form (R23). -/
def accessItemOf (bytes : List Byte) : Option AccessItem :=
  let count := fieldAt bytes 4 2
  if count = 0 ∨ 256 < count then none
  else
    match accessKindOf (fieldAt bytes 6 1), servedOf (fieldAt bytes 7 1) with
    | some kind, some served => some ⟨fieldAt bytes 0 4, count, kind, served⟩
    | _, _ => none

/-- All of them, or none if one is malformed (R23). -/
def accessItemsOf : List (List Byte) → Option (List AccessItem)
  | [] => some []
  | r :: rest =>
    match accessItemOf r, accessItemsOf rest with
    | some item, some items => some (item :: items)
    | _, _ => none

/-- A binding record as received (R182): bit 7 of the flags ignored, a strikes field of 3 taken as 2, a heat above
4095 taken as 4095. The persisted state is kept as the byte received; R163 rejects a value that is none. -/
def recordOfBytes (bytes : List Byte) : Record :=
  let flags := BitVec.ofNat 8 (fieldAt bytes 7 1)
  { slot := fieldAt bytes 0 2
    pstate := fieldAt bytes 6 1
    extent := fieldAt bytes 2 4
    owners := flags.extractLsb' 0 4
    condemned := flags.getLsbD 4
    strikes := min 2 (flags.extractLsb' 5 2).toNat
    valid := BitVec.ofNat 64 (fieldAt bytes 8 8)
    dirty := BitVec.ofNat 64 (fieldAt bytes 16 8)
    heat := min 4095 (fieldAt bytes 24 2) }

/-- The flags byte of a binding record. -/
def recordFlags (r : Record) : Nat :=
  r.owners.toNat + (if r.condemned then 16 else 0) + 32 * r.strikes

/-- The 26 bytes of a binding record (section 10.7). -/
def recordBytes (r : Record) : List Byte :=
  leBytes 2 r.slot ++ leBytes 4 r.extent ++ leBytes 1 r.pstate ++ leBytes 1 (recordFlags r)
    ++ leBytes 8 r.valid.toNat ++ leBytes 8 r.dirty.toNat ++ leBytes 2 r.heat

/-! ### Ranges and extents (R1) -/

/-- What a range has of one extent: the offsets `lo` to `hi - 1`. -/
structure Share where
  extent : Nat
  lo : Nat
  hi : Nat
  deriving DecidableEq, Repr

/-- How many blocks of the range lie in the extent. -/
def Share.count (sh : Share) : Nat := sh.hi - sh.lo

/-- The block set the range selects in the extent. -/
def Share.blocks (sh : Share) : BlockSet := BlockSet.span sh.lo sh.hi

/-- The range test of R1. -/
def outOfRange (e start count : Nat) : Bool :=
  count == 0 || decide (e * 64 < start + count)

/-- The share of extent `x` in the range. -/
def shareOf (start count x : Nat) : Share :=
  ⟨x, start - 64 * x, min 64 (start + count - 64 * x)⟩

/-- The touched extents of a range with a count above 0, ascending (R1). -/
def sharesOf (start count : Nat) : List Share :=
  (List.range ((start + count - 1) / 64 - start / 64 + 1)).map fun i =>
    shareOf start count (start / 64 + i)

/-- The count a request over a block range is served for: a count above 256 is taken as 256 (R73). -/
def clampedCount (count : Nat) : Nat := min 256 count

/-- The number of blocks of the range at or beyond block E×64, as the condition record holds it (R184). -/
def blocksBeyond (e start count : Nat) : Nat :=
  min 65535 (start + count - max start (e * 64))

/-- The number of extents of the range at or beyond extent E (R184). -/
def extentsBeyond (e first count : Nat) : Nat :=
  min 65535 (first + count - max first e)

/-- A value brought into a range (R153, R177). -/
def clampTo (lo hi v : Nat) : Nat := max lo (min hi v)

/-- The periods P_c and P_r: the largest of 1, 2, 4, 8, 16, 32 not above the value, 0 taken as 1 (R177). -/
def clampPeriod (v : Nat) : Nat :=
  if v < 2 then 1 else if v < 4 then 2 else if v < 8 then 4 else if v < 16 then 8 else if v < 32 then 16 else 32

end Sys2Proof.Machine
end

