-- ==== Sys2Proof/Machine/Table.lean ====
section
/-! DEFINITION. A table held sparsely: a list of keys and entries with the keys strictly rising. A key that is not
listed has no entry (a FREE slot, an EMPTY candidate row; log 13). -/

namespace Sys2Proof.Machine

/-- The entry of key `k`, if it has one. -/
def tget {α : Type} : List (Nat × α) → Nat → Option α
  | [], _ => none
  | (i, a) :: rest, k => if i = k then some a else tget rest k

/-- The table with the entry of key `k` set to `a`, in its place by number. -/
def tset {α : Type} : List (Nat × α) → Nat → α → List (Nat × α)
  | [], k, a => [(k, a)]
  | (i, b) :: rest, k, a =>
    if k < i then (k, a) :: (i, b) :: rest
    else if k = i then (k, a) :: rest
    else (i, b) :: tset rest k a

/-- The table with no entry for key `k`. -/
def terase {α : Type} : List (Nat × α) → Nat → List (Nat × α)
  | [], _ => []
  | (i, b) :: rest, k => if i = k then terase rest k else (i, b) :: terase rest k

/-- The lowest key from `from` to `n - 1` that has no entry. -/
def lowestAbsent {α : Type} (n start : Nat) : List (Nat × α) → Option Nat
  | [] => if start < n then some start else none
  | (i, _) :: rest =>
    if i = start then lowestAbsent n (start + 1) rest
    else if start < n then some start else none

/-- The canonical form: every key is below all the keys after it. -/
def tsorted {α : Type} : List (Nat × α) → Bool
  | [] => true
  | (i, _) :: rest => rest.all (fun p => decide (i < p.1)) && tsorted rest

end Sys2Proof.Machine
end

