-- ==== Sys2Proof/Machine/Flags.lean ====
section
/-! DEFINITION. What the part computes from its state whenever it is read: the residency index, counts, thresholds,
stages, gates, the eligible set, ATTN and the arbiter's view. None of it is stored (log 13). -/

namespace Sys2Proof.Machine

/-! ### Times (R190) -/

/-- The age of a recorded time: the counter minus that time, modulo 2^32. -/
def age (now t : Time) : Nat := (now - t).toNat

/-- Whether a recorded time has been reached: the counter minus the time, modulo 2^32, is below 2^31 (log 9). -/
def reached (now t : Time) : Bool := decide (age now t < 2147483648)

/-- A time `seconds` after `now`. -/
def after (now : Time) (seconds : Nat) : Time := now + BitVec.ofNat 32 seconds

/-! ### Bindings (chapter 1) -/

/-- Strikes have reached 2 (section 1.2). -/
def Binding.condemned (b : Binding) : Bool := decide (2 ≤ b.strikes)

/-- The owner set is not empty. -/
def Binding.pinned (b : Binding) : Bool := decide (b.owners ≠ 0#4)

/-- Some block is newer in flash than on the platter. -/
def Binding.isDirty (b : Binding) : Bool := decide (b.dirty ≠ BlockSet.none)

/-- The valid set is all 64 offsets. -/
def Binding.complete (b : Binding) : Bool := decide (b.valid = BlockSet.full)

/-- The owner's bit in an owner set. -/
def ownerBit (owner : Nat) : OwnerSet := BitVec.ofNat 4 (2 ^ owner)

/-- Whether the owner is in the set. -/
def hasOwner (owners : OwnerSet) (owner : Nat) : Bool := owners.getLsbD owner

/-- The set law of R2. -/
def Binding.setLaw (b : Binding) : Bool :=
  BlockSet.subset b.dirty b.valid
    && (match b.overtaken with | some o => BlockSet.subset o b.valid | none => true)
    && (match b.redirtied with | some r => BlockSet.subset r b.dirty | none => true)

/-- The binding of slot `k`, if it is bound. -/
def bindingAt (slots : List (Nat × Slot)) (k : Nat) : Option Binding :=
  match tget slots k with
  | some (.bound b) => some b
  | _ => none

/-- The residency index (R11): the slot that holds extent `x` and its binding, or none when `x` is unbound. -/
def residency : List (Nat × Slot) → Nat → Option (Nat × Binding)
  | [], _ => none
  | (k, .bound b) :: rest, x => if b.extent = x then some (k, b) else residency rest x
  | (_, .retired) :: rest, x => residency rest x

/-- The bound slots with their bindings, in rising slot order. -/
def bindingsOf : List (Nat × Slot) → List (Nat × Binding)
  | [] => []
  | (k, .bound b) :: rest => (k, b) :: bindingsOf rest
  | (_, .retired) :: rest => bindingsOf rest

/-- The lowest FREE slot: the head of the free-slot order (R12). -/
def lowestFree (bt : BindingTable) : Option Nat := lowestAbsent bt.n 0 bt.slots

/-- How many bindings have a property. -/
def countBindings (slots : List (Nat × Slot)) (p : Binding → Bool) : Nat :=
  (bindingsOf slots).countP fun kb => p kb.2

/-- The dirty binding count (R125). -/
def dirtyCount (slots : List (Nat × Slot)) : Nat := countBindings slots Binding.isDirty

/-- The pinned count (R139). -/
def pinnedCount (slots : List (Nat × Slot)) : Nat := countBindings slots Binding.pinned

/-- How many slots are RETIRED. -/
def retiredCount : List (Nat × Slot) → Nat
  | [] => 0
  | (_, .retired) :: rest => retiredCount rest + 1
  | (_, .bound _) :: rest => retiredCount rest

/-- The persisted form of slot `k` (R17). -/
def persisted (slots : List (Nat × Slot)) (k : Nat) : Record :=
  match tget slots k with
  | none => ⟨k, 0, 0, 0#4, false, 0, BlockSet.none, BlockSet.none, 0⟩
  | some .retired => ⟨k, 2, 0, 0#4, true, 2, BlockSet.none, BlockSet.none, 0⟩
  | some (.bound b) => ⟨k, 1, b.extent, b.owners, b.condemned, b.strikes, b.valid, b.dirty, b.heat⟩

/-- The test of R18: the persisted form of slot `k` differs in a field other than heat. -/
def persistedChanged (before now : List (Nat × Slot)) (k : Nat) : Bool :=
  decide ({ persisted before k with heat := 0 } ≠ { persisted now k with heat := 0 })

/-! ### Heat (chapter 2) and candidate rows (chapter 3) -/

/-- The visited heat: h minus ⌈h/8⌉ (R35). -/
def decayed (h : Nat) : Nat := h - (h + 7) / 8

/-- Heat after a contribution, saturating at 4095 (R31). -/
def warmed (h c : Nat) : Nat := min 4095 (h + c)

/-- The set of an extent (R41). -/
def setOf (x : Nat) : Nat := x % Config.candidateSets

/-- The row index of a way of a set (section 3.1). -/
def rowIndex (set way : Nat) : Nat := set * Config.candidateWays + way

/-- The extent a row holds. -/
def Row.extent : Row → Nat
  | .watching w => w.extent
  | .barred x _ => x

/-- The search of R41: the row of extent `x`, with its index. Only rows of the extent's own set are compared. -/
def findRow : List (Nat × Row) → Nat → Option (Nat × Row)
  | [], _ => none
  | (i, r) :: rest, x =>
    if i / Config.candidateWays = setOf x ∧ r.extent = x then some (i, r) else findRow rest x

/-- The heat a binding takes from the extent's row: a WATCHING row's heat, else 0 (R52). -/
def rowHeat (rows : List (Nat × Row)) (x : Nat) : Nat :=
  match findRow rows x with
  | some (_, .watching w) => w.heat
  | _ => 0

/-- The rows with the row of extent `x`, if any, EMPTY (R52). -/
def emptyRowOf (rows : List (Nat × Row)) (x : Nat) : List (Nat × Row) :=
  match findRow rows x with
  | some (i, _) => terase rows i
  | none => rows

/-- The lowest EMPTY way of a set, as a row index (R42, R50). -/
def emptyWay (rows : List (Nat × Row)) (set : Nat) : Option Nat :=
  ((List.range Config.candidateWays).map (rowIndex set)).find? fun i => (tget rows i).isNone

/-- The colder of two WATCHING ways (R43): lower heat, then higher idle age, then the lower way, which is `a`. -/
def colder (a b : Nat × Watch) : Nat × Watch :=
  if b.2.heat < a.2.heat ∨ (b.2.heat = a.2.heat ∧ a.2.idle < b.2.idle) then b else a

/-- The WATCHING ways of a set, lowest way first. -/
def watchingWays : List (Nat × Row) → Nat → List (Nat × Watch)
  | [], _ => []
  | (i, .watching w) :: rest, set =>
    if i / Config.candidateWays = set then (i, w) :: watchingWays rest set else watchingWays rest set
  | (_, .barred _ _) :: rest, set => watchingWays rest set

/-- The replacement choice of R43. -/
def replacementWay (rows : List (Nat × Row)) (set : Nat) : Option (Nat × Watch) :=
  match watchingWays rows set with
  | [] => none
  | w :: rest => some (rest.foldl colder w)

/-- The flagged rows, in rising row index. -/
def eligibleRows : List (Nat × Row) → List (Nat × Watch)
  | [] => []
  | (i, .watching w) :: rest => if w.eligible then (i, w) :: eligibleRows rest else eligibleRows rest
  | (_, .barred _ _) :: rest => eligibleRows rest

/-- The hotter of two flagged rows (R47): higher heat, then the lower row index, which is `a`. -/
def hotter (a b : Nat × Watch) : Nat × Watch := if a.2.heat < b.2.heat then b else a

/-- The head of the eligible set (R47). -/
def eligibleHead (rows : List (Nat × Row)) : Option (Nat × Watch) :=
  match eligibleRows rows with
  | [] => none
  | w :: rest => some (rest.foldl hotter w)

/-! ### Admission (chapter 4) -/

/-- A_eff for a token count (R61). -/
def thresholdAt (p : Policy) (tokens : Nat) : Nat :=
  p.aBase + p.aBase * (p.bMax - tokens) / p.bMax

/-- A_eff (R61). -/
def aEff (s : State) : Nat := thresholdAt s.policy s.au.tokens

/-- A binding qualifies as a victim (R67). -/
def Binding.victim (b : Binding) : Bool :=
  decide (b.state = .held) && !b.isDirty && !b.pinned && !b.condemned

/-- The better victim of two (R67): lower heat, then higher idle age, then the lower slot, which is `a`. -/
def betterVictim (a b : Nat × Binding) : Nat × Binding :=
  if b.2.heat < a.2.heat ∨ (b.2.heat = a.2.heat ∧ a.2.idle < b.2.idle) then b else a

/-- The victim of R67 among the bindings whose extent `excluded` leaves in (R86, R144). -/
def victimOf (slots : List (Nat × Slot)) (excluded : Nat → Bool) : Option (Nat × Binding) :=
  match (bindingsOf slots).filter (fun kb => kb.2.victim && !excluded kb.2.extent) with
  | [] => none
  | v :: rest => some (rest.foldl betterVictim v)

/-- The slot a staged write or a PIN takes, with the strikes it holds (R12, R69): the lowest FREE slot, or else
the victim with no hysteresis. -/
def takeSlot (bt : BindingTable) (excluded : Nat → Bool) : Option (Nat × Nat) :=
  match lowestFree bt with
  | some k => some (k, 0)
  | none => (victimOf bt.slots excluded).map fun kb => (kb.1, kb.2.strikes)

/-! ### Dirty data, hold stage and gates (chapter 7) -/

/-- The age of a binding's dirty-since, if it has one. -/
def Binding.dirtyAge (now : Time) (b : Binding) : Option Nat :=
  if b.isDirty then b.dirtySince.map (age now) else none

/-- The dirty ages of the bindings that have a dirty-since. -/
def dirtyAges (now : Time) (slots : List (Nat × Slot)) : List Nat :=
  (bindingsOf slots).filterMap fun kb => kb.2.dirtyAge now

/-- The oldest dirty age, 0 when no binding has a dirty-since (R125). -/
def oldestDirtyAge (now : Time) (slots : List (Nat × Slot)) : Nat :=
  (dirtyAges now slots).foldl max 0

/-- The hold stage for an oldest dirty age of bindings that are dirty (R126). -/
def stageAt (hHold a : Nat) : HoldStage :=
  if a < hHold / 2 then .calm
  else if a < 7 * hHold / 8 then .soon
  else if a < hHold then .urgent
  else .closed

/-- The hold stage (R126): CALM when no binding has a dirty-since. -/
def holdStage (s : State) : HoldStage :=
  match dirtyAges s.seconds s.bt.slots with
  | [] => .calm
  | a :: rest => stageAt s.policy.hHold (rest.foldl max a)

/-- The platter gate (R123). -/
def ready (s : State) : Bool := decide (s.psm.platter = .ready)

/-- The staging gate for a dirty binding count (R85, R127). -/
def stagingOpen (s : State) (dirty : Nat) : Bool :=
  decide (holdStage s ≠ .closed) && decide (dirty < s.policy.sLim)

/-- The part is ACTIVE (R152). -/
def active (s : State) : Bool := decide (s.mju.life = .active)

/-! ### Orders (chapter 6) -/

/-- The kind of a queue's orders (R97). -/
def QueueId.kind : QueueId → OrderKind
  | .pinFill => .fill
  | .heatFill => .fill
  | .drain => .drain

/-- A queue of the Order Unit. -/
def OrderUnit.queue (ou : OrderUnit) : QueueId → OrderQueue
  | .pinFill => ou.pinFill
  | .heatFill => ou.heatFill
  | .drain => ou.drain

/-- The length of a queue: its waiting orders. -/
def OrderUnit.length (ou : OrderUnit) (q : QueueId) : Nat := (ou.queue q).waiting.length

/-- The waiting orders of the three queues together (R132). -/
def OrderUnit.queued (ou : OrderUnit) : Nat := ou.length .pinFill + ou.length .heatFill + ou.length .drain

/-- The binding of the order's slot is condemned. -/
def condemnedSlot (slots : List (Nat × Slot)) (k : Nat) : Bool :=
  match bindingAt slots k with
  | some b => b.condemned
  | none => false

/-- Slot `k` has an entry in the delta log (R154). -/
def inLog (log : List LogEntry) (k : Nat) : Bool := log.any fun e => e.slot == k

/-- R156: the order's selection would retire its slot, the log holds 256 entries and the slot has none. The order of
a condemned binding is a DRAIN (R14), and its block set is empty when the binding is clean (R102). -/
def heldBack (s : State) (o : Order) : Bool :=
  decide (256 ≤ s.mju.log.length) && !inLog s.mju.log o.slot
    && (match bindingAt s.bt.slots o.slot with
        | some b => b.condemned && !b.isDirty
        | none => false)

/-- A waiting order is ready (R99). -/
def orderReady (s : State) (w : Waiting) : Bool := w.notBefore.isNone && !heldBack s w.order

/-- A queue is open: neither skipped nor halted, and it holds a ready order (R101). -/
def queueOpen (s : State) (q : QueueId) : Bool :=
  !(s.ou.queue q).skip && !(s.ou.queue q).halted && (s.ou.queue q).waiting.any (orderReady s)

/-- A drain for a condemned binding is waiting in the drain queue (R101). -/
def condemnedDrainWaiting (s : State) : Bool :=
  s.ou.drain.waiting.any fun w => condemnedSlot s.bt.slots w.order.slot

/-- The choice of the dispatch arbiter (R101), none when no queue is open. -/
def arbiterChoice (s : State) : Option QueueId :=
  if queueOpen s .drain
      && (decide (holdStage s = .urgent) || decide (holdStage s = .closed) || condemnedDrainWaiting s) then
    some .drain
  else if queueOpen s .pinFill then some .pinFill
  else
    match queueOpen s .heatFill, queueOpen s .drain with
    | true, true => if s.ou.lastServed = .heatFill then some .drain else some .heatFill
    | true, false => some .heatFill
    | false, true => some .drain
    | false, false => none

/-- The issued order with tag `t`. -/
def issuedWith (issued : List Issued) (t : Tag) : Option Issued := issued.find? fun o => o.tag == t

/-- The tag after `t`: 65535 is followed by 1 (R104). -/
def nextTag (t : Tag) : Tag := if t = 65535#16 then 1#16 else t + 1#16

/-- The first tag from the counter on that no issued order has (R104); each issued order can be passed over once. -/
def freeTag (issued : List Issued) : Nat → Tag → Tag
  | 0, t => t
  | fuel + 1, t => if (issuedWith issued t).isSome then freeTag issued fuel (nextTag t) else t

/-- The block set a selection computes (R102): what is not valid for a FILL, what is dirty for a DRAIN. -/
def selectionBlocks (q : QueueId) (b : Binding) : BlockSet :=
  match q.kind with
  | .fill => BlockSet.diff BlockSet.full b.valid
  | .drain => b.dirty

/-- The block set captured at the dispatch of slot `k`'s issued order. -/
def capturedBlocks (issued : List Issued) (k : Nat) : BlockSet :=
  match issued.find? (fun o => o.order.slot == k) with
  | some o => o.blocks
  | none => BlockSet.none

/-! ### The link (chapter 10) -/

/-- The conditions of R157 for asking the lane for a DELTA frame. -/
def deltaWanted (now : Time) (p : Policy) (j : Journal) : Bool :=
  match j.log with
  | [] => false
  | e :: _ => decide (p.flushCount ≤ j.log.length) || decide (p.deltaDelay ≤ age now e.time) || j.sync.isSome

/-- ATTN (R167). -/
def attn (s : State) : Bool :=
  s.lif.reply.isSome || !s.lif.orderFrames.isEmpty || s.lif.advice.isSome || s.lif.deltaAsking
    || s.mju.exporting.isSome || s.lif.upLane.isSome

/-- The classes of the outbound arbiter (R175). -/
inductive UpClass where
  | reply
  | order
  | delta
  | exporting
  | advice
  deriving DecidableEq, Repr

/-- The class the arbiter gives the lane to, none when nothing is waiting or asking (R175). -/
def upChoice (s : State) : Option UpClass :=
  if s.lif.reply.isSome then some .reply
  else if !s.lif.orderFrames.isEmpty then some .order
  else if s.lif.deltaAsking then some .delta
  else if s.mju.exporting.isSome then some .exporting
  else if s.lif.advice.isSome then some .advice
  else none

/-- The up lane may start a frame of this class: pull credit is there and the arbiter chooses it (R167, R175). -/
def granted (s : State) (c : UpClass) : Bool := decide (0 < s.lif.credit) && decide (upChoice s = some c)

/-- A frame can start at the last byte of the one being sent: pull credit is there, and something waits or asks
(R167). -/
def frameFollows (s : State) : Bool := decide (0 < s.lif.credit) && (upChoice s).isSome

/-- The lane is idle, an ORDER frame waits and the credit to start it is there: it starts (R167), ahead of the next reply
(R175, log 2). -/
def orderStarts (s : State) : Bool :=
  s.lif.upLane.isNone && decide (0 < s.lif.credit) && !s.lif.orderFrames.isEmpty

/-- A REPLY frame is being sent. -/
def sendingReply (s : State) : Bool := s.lif.upLane.any fun f => f.kind == Kind.reply

/-- The request handler may take a request: no SYNC waits, and no reply is waiting to be sent or being sent (R172); and no
ORDER frame is about to start on the idle lane, where it is served before the next reply is made (R175, log 2). -/
def handlerFree (s : State) : Bool :=
  s.mju.sync.isNone && s.lif.reply.isNone && !sendingReply s && !orderStarts s

end Sys2Proof.Machine
end

