-- ==== Sys2Proof/Machine/Ops.lean ====
section
/-! DEFINITION. The named operations that the meanings share: writing a block's fields, bindings and rows, the ends
of an order, the delta log, replies and refusals, faults, advice, and the taking of a request. -/

namespace Sys2Proof.Machine

/-! ### Writing one field -/

def State.withSlots (s : State) (slots : List (Nat × Slot)) : State :=
  { s with bt := { s.bt with slots := slots } }

def State.withRows (s : State) (rows : List (Nat × Row)) : State :=
  { s with ct := { s.ct with rows := rows } }

def State.withIntake (s : State) (intake : List Frame) : State :=
  { s with lif := { s.lif with intake := intake } }

/-- The binding of slot `k` becomes `b`. -/
def State.setBinding (s : State) (k : Nat) (b : Binding) : State :=
  s.withSlots (tset s.bt.slots k (.bound b))

/-- A promotion picker run is started (R63). -/
def State.startPicker (s : State) : State :=
  { s with au := { s.au with runsOwed := s.au.runsOwed + 1 } }

/-- A promotion picker run is started if `c` holds. -/
def State.startPickerIf (s : State) (c : Bool) : State := if c then s.startPicker else s

/-- A refill scan is started (R148). -/
def State.startScan (s : State) : State :=
  { s with pu := { s.pu with scansOwed := s.pu.scansOwed + 1 } }

/-- A refill scan is started if `c` holds. -/
def State.startScanIf (s : State) (c : Bool) : State := if c then s.startScan else s

/-- A drain picker run is started (R128). -/
def State.startDrainPicker (s : State) : State :=
  { s with psm := { s.psm with drainRunsOwed := s.psm.drainRunsOwed + 1 } }

/-- The queue `q` becomes `x`. -/
def OrderUnit.setQueue (ou : OrderUnit) (q : QueueId) (x : OrderQueue) : OrderUnit :=
  match q with
  | .pinFill => { ou with pinFill := x }
  | .heatFill => { ou with heatFill := x }
  | .drain => { ou with drain := x }

/-- The waiting orders of queue `q` become `ws`. -/
def State.setWaiting (s : State) (q : QueueId) (ws : List Waiting) : State :=
  { s with ou := s.ou.setQueue q { s.ou.queue q with waiting := ws } }

/-- The halted flag of queue `q` becomes `h`. -/
def State.setHalted (s : State) (q : QueueId) (h : Bool) : State :=
  { s with ou := s.ou.setQueue q { s.ou.queue q with halted := h } }

/-- The skip flag of queue `q` becomes `k`. -/
def State.setSkip (s : State) (q : QueueId) (k : Bool) : State :=
  { s with ou := s.ou.setQueue q { s.ou.queue q with skip := k } }

/-! ### Faults (R187) -/

/-- The fault table's entries with this fault folded in, if it is there. -/
def foldFault (now : Time) (kind : FaultKind) (subject : Subject) : List FaultEntry → Option (List FaultEntry)
  | [] => none
  | e :: rest =>
    if e.kind = kind ∧ e.subject = subject then
      some ({ e with repeats := min 255 (e.repeats + 1), last := now } :: rest)
    else (foldFault now kind subject rest).map (e :: ·)

/-- A fault reaches the fault table (R187): folded, added, or counted in the overflow count. -/
def State.recordFault (s : State) (kind : FaultKind) (subject : Subject) : State :=
  match foldFault s.seconds kind subject s.cfu.faults with
  | some entries => { s with cfu := { s.cfu with faults := entries } }
  | none =>
    if s.cfu.faults.length < 8 then
      { s with cfu := { s.cfu with faults := s.cfu.faults ++ [⟨kind, subject, s.seconds, s.seconds, 1⟩] } }
    else { s with cfu := { s.cfu with overflow := min 65535 (s.cfu.overflow + 1) } }

/-! ### Replies and the condition record (R174, R183, R185) -/

/-- The REPLY frame waiting becomes this one. -/
def State.reply (s : State) (tag : Tag) (body : ReplyBody) : State :=
  { s with lif := { s.lif with reply := some ⟨tag, body⟩ } }

/-- The condition record is cleared (R185). -/
def State.clearCondition (s : State) : State := { s with cfu := { s.cfu with cond := .clear } }

/-- An OK reply to a request other than CONDITION: it clears the condition record in its change (R185). -/
def State.answerOk (s : State) (tag : Tag) (b : OkBody) : State := s.clearCondition.reply tag (.ok b)

/-- A REFER reply: it replaces the condition record in its change (R183). -/
def State.refer (s : State) (f : Frame) (key : CondKey) (code : CondCode) (shortfall : Nat) : State :=
  { s with cfu := { s.cfu with cond := ⟨key, code, shortfall, f.kind, f.tag⟩ } }.reply f.tag (.refer key code)

/-! ### The end of a frame on the up lane (R167) -/

/-- The pull credit is 0 while ATTN is deasserted (R167). -/
def State.settleCredit (s : State) : State :=
  if attn s then s else { s with lif := { s.lif with credit := 0 } }

/-- The frame being sent reaches its last byte: the lane is idle, and ATTN may fall (R167, log 2). -/
def State.finishFrame (s : State) : State :=
  { s with lif := { s.lif with upLane := none } }.settleCredit

/-- The state in which the next request can be taken (R172): a REPLY that was being sent has been sent (log 2). -/
def State.replySent (s : State) : State := if sendingReply s then s.finishFrame else s

/-! ### The taking of a request (R172, R173) -/

/-- The request at the head of the intake is taken (R172), checked (R173) and served, if it belongs to `row`. -/
def takeHead (row : RequestRow) (serve : Frame → State → State) (s : State) : Option State :=
  match s.lif.intake with
  | [] => none
  | f :: rest =>
    if requestRow f = row then
      match phaseRefusal row s.mju.life with
      | some code => some ((s.withIntake rest).refer f .phase code 0)
      | none =>
        if lengthOk row f.body.length then some (serve f (s.withIntake rest))
        else some ((s.withIntake rest).refer f .form .badLength f.body.length)
    else none

/-- A request row: the reply before it has been sent, and the request is taken; where the handler is not free, or
there is no request of the row, nothing happens (R172, log 12). -/
def takeRequest (row : RequestRow) (serve : Frame → State → State) (s : State) : State :=
  if handlerFree s.replySent then (takeHead row serve s.replySent).getD s else s

/-! ### The delta log (R18, R154, R155, R157) -/

/-- The log with the entry that a change of slot `k` needs, if it needs one (R18, R154). -/
def addEntry (now : Time) (before after : List (Nat × Slot)) (log : List LogEntry) (k : Nat) : List LogEntry :=
  if persistedChanged before after k && !inLog log k then log ++ [⟨k, now⟩] else log

/-- The log after a change that touches the slots `ks`, in that order (log 8). -/
def grownLog (now : Time) (before after : List (Nat × Slot)) (log : List LogEntry) (ks : List Nat) : List LogEntry :=
  ks.foldl (addEntry now before after) log

/-- The room a request other than COMPLETE needs (R155): no new entry, or at most 240 with the new ones. -/
def requestRoom (log grown : List LogEntry) : Bool :=
  decide (grown.length ≤ log.length) || decide (grown.length ≤ 240)

/-- The room a completion, a timeout or a change of R156 needs (R155): no new entry, or at most 256. -/
def orderRoom (log grown : List LogEntry) : Bool :=
  decide (grown.length ≤ log.length) || decide (grown.length ≤ 256)

/-- The MJU's test of R157: it asks for the lane while a condition holds, by the flush count and the delta delay as they
stand, and no longer once none does (log 11). -/
def State.askDelta (s : State) : State :=
  { s with lif := { s.lif with deltaAsking := deltaWanted s.seconds s.policy s.mju } }

/-- The change from the slots `before` to those of `s` enters the log for the slots `ks` (R18). -/
def State.logChange (s : State) (before : List (Nat × Slot)) (ks : List Nat) : State :=
  { s with mju := { s.mju with log := grownLog s.seconds before s.bt.slots s.mju.log ks } }.askDelta

/-! ### Bindings (R4, R8, R9, R16) -/

/-- A new binding (R8): idle age 0, no order. `now` is its dirty-since if it is dirty (R4). -/
def newBinding (state : BindState) (x : Nat) (blocks : BlockSet) (owners : OwnerSet) (heat strikes : Nat)
    (now : Time) : Binding where
  state := state
  extent := x
  valid := blocks
  dirty := blocks
  overtaken := none
  redirtied := none
  owners := owners
  heat := heat
  idle := 0
  dirtySince := if blocks = BlockSet.none then none else some now
  strikes := strikes
  tag := none

/-- A write of `w` directed to flash (R80, R81, R88). `captured` is the block set of the binding's issued order. -/
def Binding.written (b : Binding) (w captured : BlockSet) (now : Time) : Binding :=
  { b with
    valid := b.valid ||| w
    dirty := b.dirty ||| w
    overtaken := b.overtaken.map (· ||| w)
    redirtied := b.redirtied.map (· ||| (w &&& captured))
    dirtySince := if b.isDirty || decide (w = BlockSet.none) then b.dirtySince else some now }

/-- The blocks `r` removed from every set of the binding (R92); a dirty set this empties loses its dirty-since. -/
def Binding.without (b : Binding) (r : BlockSet) : Binding :=
  { b with
    valid := BlockSet.diff b.valid r
    dirty := BlockSet.diff b.dirty r
    overtaken := b.overtaken.map (BlockSet.diff · r)
    redirtied := b.redirtied.map (BlockSet.diff · r)
    dirtySince := if BlockSet.diff b.dirty r = BlockSet.none then none else b.dirtySince }

/-- The binding with no order of its own: no issue tag, overtaken set or redirtied set (R3, R6, R10). -/
def Binding.orderless (b : Binding) : Binding :=
  { b with overtaken := none, redirtied := none, tag := none }

/-- The alert of one owner becomes `a`. -/
def PinUnit.setAlert (pu : PinUnit) (owner : Nat) (a : Option AlertCode) : PinUnit :=
  match owner with
  | 0 => { pu with alert0 := a }
  | 1 => { pu with alert1 := a }
  | 2 => { pu with alert2 := a }
  | 3 => { pu with alert3 := a }
  | _ => pu

/-- The alert of one owner. -/
def PinUnit.alert (pu : PinUnit) (owner : Nat) : Option AlertCode :=
  match owner with
  | 0 => pu.alert0
  | 1 => pu.alert1
  | 2 => pu.alert2
  | 3 => pu.alert3
  | _ => none

/-- The alert of every owner in the set becomes `c` (R141). -/
def PinUnit.raise (pu : PinUnit) (owners : OwnerSet) (c : AlertCode) : PinUnit :=
  { pu with
    alert0 := if hasOwner owners 0 then some c else pu.alert0
    alert1 := if hasOwner owners 1 then some c else pu.alert1
    alert2 := if hasOwner owners 2 then some c else pu.alert2
    alert3 := if hasOwner owners 3 then some c else pu.alert3 }

/-- Slot `k`, which held `b`, becomes RETIRED: its pins are dropped and their owners alerted (R16). -/
def State.retire (s : State) (k : Nat) (b : Binding) : State :=
  { s.withSlots (tset s.bt.slots k .retired) with pu := s.pu.raise b.owners .pinsDropped }

/-- Slot `k` is released to FREE (R9). -/
def State.release (s : State) (k : Nat) : State := s.withSlots (terase s.bt.slots k)

/-- The drain-all flag is cleared in the change that makes the dirty binding count 0 (R131). -/
def State.settleDrainAll (s : State) : State :=
  if dirtyCount s.bt.slots = 0 then { s with psm := { s.psm with drainAll := false } } else s

/-! ### Candidate rows (R42, R43, R50) -/

/-- The row of a WATCHING extent after a contribution `c`, tested for eligibility against `threshold` (R32, R45). -/
def Watch.contribute (w : Watch) (c threshold : Nat) : Watch :=
  { w with
    heat := warmed w.heat c
    idle := w.idle % 8
    eligible := w.eligible || decide (threshold ≤ warmed w.heat c) }

/-- A row newly made for an extent by a contribution `c`, tested at once (R42, R45). -/
def newWatch (x c threshold : Nat) : Watch :=
  ⟨x, c, 0, decide (threshold ≤ c), false⟩

/-- Where a contribution `c` for an unbound extent with no row goes (R42, R43): a row index, or none (untracked). -/
def allocateWay (rows : List (Nat × Row)) (x c : Nat) : Option Nat :=
  match emptyWay rows (setOf x) with
  | some i => some i
  | none =>
    match replacementWay rows (setOf x) with
    | some (i, w) => if w.heat ≤ c then some i else none
    | none => none

/-- The rows with extent `x` barred (R50): an EMPTY way, else the replacement way, else no bar. -/
def barExtent (rows : List (Nat × Row)) (x : Nat) (barredUntil : Time) : List (Nat × Row) :=
  match emptyWay rows (setOf x) with
  | some i => tset rows i (.barred x barredUntil)
  | none =>
    match replacementWay rows (setOf x) with
    | some (i, _) => tset rows i (.barred x barredUntil)
    | none => rows

/-! ### Orders (R97, R98, R106, R110, R111) -/

/-- A new order (R97): 3 attempts left, backoff interval 0. -/
def newOrder (q : QueueId) (k x : Nat) : Waiting := ⟨⟨q, k, x, 3, 0⟩, none⟩

/-- The place of a condemned binding's drain (R98): behind the last condemned binding's drain waiting, and ahead of
every waiting drain when there is none. Where a returned drain that is not condemned stands ahead of a waiting condemned
one, no place is both behind the one and ahead of the other: that the new drain then joins behind the condemned one is the
model's choice (DESIGN CHOICE, log 19). -/
def joinCondemned (slots : List (Nat × Slot)) (w : Waiting) : List Waiting → List Waiting
  | [] => [w]
  | v :: rest =>
    if (v :: rest).any (fun u => condemnedSlot slots u.order.slot) then v :: joinCondemned slots w rest
    else w :: v :: rest

/-- The issued order with tag `t` leaves the issued set, and its unsent frame is withdrawn (R106). -/
def State.dropIssued (s : State) (t : Tag) : State :=
  { s with
    ou := { s.ou with issued := s.ou.issued.filter fun o => o.tag != t }
    lif := { s.lif with orderFrames := s.lif.orderFrames.filter fun f => f.tag != t } }

/-- The end of an order at its slot (R10): RETIRED if condemned and clean, FREE if `free` and R9 releases it,
else HELD. A slot that comes to HELD pinned starts the refill scan (R148). -/
def State.leaveOrder (s : State) (k : Nat) (b : Binding) (free : Bool) : State :=
  if b.condemned && !b.isDirty then s.retire k b
  else if free && !b.isDirty && !b.pinned && !b.condemned then s.release k
  else (s.setBinding k { b.orderless with state := .held }).startScanIf b.pinned

/-- An order goes back to the head of its queue (R110, R113): its binding keeps its state and loses tag, overtaken
and redirtied sets, and the retry count rises by one (R117). -/
def State.returnOrder (s : State) (o : Order) (b : Binding) (notBefore : Option Time) : State :=
  let s1 := (s.setBinding o.slot b.orderless).setWaiting o.queue (⟨o, notBefore⟩ :: (s.ou.queue o.queue).waiting)
  { s1 with ou := { s1.ou with retryCount := min 65535 (s1.ou.retryCount + 1) } }

/-- An order is exhausted (R111): ORDER-EXHAUSTED is recorded; a heat fill's slot may be released and its extent
barred (R50), and its removal starts a picker run; a pin fill or a drain halts its queue. -/
def State.exhaust (s : State) (o : Order) (b : Binding) : State :=
  let s1 := s.recordFault .orderExhausted (.queue o.queue)
  match o.queue with
  | .heatFill =>
    let freed := !b.isDirty && !b.pinned && !b.condemned
    let s2 := s1.leaveOrder o.slot b true
    let s3 := if freed then s2.withRows (barExtent s2.ct.rows b.extent (after s.seconds s.policy.barPeriod)) else s2
    s3.startPicker
  | .pinFill => (s1.leaveOrder o.slot b false).setHalted .pinFill true
  | .drain => (s1.leaveOrder o.slot b false).setHalted .drain true

/-- A counted failure of an order that goes on (R110, R113): one attempt less and the backoff interval 0; back to
the head of its queue, or exhausted. -/
def State.countFailure (s : State) (o : Order) (b : Binding) : State :=
  if o.attempts ≤ 1 then s.exhaust { o with attempts := 0, backoff := 0 } b
  else s.returnOrder { o with attempts := o.attempts - 1, backoff := 0 } b none

/-! ### Advice (R132) -/

/-- An ADVICE frame is made; it replaces one that waits (R132). -/
def State.advise (s : State) (kind : AdviceKind) (urgency : HoldStage) : State :=
  { s with
    lif := { s.lif with
      advice := some ⟨kind, urgency, dirtyCount s.bt.slots, oldestDirtyAge s.seconds s.bt.slots, s.ou.queued⟩ } }

/-- The spin-up cadence starts for a stage: an advice now, the next due in 15 seconds, and SOON step 1 (R133). R133 sets
the step for SOON alone: that a start at URGENT or CLOSED sets 1 too, where nothing reads it, is the model's choice, and
with no cadence no step is held (DESIGN CHOICE, log 17). -/
def State.startSpinUp (s : State) (stage : HoldStage) : State :=
  { s.advise .spinUp stage with
    psm := { s.psm with spinUp := some ⟨stage, after s.seconds 15, 1⟩ } }

end Sys2Proof.Machine
end

