-- ==== Sys2Proof/Machine/Admin.lean ====
section
/-! DEFINITION. Requests of the link and of the Condition and Fault Unit (chapters 10 and 11): POLICY, STATUS,
CONDITION, FAULTS, FAULTS_CLEAR and UNKNOWN_KIND_REQUEST. -/

namespace Sys2Proof.Machine

/-! ### POLICY (R176, R177) -/

/-- One pair of a POLICY body: id and value. -/
def pairOf (bytes : List Byte) : Nat × Nat := (fieldAt bytes 0 1, fieldAt bytes 1 4)

def policyPairs (f : Frame) : List (Nat × Nat) := (recordsOf 5 (f.body.length / 5) f.body).map pairOf

/-- An id of the policy table. -/
def knownId (id : Nat) : Bool := decide (1 ≤ id) && decide (id ≤ 18)

/-- One parameter set to a value, clamped as R177 states; `n` and `pinned` bound S_lim and the pin limit. -/
def Policy.set (p : Policy) (n pinned id v : Nat) : Policy :=
  match id with
  | 1 => { p with aBase := clampTo 16 2048 v }
  | 2 => { p with hyst := clampTo 0 1024 v }
  | 3 => { p with bMax := clampTo 64 16384 v }
  | 4 => { p with rate := clampTo 0 600 v }
  | 5 => { p with pc := clampPeriod v }
  | 6 => { p with pr := clampPeriod v }
  | 7 => { p with lifetime := clampTo 10 1023 v }
  | 8 => { p with barPeriod := clampTo 60 65535 v }
  | 9 => { p with streamThreshold := clampTo 16 4096 v }
  | 10 => { p with sLim := clampTo 0 n v }
  | 11 => { p with hHold := clampTo 60 3600 v }
  | 12 => { p with drainDelay := clampTo 0 600 v }
  | 13 => { p with pinLimit := clampTo pinned n v }
  | 14 => { p with orderTimeout := clampTo 5 255 v }
  | 15 => { p with flushCount := clampTo 1 16 v }
  | 16 => { p with deltaDelay := clampTo 0 60 v }
  | 17 => { p with restDelay := clampTo 5 600 v }
  | 18 => { p with window := clampTo 1 8 v }
  | _ => p

/-- One pair applied; a new B_max lowers T to it in the same change (R60). That a B_max pair lowers T although a later pair
of the same POLICY overwrites it is the model's choice (DESIGN CHOICE, log 18). -/
def applyPair (s : State) (pair : Nat × Nat) : State :=
  let p := s.policy.set s.bt.n (pinnedCount s.bt.slots) pair.1 pair.2
  { s with
    policy := p
    au := { s.au with tokens := if pair.1 = 3 then min s.au.tokens p.bMax else s.au.tokens } }

/-- POLICY served (R176); the shortfall of a bad id is the offset of the first bad id byte (R184). -/
def servePolicy (f : Frame) (s : State) : State :=
  match (policyPairs f).findIdx? (fun pair => !knownId pair.1) with
  | some i => s.refer f .form .badField (5 * i)
  | none =>
    let s1 := (policyPairs f).foldl applyPair s
    s1.answerOk f.tag (.policy s1.policy)

/-- POLICY (R176). -/
def execPolicy (s : State) : Host.Outcome State Fault Refusal :=
  .next (takeRequest .policy servePolicy s)

/-! ### STATUS (R178) -/

/-- The fields of a STATUS reply as they stand (R178). -/
def statusOf (s : State) : StatusBody where
  life := s.mju.life
  n := s.bt.n
  e := s.bt.e
  window := s.policy.window
  free := s.bt.n - s.bt.slots.length
  filling := countBindings s.bt.slots fun b => decide (b.state = .filling)
  held := countBindings s.bt.slots fun b => decide (b.state = .held)
  draining := countBindings s.bt.slots fun b => decide (b.state = .draining)
  retired := retiredCount s.bt.slots
  dirtyCount := dirtyCount s.bt.slots
  pinnedCount := pinnedCount s.bt.slots
  tokens := s.au.tokens
  aEff := aEff s
  stage := holdStage s
  oldestAge := oldestDirtyAge s.seconds s.bt.slots
  platter := s.psm.platter
  supply := s.psm.supply
  pinQueue := s.ou.length .pinFill
  heatQueue := s.ou.length .heatFill
  drainQueue := s.ou.length .drain
  pinSkip := s.ou.pinFill.skip
  heatSkip := s.ou.heatFill.skip
  drainSkip := s.ou.drain.skip
  pinHalted := s.ou.pinFill.halted
  heatHalted := s.ou.heatFill.halted
  drainHalted := s.ou.drain.halted
  issued := s.ou.issued.length
  logLength := s.mju.log.length
  stale := s.mju.stale
  exporting := s.mju.exporting.isSome
  lapseCount := s.hu.lapseCount
  untracked := s.ct.untracked
  faultCount := s.cfu.faults.length
  seconds := s.seconds

/-- STATUS served: the fields reported, the lapse and untracked counts zeroed (R26, R44, R178). -/
def serveStatus (f : Frame) (s : State) : State :=
  { s with
    hu := { s.hu with lapseCount := 0 }
    ct := { s.ct with untracked := 0 } }.answerOk f.tag (.status (statusOf s))

/-- STATUS (R178). -/
def execStatus (s : State) : Host.Outcome State Fault Refusal :=
  .next (takeRequest .status serveStatus s)

/-! ### CONDITION, FAULTS, FAULTS-CLEAR (R186, R188) -/

/-- CONDITION served: an OK reply that leaves the record as it was (R185, R186). -/
def serveCondition (f : Frame) (s : State) : State :=
  s.reply f.tag (.ok (.condition s.cfu.cond s.ou.retryCount))

/-- CONDITION (R186). -/
def execCondition (s : State) : Host.Outcome State Fault Refusal :=
  .next (takeRequest .condition serveCondition s)

/-- FAULTS served (R188). -/
def serveFaults (f : Frame) (s : State) : State :=
  s.answerOk f.tag (.faults s.cfu.overflow s.cfu.faults)

/-- FAULTS (R188). -/
def execFaults (s : State) : Host.Outcome State Fault Refusal :=
  .next (takeRequest .faults serveFaults s)

/-- FAULTS-CLEAR served (R188). -/
def serveFaultsClear (f : Frame) (s : State) : State :=
  { s with cfu := { s.cfu with faults := [], overflow := 0 } }.answerOk f.tag .bare

/-- FAULTS_CLEAR (R188). -/
def execFaultsClear (s : State) : Host.Outcome State Fault Refusal :=
  .next (takeRequest .faultsClear serveFaultsClear s)

/-! ### A kind code that is no request kind (R173) -/

/-- The refusal FORM/UNKNOWN-KIND (R173, R184). -/
def serveUnknownKind (f : Frame) (s : State) : State := s.refer f .form .unknownKind 0

/-- UNKNOWN_KIND_REQUEST (R173). -/
def execUnknownKindRequest (s : State) : Host.Outcome State Fault Refusal :=
  .next (takeRequest .unknownKind serveUnknownKind s)

end Sys2Proof.Machine
end

