-- ==== Sys2Proof/Machine/Advice.lean ====
section
/-! DEFINITION. The advice rules of an advance (section 7.5): SPIN_UP_CADENCE, MAINS_CADENCE and REST_ADVICE. Each
test is made once for an advance (log 5). -/

namespace Sys2Proof.Machine

/-- The interval to the next SPIN-UP/SOON advice, by the SOON step before the advice (R133). -/
def soonInterval (step : Nat) : Nat := if step = 1 then 30 else 60

/-- The cadence after an advice that was due (R133). -/
def SpinUp.next (c : SpinUp) : SpinUp :=
  if c.stage = .soon then ⟨c.stage, after c.nextDue (soonInterval c.step), min 4 (c.step + 1)⟩
  else ⟨c.stage, after c.nextDue 15, c.step⟩

/-- The spin-up cadence against the hold stage `stage` (R133). -/
def spinUpTest (s : State) (stage : HoldStage) : State :=
  if ready s ∨ stage = .calm then { s with psm := { s.psm with spinUp := none } }
  else
    match s.psm.spinUp with
    | none => s.startSpinUp stage
    | some c =>
      if c.stage = stage then
        if reached s.seconds c.nextDue then
          { s.advise .spinUp stage with psm := { s.psm with spinUp := some c.next } }
        else s
      else s.startSpinUp stage

/-- SPIN_UP_CADENCE (R133). -/
def execSpinUpCadence (s : State) : Host.Outcome State Fault Refusal :=
  .next (if active s && s.psm.spinUpDue then
      spinUpTest { s with psm := { s.psm with spinUpDue := false } } (holdStage s)
    else s)

/-- The conditions under which the mains cadence runs (R135). -/
def mainsHolds (s : State) : Bool :=
  decide (s.psm.supply = .mains) && decide (0 < s.ou.length .pinFill) && !ready s && s.psm.spinUp.isNone

/-- The mains cadence (R135). -/
def mainsTest (s : State) : State :=
  if mainsHolds s then
    match s.psm.mains with
    | none => { s.advise .spinUp .soon with psm := { s.psm with mains := some (after s.seconds 60) } }
    | some due =>
      if reached s.seconds due then
        { s.advise .spinUp .soon with psm := { s.psm with mains := some (after due 60) } }
      else s
  else { s with psm := { s.psm with mains := none } }

/-- MAINS_CADENCE (R135). -/
def execMainsCadence (s : State) : Host.Outcome State Fault Refusal :=
  .next (if active s && s.psm.mainsDue then mainsTest { s with psm := { s.psm with mainsDue := false } } else s)

/-- How long the quiet must last (R136). -/
def restWait (s : State) : Nat :=
  match s.psm.supply with
  | .mains => s.policy.restDelay
  | .battery => s.policy.restDelay / 2

/-- The conditions of the REST advice (R136). -/
def restHolds (s : State) : Bool :=
  ready s && decide (dirtyCount s.bt.slots = 0) && decide (s.ou.queued = 0) && s.ou.issued.isEmpty
    && !s.psm.restGiven
    && (match s.psm.restRef with
        | some t => decide (restWait s ≤ age s.seconds t)
        | none => false)

/-- The REST advice (R136). -/
def restTest (s : State) : State :=
  if restHolds s then { s.advise .rest .calm with psm := { s.psm with restGiven := true } } else s

/-- REST_ADVICE (R136). -/
def execRestAdvice (s : State) : Host.Outcome State Fault Refusal :=
  .next (if active s && s.psm.restDue then restTest { s with psm := { s.psm with restDue := false } } else s)

end Sys2Proof.Machine
end

