-- ==== Sys2Proof/Machine/Clock.lean ====
section
/-! DEFINITION. The seconds counter and what an advance makes due: SECONDS_ADVANCE, ROW_EXPIRY, BAR_END, BACKOFF_END,
ORDER_TIMEOUT and DELTA_DELAY_EXPIRY. -/

namespace Sys2Proof.Machine

/-! ### The advance (R33 to R36, R57, R190) -/

/-- An idle age a second later, saturating at 1023 (R33). -/
def aged (idle : Nat) : Nat := min 1023 (idle + 1)

/-- The wheel at position `wheel` visits an extent of a schedule with this period (R34). -/
def onWheel (wheel period x : Nat) : Bool := decide (x % period = wheel % period)

/-- A binding at an advance: decayed if it is visited, a second older (R33, R34, R36). -/
def Binding.advance (wheel pr : Nat) (b : Binding) : Binding :=
  { b with
    heat := if !b.pinned && onWheel wheel pr b.extent then decayed b.heat else b.heat
    idle := aged b.idle }

/-- A slot at an advance. -/
def Slot.advance (wheel pr : Nat) : Slot → Slot
  | .bound b => .bound (b.advance wheel pr)
  | .retired => .retired

/-- Whether a visit that leaves heat `h` keeps the eligible flag of row `i` (R46). `low` and `high` are A_eff after
and before the refill of this advance; between them the choice is free (log 7). -/
def visitKeeps (choice i low high h : Nat) : Bool :=
  decide (high ≤ h) || (decide (low ≤ h) && Config.visitSeesRefill choice i)

/-- A WATCHING row at an advance: visited (R34, R35, R46), aged (R33), and tested for expiry (R48, log 5). -/
def Watch.advance (wheel pc lifetime choice i low high : Nat) (w : Watch) : Watch :=
  let visited := onWheel wheel pc w.extent
  let heat := if visited then decayed w.heat else w.heat
  { w with
    heat := heat
    idle := aged w.idle
    eligible := w.eligible && (!visited || visitKeeps choice i low high heat)
    expiryDue := decide (heat = 0) && decide (lifetime ≤ aged w.idle) }

/-- A candidate row at an advance. -/
def Row.advance (wheel pc lifetime choice i low high : Nat) : Row → Row
  | .watching w => .watching (w.advance wheel pc lifetime choice i low high)
  | .barred x t => .barred x t

/-- The tokens that a refill adds (R57). -/
def refillGain (p : Policy) (au : Admission) : Nat := min ((au.acc + p.rate) / 60) (p.bMax - au.tokens)

/-- The refill of one advance (R57). -/
def refilled (p : Policy) (au : Admission) : Admission :=
  if au.tokens = p.bMax then { au with acc := 0 }
  else
    let gain := refillGain p au
    { au with
      tokens := au.tokens + gain
      acc := if au.tokens + gain = p.bMax then 0 else au.acc + p.rate - 60 * gain }

/-- An issued order at an advance: its timeout is due from the first advance at which it has aged so far (R113). -/
def Issued.advance (now : Time) (timeout : Nat) (o : Issued) : Issued :=
  { o with timeoutDue := o.timeoutDue || decide (timeout ≤ age now o.issueTime) }

/-- What an advance does in every lifecycle: the counter and the wheel (R34, R190). -/
def tick (s : State) : State :=
  { s with
    seconds := s.seconds + 1#32
    hu := { s.hu with wheel := (s.hu.wheel + 1) % 32 }
    choices := s.choices + 1 }

/-- What an advance does in ACTIVE besides, after `tick`: visits, ageing, refill, and the tests it makes due. -/
def tickActive (s : State) : State :=
  let au := refilled s.policy s.au
  let low := thresholdAt s.policy au.tokens
  let high := thresholdAt s.policy s.au.tokens
  { s with
    bt := { s.bt with slots := s.bt.slots.map fun p => (p.1, p.2.advance s.hu.wheel s.policy.pr) }
    ct := { s.ct with
      rows := s.ct.rows.map fun p =>
        (p.1, p.2.advance s.hu.wheel s.policy.pc s.policy.lifetime s.choices p.1 low high) }
    au := { au with runsOwed := if s.au.tokens < au.tokens then s.au.runsOwed + 1 else s.au.runsOwed }
    ou := { s.ou with issued := s.ou.issued.map (Issued.advance s.seconds s.policy.orderTimeout) }
    psm := { s.psm with
      drainRunsOwed := s.psm.drainRunsOwed + 1, spinUpDue := true, mainsDue := true, restDue := true } }

/-- SECONDS_ADVANCE (R190). -/
def execSecondsAdvance (s : State) : Host.Outcome State Fault Refusal :=
  .next (if active s then tickActive (tick s) else tick s)

/-! ### What an advance makes due -/

/-- ROW_EXPIRY (R48): the row met the test at the last advance and has had no contribution since (log 5). -/
def execRowExpiry (row : Nat) (s : State) : Host.Outcome State Fault Refusal :=
  .next (if active s then
      match tget s.ct.rows row with
      | some (.watching w) => if w.expiryDue ∧ w.heat = 0 then s.withRows (terase s.ct.rows row) else s
      | some (.barred _ _) => s
      | none => s
    else s)

/-- BAR_END (R49). -/
def execBarEnd (row : Nat) (s : State) : Host.Outcome State Fault Refusal :=
  .next (if active s then
      match tget s.ct.rows row with
      | some (.barred _ barredUntil) =>
        if reached s.seconds barredUntil then s.withRows (terase s.ct.rows row) else s
      | some (.watching _) => s
      | none => s
    else s)

/-- The waiting orders with the not-before of slot `k`'s order removed if it has been reached (R99). -/
def endBackoff (now : Time) (k : Nat) (ws : List Waiting) : List Waiting :=
  ws.map fun w =>
    match w.notBefore with
    | some t => if w.order.slot = k ∧ reached now t then { w with notBefore := none } else w
    | none => w

/-- BACKOFF_END (R99). -/
def execBackoffEnd (slot : Nat) (s : State) : Host.Outcome State Fault Refusal :=
  .next (if active s then
      ((s.setWaiting .pinFill (endBackoff s.seconds slot s.ou.pinFill.waiting)).setWaiting .heatFill
          (endBackoff s.seconds slot s.ou.heatFill.waiting)).setWaiting .drain
        (endBackoff s.seconds slot s.ou.drain.waiting)
    else s)

/-- The change a timeout makes, the delta log apart (R113). -/
def timeoutChange (s : State) (o : Issued) (b : Binding) : State :=
  ((s.recordFault .orderTimeout (.slot o.order.slot)).dropIssued o.tag).countFailure o.order b

/-- An issued order whose timeout is due times out, or is deferred while the log lacks the room it needs
(R113, R114). -/
def timeoutOrder (s : State) (o : Issued) (b : Binding) : State :=
  let s1 := timeoutChange s o b
  if orderRoom s.mju.log (grownLog s.seconds s.bt.slots s1.bt.slots s.mju.log [o.order.slot]) then
    (s1.logChange s.bt.slots [o.order.slot]).settleCredit
  else s

/-- ORDER_TIMEOUT (R113). -/
def execOrderTimeout (tag : Tag) (s : State) : Host.Outcome State Fault Refusal :=
  .next (if active s then
      match issuedWith s.ou.issued tag with
      | some o =>
        match bindingAt s.bt.slots o.order.slot with
        | some b => if o.timeoutDue then timeoutOrder s o b else s
        | none => s
      | none => s
    else s)

/-- DELTA_DELAY_EXPIRY: the test of R157 as the seconds pass, by which the MJU asks for the lane once the head entry has
reached the delta delay. ATTN falls where it finds that no condition holds any longer (R167, log 11). -/
def execDeltaDelayExpiry (s : State) : Host.Outcome State Fault Refusal :=
  .next (if active s then s.askDelta.settleCredit else s)

end Sys2Proof.Machine
end

