-- ==== Sys2Proof/Machine/Link.lean ====
section
/-! DEFINITION. The placement link: the check and the bytes of a frame (R168), the receiver's hunt (R167, R169, R170),
the bodies of the frames the part sends (section 10.7), and the start of a frame on the up lane (R167). -/

namespace Sys2Proof.Machine

/-! ### Frames on the wire (R168) -/

/-- One bit step of the check: the polynomial x^16 + x^12 + x^5 + 1, most significant bit first. -/
def crcBit (c : BitVec 16) : BitVec 16 :=
  if c.msb then (c <<< 1) ^^^ 0x1021#16 else c <<< 1

/-- `n` bit steps. -/
def crcBits : Nat → BitVec 16 → BitVec 16
  | 0, c => c
  | n + 1, c => crcBits n (crcBit c)

/-- One byte enters the check, most significant bit first. -/
def crcByte (c : BitVec 16) (b : Byte) : BitVec 16 := crcBits 8 (c ^^^ (b.setWidth 16 <<< 8))

/-- The check of some bytes, starting from all ones, with no final inversion. -/
def crc16 (bytes : List Byte) : BitVec 16 := bytes.foldl crcByte 0xFFFF#16

def syncByte : Byte := 0xA7#8

def pullByteValue : Byte := 0x3C#8

/-- Kind, tag, length and body: what the check covers. -/
def checkedBytes (f : Frame) : List Byte :=
  f.kind :: leBytes 2 f.tag.toNat ++ leBytes 2 f.body.length ++ f.body

/-- The bytes of a frame (R168). -/
def frameBytes (f : Frame) : List Byte :=
  syncByte :: checkedBytes f ++ leBytes 2 (crc16 (checkedBytes f)).toNat

/-! ### The receiver (R169, R170) -/

/-- What the receiver makes of the bytes after a sync byte. -/
inductive Inside where
  /-- The frame is not complete. -/
  | incomplete
  /-- A bad frame (R170). -/
  | bad
  /-- A checked frame, and the bytes after it. -/
  | checked (f : Frame) (rest : List Byte)
  deriving DecidableEq, Repr

/-- The receiver inside a frame: `bytes` follow the sync byte (R169). -/
def readFrame (bytes : List Byte) : Inside :=
  if bytes.length < 5 then .incomplete
  else
    let len := fieldAt bytes 3 2
    if 496 < len then .bad
    else if bytes.length < 7 + len then .incomplete
    else if (crc16 (bytes.take (5 + len))).toNat = fieldAt bytes (5 + len) 2 then
      .checked ⟨BitVec.ofNat 8 (fieldAt bytes 0 1), BitVec.ofNat 16 (fieldAt bytes 1 2), (bytes.drop 5).take len⟩
        (bytes.drop (7 + len))
    else .bad

/-- The first event the receiver finds in a stream. -/
inductive Event where
  /-- None yet: the receiver holds these bytes (none: HUNTING; else it is inside a frame). -/
  | quiet (held : List Byte)
  /-- A pull byte, and the bytes after it (R167). -/
  | pull (rest : List Byte)
  /-- A bad frame, and the bytes after its sync byte, to be hunted through again (R170). -/
  | bad (rest : List Byte)
  /-- A checked frame, and the bytes after it (R169). -/
  | frame (f : Frame) (rest : List Byte)
  deriving DecidableEq, Repr

/-- The receiver HUNTING (R169): 0xA7 begins a frame, 0x3C is a pull byte, every other byte is discarded. -/
def hunt : List Byte → Event
  | [] => .quiet []
  | b :: rest =>
    if b = pullByteValue then .pull rest
    else if b = syncByte then
      match readFrame rest with
      | .incomplete => .quiet (b :: rest)
      | .bad => .bad rest
      | .checked f more => .frame f more
    else hunt rest

/-- The receiver holds `rx`. -/
def State.withRx (s : State) (rx : List Byte) : State := { s with lif := { s.lif with rx := rx } }

/-- The event that the held bytes and the received ones make. -/
def State.event (s : State) (bytes : List Byte) : Event := hunt (s.lif.rx ++ bytes)

/-- A checked frame of kind `kind` is received: `serve` gets it, the receiver holding what follows. Bytes that
complete nothing are held; bytes that make another event are not this row's (log 3). -/
def receiveNotice (kind : Byte) (serve : Frame → State → State) (bytes : List Byte) (s : State) : State :=
  match s.event bytes with
  | .frame f rest => if f.kind = kind then serve f (s.withRx rest) else s
  | .quiet held => s.withRx held
  | .pull _ => s
  | .bad _ => s

/-! ### Bodies of the frames the part sends (section 10.7) -/

def lifeValue : Lifecycle → Nat
  | .unbound => 0
  | .importing => 1
  | .active => 2

def stageValue : HoldStage → Nat
  | .calm => 0
  | .soon => 1
  | .urgent => 2
  | .closed => 3

def platterValue : PlatterState → Nat
  | .resting => 0
  | .waking => 1
  | .ready => 2
  | .parked => 3
  | .slowing => 4

def supplyValue : Supply → Nat
  | .mains => 0
  | .battery => 1

def queueValue : QueueId → Nat
  | .pinFill => 0
  | .heatFill => 1
  | .drain => 2

def kindValue : OrderKind → Nat
  | .fill => 0
  | .drain => 1

def keyValue : CondKey → Nat
  | .none => 0
  | .form => 1
  | .range => 2
  | .phase => 3
  | .lost => 4
  | .limit => 5
  | .order => 6

def codeValue : CondCode → Nat
  | .none => 0
  | .unknownKind => 1
  | .badLength => 2
  | .badField => 3
  | .outOfRange => 4
  | .unbound => 5
  | .importing => 6
  | .alreadyActive => 7
  | .noImport => 8
  | .pinsLost => 9
  | .mapReplaced => 10
  | .pinsDropped => 11
  | .importMismatch => 13
  | .late => 14

def faultValue : FaultKind → Nat
  | .flashFault => 0
  | .platterFault => 1
  | .orderTimeout => 2
  | .orderExhausted => 3
  | .linkCheck => 4
  | .linkOverrun => 5
  | .linkForm => 6
  | .intakeLapse => 7

/-- The subject type and value of a fault entry. -/
def subjectValue : Subject → Nat × Nat
  | .none => (0, 0)
  | .slot k => (1, k)
  | .extent x => (2, x)
  | .queue q => (3, queueValue q)

def bitValue (b : Bool) (place : Nat) : Nat := if b then 2 ^ place else 0

def runBytes (r : Run) : List Byte :=
  match r.tier with
  | .flash k => leBytes 4 r.first ++ leBytes 2 r.count ++ leBytes 1 0 ++ leBytes 2 k
  | .platter => leBytes 4 r.first ++ leBytes 2 r.count ++ leBytes 1 1 ++ leBytes 2 0

def faultBytes (e : FaultEntry) : List Byte :=
  leBytes 1 (faultValue e.kind) ++ leBytes 1 (subjectValue e.subject).1 ++ leBytes 4 (subjectValue e.subject).2
    ++ leBytes 4 e.first.toNat ++ leBytes 4 e.last.toNat ++ leBytes 1 e.repeats

/-- The 18 values of a POLICY reply, in id order. -/
def policyValues (p : Policy) : List Nat :=
  [p.aBase, p.hyst, p.bMax, p.rate, p.pc, p.pr, p.lifetime, p.barPeriod, p.streamThreshold, p.sLim, p.hHold,
   p.drainDelay, p.pinLimit, p.orderTimeout, p.flushCount, p.deltaDelay, p.restDelay, p.window]

def statusBytes (b : StatusBody) : List Byte :=
  leBytes 1 (lifeValue b.life) ++ leBytes 2 b.n ++ leBytes 4 b.e ++ leBytes 1 b.window
    ++ leBytes 2 b.free ++ leBytes 2 b.filling ++ leBytes 2 b.held ++ leBytes 2 b.draining ++ leBytes 2 b.retired
    ++ leBytes 2 b.dirtyCount ++ leBytes 2 b.pinnedCount ++ leBytes 2 b.tokens ++ leBytes 2 b.aEff
    ++ leBytes 1 (stageValue b.stage) ++ leBytes 4 b.oldestAge
    ++ leBytes 1 (platterValue b.platter) ++ leBytes 1 (supplyValue b.supply)
    ++ leBytes 1 b.pinQueue ++ leBytes 1 b.heatQueue ++ leBytes 1 b.drainQueue
    ++ leBytes 1 (bitValue b.pinSkip 0 + bitValue b.heatSkip 1 + bitValue b.drainSkip 2
        + bitValue b.pinHalted 3 + bitValue b.heatHalted 4 + bitValue b.drainHalted 5)
    ++ leBytes 1 b.issued ++ leBytes 2 b.logLength ++ leBytes 1 (bitValue b.stale 0 + bitValue b.exporting 1)
    ++ leBytes 2 b.lapseCount ++ leBytes 2 b.untracked ++ leBytes 1 b.faultCount ++ leBytes 4 b.seconds.toNat

/-- The fields after the status byte of an OK reply. -/
def okBytes : OkBody → List Byte
  | .bare => []
  | .attach n e w => leBytes 2 n ++ leBytes 4 e ++ leBytes 1 w
  | .importPut rejected => leBytes 1 rejected
  | .runs covered runs => leBytes 2 covered ++ leBytes 1 runs.length ++ (runs.map runBytes).flatten
  | .covered count => leBytes 2 count
  | .shortfall count => leBytes 1 count
  | .released count => leBytes 2 count
  | .policy p => ((policyValues p).map (leBytes 4)).flatten
  | .status b => statusBytes b
  | .condition c retryCount =>
    leBytes 1 (keyValue c.key) ++ leBytes 1 (codeValue c.code) ++ leBytes 2 c.shortfall ++ [c.kind]
      ++ leBytes 2 c.tag.toNat ++ leBytes 2 retryCount
  | .faults overflow entries => leBytes 1 entries.length ++ leBytes 2 overflow ++ (entries.map faultBytes).flatten

/-- The body of a REPLY frame (R174). -/
def replyBytes : ReplyBody → List Byte
  | .ok b => 0#8 :: okBytes b
  | .refer key code => 1#8 :: (leBytes 1 (keyValue key) ++ leBytes 1 (codeValue code))
  | .retry => [2#8]
  | .needsPlatter => [3#8]

/-- The REPLY frame of a reply (R174). -/
def replyFrame (r : Reply) : Frame := ⟨Kind.reply, r.tag, replyBytes r.body⟩

/-- The ORDER frame (R106). -/
def orderFrameOf (o : OrderFrame) : Frame :=
  ⟨Kind.order, o.tag, leBytes 1 (kindValue o.kind) ++ leBytes 2 o.slot ++ leBytes 4 o.extent ++ leBytes 8 o.blocks.toNat⟩

/-- The body of binding records of a DELTA or EXPORT-DATA frame. -/
def recordsBody (records : List Record) : List Byte := (records.map recordBytes).flatten

def adviceKindValue : AdviceKind → Nat
  | .spinUp => 0
  | .rest => 1

/-- The ADVICE frame (R132). -/
def adviceFrame (a : Advice) : Frame :=
  ⟨Kind.advice, 0#16, leBytes 1 (adviceKindValue a.kind) ++ leBytes 1 (stageValue a.urgency) ++ leBytes 2 a.dirtyCount
    ++ leBytes 4 a.oldestAge ++ leBytes 2 a.queued⟩

/-! ### The up lane (R167) -/

/-- A frame is started: it takes one pull. A frame being sent has reached its last byte, where the next may start, and
ATTN does not fall between the two (R167, log 2). -/
def State.startFrame (s : State) (f : Frame) : State :=
  { s with lif := { s.lif with credit := s.lif.credit - 1, upLane := some f } }

/-- A row of the up lane that starts no frame: a frame being sent has reached its last byte, if none can follow it
there (R167, log 2). -/
def State.frameEnd (s : State) : State :=
  if s.lif.upLane.isSome && !frameFollows s then s.finishFrame else s

end Sys2Proof.Machine
end

