-- ==== Sys2Proof/Machine/Down.lean ====
section
/-! DEFINITION. The down lane (chapter 10) and the notices of the Monitor (chapter 7): PULL_BYTE, BAD_FRAME,
REQUEST_INTAKE, PLATTER and SUPPLY. -/

namespace Sys2Proof.Machine

/-- A pull byte counts only while ATTN is asserted, up to 16 (R167). -/
def takePull (s : State) : State :=
  if attn s then { s with lif := { s.lif with credit := min 16 (s.lif.credit + 1) } } else s

/-- PULL_BYTE (R167). -/
def execPullByte (bytes : List Byte) (s : State) : Host.Outcome State Fault Refusal :=
  .next (match s.event bytes with
    | .pull rest => (takePull s).withRx rest
    | .quiet held => s.withRx held
    | .bad _ => s
    | .frame _ _ => s)

/-- BAD_FRAME: the frame is dropped, LINK-CHECK is recorded, and the bytes after its sync byte are hunted through
again (R170). -/
def execBadFrame (bytes : List Byte) (s : State) : Host.Outcome State Fault Refusal :=
  .next (match s.event bytes with
    | .bad rest => (s.withRx rest).recordFault .linkCheck .none
    | .quiet held => s.withRx held
    | .pull _ => s
    | .frame _ _ => s)

/-- A checked frame that is no notice is offered to the request intake (R171). -/
def offerRequest (f : Frame) (s : State) : State :=
  if s.lif.intake.length < 8 then s.withIntake (s.lif.intake ++ [f])
  else s.recordFault .linkOverrun .none

/-- REQUEST_INTAKE (R171). -/
def execRequestIntake (bytes : List Byte) (s : State) : Host.Outcome State Fault Refusal :=
  .next (match s.event bytes with
    | .frame f rest => if isNotice f.kind then s else offerRequest f (s.withRx rest)
    | .quiet held => s.withRx held
    | .pull _ => s
    | .bad _ => s)

/-- The platter becoming READY in ACTIVE (R123): a picker run and a drain picker run start, both cadences end, and
the rest reference time is now. -/
def becomeReady (s : State) : State :=
  let s1 := s.startPicker.startDrainPicker
  { s1 with
    psm := { s1.psm with
      spinUp := none, mains := none, restRef := some s.seconds, restGiven := false } }

/-- The platter leaving READY in ACTIVE (R123, R134): the rest reference time goes, and the spin-up cadence starts
afresh if the hold stage is SOON or later. -/
def leaveReady (s : State) : State :=
  let s1 := { s with psm := { s.psm with restRef := none } }
  match holdStage s with
  | .calm => s1
  | .soon => s1.startSpinUp .soon
  | .urgent => s1.startSpinUp .urgent
  | .closed => s1.startSpinUp .closed

/-- The recorded platter state becomes `p` (R122, R123). A notice that repeats it changes nothing. -/
def recordPlatter (p : PlatterState) (s : State) : State :=
  if s.psm.platter = p then s
  else
    let s1 := { s with psm := { s.psm with platter := p } }
    if active s then
      if p = .ready then becomeReady s1
      else if s.psm.platter = .ready then leaveReady s1
      else s1
    else s1

/-- A PLATTER notice, taken in every lifecycle (R122, R171). -/
def takePlatter (f : Frame) (s : State) : State :=
  if f.body.length = 1 then
    match platterOf (fieldAt f.body 0 1) with
    | some p => recordPlatter p s
    | none => s.recordFault .linkForm .none
  else s.recordFault .linkForm .none

/-- PLATTER (R122). -/
def execPlatter (bytes : List Byte) (s : State) : Host.Outcome State Fault Refusal :=
  .next (receiveNotice Kind.platter takePlatter bytes s)

/-- A SUPPLY notice, taken in every lifecycle (R124, R171). -/
def takeSupply (f : Frame) (s : State) : State :=
  if f.body.length = 1 then
    match supplyOf (fieldAt f.body 0 1) with
    | some v => { s with psm := { s.psm with supply := v } }
    | none => s.recordFault .linkForm .none
  else s.recordFault .linkForm .none

/-- SUPPLY (R124). -/
def execSupply (bytes : List Byte) (s : State) : Host.Outcome State Fault Refusal :=
  .next (receiveNotice Kind.supply takeSupply bytes s)

end Sys2Proof.Machine
end

