-- ==== Sys2Proof/Machine/Heat.lean ====
section
/-! DEFINITION. Heat (chapter 2) and the rows it reaches (chapter 3): ACCESS and TAKE_ITEM. -/

namespace Sys2Proof.Machine

/-! ### The access intake (R22 to R26) -/

/-- One well-formed item is offered to the intake (R24, R25). -/
def offerItem (s : State) (item : AccessItem) : State :=
  if s.hu.lapse then { s with hu := { s.hu with lapseCount := min 65535 (s.hu.lapseCount + 1) } }
  else if s.hu.intake.length < 64 then { s with hu := { s.hu with intake := s.hu.intake ++ [item] } }
  else
    { s with hu := { s.hu with lapse := true, lapseCount := min 65535 (s.hu.lapseCount + 1) } }.recordFault
      .intakeLapse .none

/-- An ACCESS notice: its length is checked on the way (R171); outside ACTIVE it is discarded whole (R22); then every
item is checked for form (R23) and the items are offered in order (R24). -/
def takeAccess (f : Frame) (s : State) : State :=
  if 8 ≤ f.body.length ∧ f.body.length ≤ 64 ∧ f.body.length % 8 = 0 then
    if active s then
      match accessItemsOf (recordsOf 8 (f.body.length / 8) f.body) with
      | some items => items.foldl offerItem s
      | none => s.recordFault .linkForm .none
    else s
  else s.recordFault .linkForm .none

/-- ACCESS (R22). -/
def execAccess (bytes : List Byte) (s : State) : Host.Outcome State Fault Refusal :=
  .next (receiveNotice Kind.access takeAccess bytes s)

/-! ### Stream trackers (R28, R29) -/

/-- The matching tracker that is most recent, and the trackers without it. -/
def takeTracker (start : Nat) : List Tracker → Option (Tracker × List Tracker)
  | [] => none
  | t :: rest =>
    if t.nextExpected = start then some (t, rest)
    else (takeTracker start rest).map fun found => (found.1, t :: found.2)

/-- The trackers after a READ item; the updated or replaced one is the most recent (R28). -/
def trackRead (trackers : List Tracker) (start count : Nat) : List Tracker :=
  match takeTracker start trackers with
  | some (t, others) => ⟨start + count, min 65535 (t.run + count)⟩ :: others
  | none => ⟨start + count, count⟩ :: trackers.take 3

/-- Whether the READ item that left the trackers so is streaming (R29). -/
def isStreaming (threshold : Nat) (trackers : List Tracker) : Bool :=
  match trackers with
  | t :: _ => decide (threshold ≤ t.run)
  | [] => false

/-! ### Weight and contribution (R30, R31) -/

/-- The weight of an item (R30). -/
def itemWeight (kind : AccessKind) (served : Served) (streaming : Bool) : Nat :=
  match kind with
  | .write => 4
  | .read =>
    if streaming then 1
    else
      match served with
      | .flash => 8
      | .platter => 16
      | .platterWoke => 64

/-- The contribution to an extent of which the item has `n` blocks (R31). -/
def contribution (weight n : Nat) : Nat := weight * (1 + (n - 1) / 16)

/-! ### Where heat lands (R32, R42 to R45) -/

/-- The contribution `c` is applied to extent `x` (R32). The flag says whether a row has been made newly eligible so
far by the item. -/
def applyHeat (x c : Nat) (acc : State × Bool) : State × Bool :=
  let s := acc.1
  match residency s.bt.slots x with
  | some (k, b) => (s.setBinding k { b with heat := warmed b.heat c, idle := b.idle % 8 }, acc.2)
  | none =>
    match findRow s.ct.rows x with
    | some (i, .watching w) =>
      let w' := w.contribute c (aEff s)
      (s.withRows (tset s.ct.rows i (.watching w')), acc.2 || (w'.eligible && !w.eligible))
    | some (_, .barred _ _) => acc
    | none =>
      match allocateWay s.ct.rows x c with
      | some i =>
        let w := newWatch x c (aEff s)
        (s.withRows (tset s.ct.rows i (.watching w)), acc.2 || w.eligible)
      | none => ({ s with ct := { s.ct with untracked := min 65535 (s.ct.untracked + 1) } }, acc.2)

/-- One touched extent of an item receives its contribution. -/
def applyShare (weight : Nat) (acc : State × Bool) (sh : Share) : State × Bool :=
  applyHeat sh.extent (contribution weight sh.count) acc

/-- The item leaves the intake; a lapse ends if it leaves the intake empty (R25). -/
def State.dropItem (s : State) (rest : List AccessItem) : State :=
  { s with hu := { s.hu with intake := rest, lapse := s.hu.lapse && !rest.isEmpty } }

/-- A READ item updates the trackers; a WRITE item does not (R27). -/
def State.track (s : State) (item : AccessItem) : State :=
  match item.kind with
  | .read => { s with hu := { s.hu with trackers := trackRead s.hu.trackers item.start item.count } }
  | .write => s

/-- An item is applied whole, after it has left the intake (R27). -/
def applyItem (s : State) (item : AccessItem) : State :=
  if outOfRange s.bt.e item.start item.count then s
  else
    let s1 := s.track item
    let weight := itemWeight item.kind item.served (isStreaming s.policy.streamThreshold s1.hu.trackers)
    let done := (sharesOf item.start item.count).foldl (applyShare weight) (s1, false)
    done.1.startPickerIf done.2

/-- The Heat Unit takes the oldest item of the intake (R27); heat work runs in ACTIVE alone (R152). -/
def takeOneItem (s : State) : State :=
  if active s then
    match s.hu.intake with
    | [] => s
    | item :: rest => applyItem (s.dropItem rest) item
  else s

/-- TAKE_ITEM (R27). -/
def execTakeItem (s : State) : Host.Outcome State Fault Refusal := .next (takeOneItem s)

end Sys2Proof.Machine
end

