-- ==== Sys2Proof/Machine/Lifecycle.lean ====
section
/-! DEFINITION. Keeping the map (chapter 9): ATTACH, IMPORT_BEGIN, IMPORT_PUT, IMPORT_END, EXPORT and SYNC. -/

namespace Sys2Proof.Machine

/-- N as taken (R153). -/
def takenN (f : Frame) : Nat := clampTo 1024 32768 (fieldAt f.body 0 2)

/-- E as taken (R153). -/
def takenE (f : Frame) : Nat := clampTo 1 4194304 (fieldAt f.body 2 4)

/-- W as taken (R153). -/
def takenW (f : Frame) : Nat := clampTo 1 8 (fieldAt f.body 6 1)

/-- N slots FREE, E and W taken, S_lim and the pin limit set from N (R127, R139, R153, R162). -/
def openMap (f : Frame) (s : State) : State :=
  { s with
    bt := ⟨takenN f, takenE f, []⟩
    policy := { s.policy with sLim := takenN f / 8, pinLimit := takenN f / 4, window := takenW f } }

/-- The part becomes ACTIVE with a full allowance (R71), the rest reference time now if the platter is READY
(R136). -/
def becomeActive (s : State) : State :=
  { s with
    mju := { s.mju with life := .active }
    au := { s.au with tokens := s.policy.bMax, acc := 0 }
    psm :=
      if ready s then { s.psm with restRef := some s.seconds, restGiven := false } else s.psm }

/-! ### ATTACH (R153) -/

/-- ATTACH served (R153). -/
def serveAttach (f : Frame) (s : State) : State :=
  let s1 := becomeActive (openMap f s)
  { s1 with mju := { s1.mju with stale := true } }.answerOk f.tag (.attach (takenN f) (takenE f) (takenW f))

/-- ATTACH (R153). -/
def execAttach (s : State) : Host.Outcome State Fault Refusal :=
  .next (takeRequest .attach serveAttach s)

/-! ### Import (R162 to R164) -/

/-- IMPORT-BEGIN served (R162). -/
def serveImportBegin (f : Frame) (s : State) : State :=
  let s1 := openMap f s
  { s1 with mju := { s1.mju with life := .importing, accepted := 0, rejected := 0 } }.answerOk f.tag .bare

/-- IMPORT_BEGIN (R162). -/
def execImportBegin (s : State) : Host.Outcome State Fault Refusal :=
  .next (takeRequest .importBegin serveImportBegin s)

/-- A HELD record becomes a HELD binding, and not a FREE slot (R19). -/
def bindsExtent (r : Record) : Bool :=
  decide (r.pstate = 1)
    && !(decide (r.valid = BlockSet.none) && decide (r.dirty = BlockSet.none) && decide (r.owners = 0#4))

/-- Another slot holds the record's extent (R163). -/
def heldElsewhere (slots : List (Nat × Slot)) (r : Record) : Bool :=
  match residency slots r.extent with
  | some (k, _) => decide (k ≠ r.slot)
  | none => false

/-- A record is rejected (R163). -/
def recordRejected (bt : BindingTable) (r : Record) : Bool :=
  decide (bt.n ≤ r.slot) || decide (2 < r.pstate) || (decide (r.pstate = 1) && decide (bt.e ≤ r.extent))
    || !BlockSet.subset r.dirty r.valid || (bindsExtent r && heldElsewhere bt.slots r)

/-- The binding made from a record (R19); it has no dirty-since while IMPORTING (R4). -/
def importedBinding (r : Record) : Binding where
  state := .held
  extent := r.extent
  valid := r.valid
  dirty := r.dirty
  overtaken := none
  redirtied := none
  owners := r.owners
  heat := r.heat
  idle := 0
  dirtySince := none
  strikes := if r.condemned || decide (r.strikes = 2) then 2 else r.strikes
  tag := none

/-- The slots after an accepted record: its slot becomes what R19 makes of it, replacing whole what stood there. -/
def importSlots (slots : List (Nat × Slot)) (r : Record) : List (Nat × Slot) :=
  if bindsExtent r then tset slots r.slot (.bound (importedBinding r))
  else if r.pstate = 2 then tset slots r.slot .retired
  else terase slots r.slot

/-- One record of an IMPORT-PUT (R163); an accepted one may raise the pin limit (R139). -/
def importRecord (s : State) (r : Record) : State :=
  if recordRejected s.bt r then { s with mju := { s.mju with rejected := s.mju.rejected + 1 } }
  else
    let slots := importSlots s.bt.slots r
    { s with
      bt := { s.bt with slots := slots }
      policy := { s.policy with pinLimit := max s.policy.pinLimit (pinnedCount slots) }
      mju := { s.mju with accepted := s.mju.accepted + 1 } }

/-- The records an IMPORT-PUT carries (R182). -/
def importedRecords (f : Frame) : List Record :=
  (recordsOf 26 (f.body.length / 26) f.body).map recordOfBytes

/-- IMPORT-PUT served: its records one after another, and the number of them rejected (R163). -/
def serveImportPut (f : Frame) (s : State) : State :=
  let s1 := (importedRecords f).foldl importRecord s
  s1.answerOk f.tag (.importPut (s1.mju.rejected - s.mju.rejected))

/-- IMPORT_PUT (R163). -/
def execImportPut (s : State) : Host.Outcome State Fault Refusal :=
  .next (takeRequest .importPut serveImportPut s)

/-- A slot at the commit (R164): a condemned clean binding retires, a dirty one takes dirty-since. -/
def Slot.commit (now : Time) : Slot → Slot
  | .bound b =>
    if b.condemned && !b.isDirty then .retired
    else .bound { b with dirtySince := if b.isDirty then some now else b.dirtySince }
  | .retired => .retired

/-- A slot that the commit retires. -/
def Slot.retiresAtCommit : Slot → Bool
  | .bound b => b.condemned && !b.isDirty
  | .retired => false

/-- The commit of an import (R164). The refill scan is started by it (R148). -/
def commitImport (s : State) : State :=
  let changed := decide (0 < s.mju.rejected) || s.bt.slots.any fun p => p.2.retiresAtCommit
  let s1 := becomeActive (s.withSlots (s.bt.slots.map fun p => (p.1, p.2.commit s.seconds)))
  { s1 with
    mju := { s1.mju with stale := s1.mju.stale || changed }
    pu := ⟨some .mapReplaced, some .mapReplaced, some .mapReplaced, some .mapReplaced, s1.pu.scansOwed⟩ }.startScan

/-- A failed import is dropped (R164). -/
def dropImport (s : State) : State :=
  { s with
    bt := .empty s.bt.e
    policy := { s.policy with sLim := 0, pinLimit := 0 }
    mju := { s.mju with life := .unbound } }

/-- The number of records the controller says it sent. -/
def expectedRecords (f : Frame) : Nat := fieldAt f.body 0 4

/-- IMPORT-END served (R164, R184). -/
def serveImportEnd (f : Frame) (s : State) : State :=
  let total := s.mju.accepted + s.mju.rejected
  if expectedRecords f = total then (commitImport s).answerOk f.tag .bare
  else
    (dropImport s).refer f .limit .importMismatch
      (min 65535 (max (expectedRecords f) total - min (expectedRecords f) total))

/-- IMPORT_END (R164). -/
def execImportEnd (s : State) : Host.Outcome State Fault Refusal :=
  .next (takeRequest .importEnd serveImportEnd s)

/-! ### EXPORT (R159) and SYNC (R158) -/

/-- EXPORT served (R159). -/
def serveExport (f : Frame) (s : State) : State :=
  match s.mju.exporting with
  | some _ => s.reply f.tag .retry
  | none => { s with mju := { s.mju with exporting := some ⟨0, 0⟩ } }.answerOk f.tag .bare

/-- EXPORT (R159). -/
def execExport (s : State) : Host.Outcome State Fault Refusal :=
  .next (takeRequest .exportMap serveExport s)

/-- SYNC served (R158): answered at once when the log is empty; else it waits, and the MJU asks for the lane. -/
def serveSync (f : Frame) (s : State) : State :=
  if s.mju.log.isEmpty then s.answerOk f.tag .bare
  else { s with mju := { s.mju with sync := some ⟨f.tag, s.mju.log.length⟩ } }.askDelta

/-- SYNC (R158). -/
def execSync (s : State) : Host.Outcome State Fault Refusal :=
  .next (takeRequest .sync serveSync s)

end Sys2Proof.Machine
end

