-- ==== Sys2Proof/Machine/Orders.lean ====
section
/-! DEFINITION. Orders (chapter 6): DISPATCH, COMPLETE, the three actions of QUEUE-CONTROL, and DRAIN_ALL (R131). -/

namespace Sys2Proof.Machine

/-! ### Dispatch (R100 to R106) -/

/-- The conditions of R100, the open queue apart. -/
def windowOpen (s : State) : Bool := ready s && decide (s.ou.issued.length < s.policy.window)

/-- The first ready order of a queue. -/
def firstReady (s : State) (q : QueueId) : Option Waiting := (s.ou.queue q).waiting.find? (orderReady s)

/-- The waiting orders without the first ready one. -/
def withoutFirstReady (s : State) (q : QueueId) : List Waiting := (s.ou.queue q).waiting.eraseP (orderReady s)

/-- The end of an order at selection with an empty block set (R102); ATTN may fall with the request for the lane (R167,
log 11). -/
def endAtSelection (s : State) (q : QueueId) (w : Waiting) (b : Binding) : State :=
  let s1 := (s.setWaiting q (withoutFirstReady s q)).leaveOrder w.order.slot b false
  (((s1.startPickerIf (decide (q = .heatFill))).startScanIf (decide (q = .pinFill) && !b.pinned)).logChange
    s.bt.slots [w.order.slot]).settleCredit

/-- The binding of an order at its dispatch: the tag, and the overtaken or redirtied set created empty (R103). -/
def Binding.dispatched (b : Binding) (q : QueueId) (tag : Tag) : Binding :=
  match q.kind with
  | .fill => { b with tag := some tag, overtaken := some BlockSet.none }
  | .drain => { b with tag := some tag, redirtied := some BlockSet.none }

/-- The marker after a dispatch from queue `q` (R101). -/
def markerAfter (q : QueueId) (m : Marker) : Marker :=
  match q with
  | .pinFill => m
  | .heatFill => .heatFill
  | .drain => .drain

/-- The retry count at a dispatch of kind `k` (R117): 0 if the direction changes. -/
def retryAtDispatch (last : Option OrderKind) (k : OrderKind) (count : Nat) : Nat :=
  match last with
  | some d => if d = k then count else 0
  | none => count

/-- The dispatch of an order whose block set is not empty (R103). -/
def dispatchOrder (s : State) (q : QueueId) (w : Waiting) (b : Binding) : State :=
  let blocks := selectionBlocks q b
  let tag := freeTag s.ou.issued s.ou.issued.length s.ou.tagCounter
  let s1 := (s.setWaiting q (withoutFirstReady s q)).setBinding w.order.slot (b.dispatched q tag)
  let s2 := { s1 with
    ou := { s1.ou with
      issued := s1.ou.issued ++ [({ order := w.order, blocks, tag, issueTime := s.seconds, timeoutDue := false } : Issued)]
      tagCounter := nextTag tag
      lastServed := markerAfter q s1.ou.lastServed
      retryCount := retryAtDispatch s1.ou.lastKind q.kind s1.ou.retryCount
      lastKind := some q.kind }
    lif := { s1.lif with
      orderFrames := s1.lif.orderFrames ++
        [({ tag, kind := q.kind, slot := w.order.slot, extent := w.order.extent, blocks } : OrderFrame)] }
    psm := { s1.psm with restGiven := false } }
  (s2.startPickerIf (decide (q = .heatFill))).startScanIf (decide (q = .pinFill))

/-- The arbiter's order is selected: dispatched, or ended if its block set is empty (R102, R103). -/
def selectOrder (s : State) (q : QueueId) (w : Waiting) (b : Binding) : State :=
  if selectionBlocks q b = BlockSet.none then endAtSelection s q w b else dispatchOrder s q w b

/-- DISPATCH: one dispatch, when the conditions of R100 hold (R103). -/
def execDispatch (s : State) : Host.Outcome State Fault Refusal :=
  .next (if active s && windowOpen s then
      match arbiterChoice s with
      | none => s
      | some q =>
        match firstReady s q with
        | none => s
        | some w =>
          match bindingAt s.bt.slots w.order.slot with
          | some b => selectOrder s q w b
          | none => s
    else s)

/-! ### COMPLETE (R107 to R112) -/

/-- The interval of the next REFUSED return (R110). -/
def nextBackoff (interval : Nat) : Nat := if interval = 0 then 1 else min 60 (2 * interval)

/-- An attempt that neither ends nor condemns its order, by its code (R110). -/
def State.afterAttempt (s : State) (o : Order) (b : Binding) (code : CompletionCode) : State :=
  match code with
  | .partialCopy | .flashFault | .platterFault => s.countFailure o b
  | .parked | .aborted | .done => s.returnOrder { o with backoff := 0 } b none
  | .refused =>
    s.returnOrder { o with backoff := nextBackoff o.backoff } b (some (after s.seconds (nextBackoff o.backoff)))

/-- The faults of an accepted completion (R112). -/
def State.completionFault (s : State) (o : Order) (code : CompletionCode) : State :=
  match code with
  | .flashFault => s.recordFault .flashFault (.slot o.slot)
  | .platterFault => s.recordFault .platterFault (.extent o.extent)
  | _ => s

/-- A FLASH-FAULT adds a strike, saturating at 2 (R13). -/
def Binding.struck (b : Binding) (code : CompletionCode) : Binding :=
  if code = .flashFault then { b with strikes := min 2 (b.strikes + 1) } else b

/-- The copied set taken (R108, R109): within the block set, and all of it for DONE. -/
def copiedWithin (o : Issued) (code : CompletionCode) (copied : BlockSet) : BlockSet :=
  if code = .done then o.blocks else copied &&& o.blocks

/-- The fill merge (R108): the copied blocks that are not overtaken become valid. -/
def Binding.fillMerge (b : Binding) (copied : BlockSet) : Binding :=
  { b with valid := b.valid ||| BlockSet.diff copied (b.overtaken.getD BlockSet.none) }

/-- The drain merge (R109): the copied blocks that are not redirtied are no longer dirty. -/
def Binding.drainMerge (b : Binding) (copied : BlockSet) (now : Time) : Binding :=
  let dirty := BlockSet.diff b.dirty (BlockSet.diff copied (b.redirtied.getD BlockSet.none))
  { b with
    dirty := dirty
    dirtySince := if dirty = BlockSet.none then none else if dirty = b.dirty then b.dirtySince else some now }

/-- A completion whose progress has been merged into `b` (R108): the FILL ends if it is done, complete or condemned. -/
def State.finishFill (s : State) (o : Issued) (b : Binding) (code : CompletionCode) : State :=
  if decide (code = .done) || b.complete || b.condemned then s.leaveOrder o.order.slot b false
  else s.afterAttempt o.order b code

/-- A completion whose progress has been merged into `b` (R109): the DRAIN ends if it is done or nothing is dirty. -/
def State.finishDrain (s : State) (o : Issued) (b : Binding) (code : CompletionCode) : State :=
  if decide (code = .done) || !b.isDirty then s.leaveOrder o.order.slot b false
  else s.afterAttempt o.order b code

/-- An accepted completion moves the rest reference time while the platter is READY (R136). -/
def State.moveRest (s : State) : State :=
  if ready s then { s with psm := { s.psm with restRef := some s.seconds } } else s

/-- The effects of an accepted completion, the delta log apart (R107 to R112). -/
def completeOrder (s : State) (o : Issued) (b : Binding) (code : CompletionCode) (copied : BlockSet) : State :=
  let s1 := ((s.completionFault o.order code).dropIssued o.tag).moveRest
  let b1 := b.struck code
  let c := copiedWithin o code copied
  let s2 :=
    match o.order.queue.kind with
    | .fill => s1.finishFill o (b1.fillMerge c) code
    | .drain => s1.finishDrain o (b1.drainMerge c s.seconds) code
  s2.settleDrainAll

/-- A completion for the issued order `o` whose binding is `b`: the room test, then the effects (R107). -/
def acceptCompletion (f : Frame) (s : State) (o : Issued) (b : Binding) (code : CompletionCode)
    (copied : BlockSet) : State :=
  let s1 := completeOrder s o b code copied
  if orderRoom s.mju.log (grownLog s.seconds s.bt.slots s1.bt.slots s.mju.log [o.order.slot]) then
    (s1.logChange s.bt.slots [o.order.slot]).answerOk f.tag .bare
  else s.reply f.tag .retry

/-- The tag a COMPLETE carries. -/
def completeTag (f : Frame) : Tag := BitVec.ofNat 16 (fieldAt f.body 0 2)

/-- The copied set a COMPLETE carries. -/
def completeCopied (f : Frame) : BlockSet := BitVec.ofNat 64 (fieldAt f.body 3 8)

/-- COMPLETE served (R107): the code, the tag (R116), the room. -/
def serveComplete (f : Frame) (s : State) : State :=
  match completionOf (fieldAt f.body 2 1) with
  | none => s.refer f .form .badField 2
  | some code =>
    match issuedWith s.ou.issued (completeTag f) with
    | none => s.refer f .order .late (completeTag f).toNat
    | some o =>
      match bindingAt s.bt.slots o.order.slot with
      | none => s.refer f .order .late (completeTag f).toNat
      | some b => acceptCompletion f s o b code (completeCopied f)

/-- COMPLETE (R107). -/
def execComplete (s : State) : Host.Outcome State Fault Refusal :=
  .next (takeRequest .complete serveComplete s)

/-! ### QUEUE-CONTROL (R118) -/

/-- The fields of a QUEUE-CONTROL are checked, the queue first (R118, R184). -/
def serveQueueControl (act : QueueId → State → State) (f : Frame) (s : State) : State :=
  match queueOf (fieldAt f.body 0 1) with
  | none => s.refer f .form .badField 0
  | some q =>
    if 2 < fieldAt f.body 1 1 then s.refer f .form .badField 1
    else (act q s).answerOk f.tag .bare

/-- SKIP_ON (R118). -/
def execSkipOn (s : State) : Host.Outcome State Fault Refusal :=
  .next (takeRequest .skipOn (serveQueueControl fun q t => t.setSkip q true) s)

/-- SKIP_OFF (R118). -/
def execSkipOff (s : State) : Host.Outcome State Fault Refusal :=
  .next (takeRequest .skipOff (serveQueueControl fun q t => t.setSkip q false) s)

/-- RESUME clears the halted flag, and for the pin fill queue starts the refill scan (R118, R148). -/
def resumeQueue (q : QueueId) (s : State) : State :=
  (s.setHalted q false).startScanIf (decide (q = .pinFill))

/-- RESUME (R118). -/
def execResume (s : State) : Host.Outcome State Fault Refusal :=
  .next (takeRequest .resume (serveQueueControl resumeQueue) s)

/-! ### DRAIN-ALL (R131) -/

/-- DRAIN-ALL served (R131). -/
def serveDrainAll (f : Frame) (s : State) : State :=
  if dirtyCount s.bt.slots = 0 then s.answerOk f.tag .bare
  else { s with psm := { s.psm with drainAll := true } }.startDrainPicker.answerOk f.tag .bare

/-- DRAIN_ALL (R131). -/
def execDrainAll (s : State) : Host.Outcome State Fault Refusal :=
  .next (takeRequest .drainAll serveDrainAll s)

end Sys2Proof.Machine
end

