-- ==== Sys2Proof/Machine/Pickers.lean ====
section
/-! DEFINITION. The runs of the part's own work: DRAIN_PICKER_RUN (section 7.4), PROMOTION_PICKER_RUN (section 4.3)
and REFILL_SCAN (section 8.6). A run is taken whole, once for each start of it (log 4). -/

namespace Sys2Proof.Machine

/-! ### The drain picker (R128 to R130) -/

/-- A binding qualifies for a drain (R129). -/
def drainQualifies (s : State) (b : Binding) : Bool :=
  decide (b.state = .held) && b.isDirty
    && (decide (s.policy.drainDelay ≤ (b.dirtyAge s.seconds).getD 0) || decide (holdStage s ≠ .calm)
        || s.psm.drainAll || b.condemned)

/-- The better of two qualifying bindings (R129): condemned first, then the earliest dirty-since, then the lower
slot, which is `a`. -/
def betterDrain (now : Time) (a b : Nat × Binding) : Nat × Binding :=
  if a.2.condemned = b.2.condemned then
    if (a.2.dirtyAge now).getD 0 < (b.2.dirtyAge now).getD 0 then b else a
  else if b.2.condemned then b else a

/-- The binding the drain picker takes next. -/
def drainChoice (s : State) : Option (Nat × Binding) :=
  match (bindingsOf s.bt.slots).filter (fun kb => drainQualifies s kb.2) with
  | [] => none
  | v :: rest => some (rest.foldl (betterDrain s.seconds) v)

/-- A drain is queued (R130), a condemned binding's in its place (R98). -/
def queueDrain (s : State) (k : Nat) (b : Binding) : State :=
  let w := newOrder .drain k b.extent
  (s.setBinding k { b with state := .draining }).setWaiting .drain
    (if b.condemned then joinCondemned s.bt.slots w s.ou.drain.waiting else s.ou.drain.waiting ++ [w])

/-- Drains are queued one after another until the queue holds 64 or none qualifies (R128). -/
def drainLoop : Nat → State → State
  | 0, s => s
  | fuel + 1, s =>
    if 64 ≤ s.ou.length .drain then s
    else
      match drainChoice s with
      | none => s
      | some (k, b) => drainLoop fuel (queueDrain s k b)

/-- DRAIN_PICKER_RUN (R128). -/
def execDrainPickerRun (s : State) : Host.Outcome State Fault Refusal :=
  .next (if active s && decide (0 < s.psm.drainRunsOwed) then
      let s1 := { s with psm := { s.psm with drainRunsOwed := s.psm.drainRunsOwed - 1 } }
      if ready s then drainLoop 64 s1 else s1
    else s)

/-! ### The promotion picker (R63 to R68) -/

/-- The conditions 1 to 4 that end a run (R64). -/
def pickerStops (s : State) : Bool :=
  decide (64 ≤ s.ou.length .heatFill) || decide (s.au.tokens = 0) || !ready s || decide (248 ≤ s.mju.log.length)

/-- The slot of a promotion (R64, R67, R68): the lowest FREE slot, or else the victim if the candidate's heat
exceeds its heat plus H. -/
def promotionSlot (s : State) (heat : Nat) : Option (Nat × Nat) :=
  match lowestFree s.bt with
  | some k => some (k, 0)
  | none =>
    match victimOf s.bt.slots (fun _ => false) with
    | some (k, v) => if v.heat + s.policy.hyst < heat then some (k, v.strikes) else none
    | none => none

/-- The stale flag of the head row is cleared (R46). -/
def clearFlag (s : State) (i : Nat) (w : Watch) : State :=
  s.withRows (tset s.ct.rows i (.watching { w with eligible := false }))

/-- A promotion (R65). -/
def promote (s : State) (i : Nat) (w : Watch) (k strikes : Nat) : State :=
  let b := newBinding .filling w.extent BlockSet.none 0#4 w.heat strikes s.seconds
  let s1 := ((s.setBinding k b).withRows (terase s.ct.rows i)).setWaiting .heatFill
    (s.ou.heatFill.waiting ++ [newOrder .heatFill k w.extent])
  { s1 with au := { s1.au with tokens := s1.au.tokens - 1 } }.logChange s.bt.slots [k]

/-- A run of the promotion picker (R64). Each turn takes one row out of the eligible set. -/
def promoteLoop : Nat → State → State
  | 0, s => s
  | fuel + 1, s =>
    if pickerStops s then s
    else
      match eligibleHead s.ct.rows with
      | none => s
      | some (i, w) =>
        if w.heat < aEff s then promoteLoop fuel (clearFlag s i w)
        else
          match promotionSlot s w.heat with
          | none => s
          | some (k, strikes) => promoteLoop fuel (promote s i w k strikes)

/-- PROMOTION_PICKER_RUN (R64); after it ATTN may fall with the request for the lane (R167, log 11). -/
def execPromotionPickerRun (s : State) : Host.Outcome State Fault Refusal :=
  .next (if active s && decide (0 < s.au.runsOwed) then
      (promoteLoop (eligibleRows s.ct.rows).length
        { s with au := { s.au with runsOwed := s.au.runsOwed - 1 } }).settleCredit
    else s)

/-! ### The refill scan (R148, R149) -/

/-- A binding qualifies for the refill scan (R148). -/
def refillQualifies (b : Binding) : Bool :=
  decide (b.state = .held) && b.pinned && !b.complete && !b.condemned

/-- A pin fill is queued (R149), with a token if there is one (R59). -/
def queuePinFill (s : State) (k : Nat) (b : Binding) : State :=
  let s1 := (s.setBinding k { b with state := .filling }).setWaiting .pinFill
    (s.ou.pinFill.waiting ++ [newOrder .pinFill k b.extent])
  { s1 with au := { s1.au with tokens := s1.au.tokens - 1 } }

/-- The scan takes qualifying bindings in ascending slot order until the queue holds 32 (R148). -/
def refillLoop : Nat → State → State
  | 0, s => s
  | fuel + 1, s =>
    if s.ou.pinFill.halted || decide (32 ≤ s.ou.length .pinFill) then s
    else
      match (bindingsOf s.bt.slots).find? (fun kb => refillQualifies kb.2) with
      | none => s
      | some (k, b) => refillLoop fuel (queuePinFill s k b)

/-- REFILL_SCAN (R148). -/
def execRefillScan (s : State) : Host.Outcome State Fault Refusal :=
  .next (if active s && decide (0 < s.pu.scansOwed) then
      refillLoop 32 { s with pu := { s.pu with scansOwed := s.pu.scansOwed - 1 } }
    else s)

end Sys2Proof.Machine
end

