-- ==== Sys2Proof/Machine/Pins.lean ====
section
/-! DEFINITION. Pins and owners (chapter 8): PIN, UNPIN and UNPIN_ALL. -/

namespace Sys2Proof.Machine

def pinOwner (f : Frame) : Nat := fieldAt f.body 0 1

def pinFirst (f : Frame) : Nat := fieldAt f.body 1 4

def pinCount (f : Frame) : Nat := fieldAt f.body 5 1

def alertCondition : AlertCode → CondCode
  | .pinsLost => .pinsLost
  | .mapReplaced => .mapReplaced
  | .pinsDropped => .pinsDropped

/-- The checks 2 and 3 of R140, and what a request that passes them does. -/
def checkOwner (serve : Frame → State → State) (f : Frame) (s : State) : State :=
  if 3 < pinOwner f then s.refer f .form .badField 0
  else if 64 < pinCount f then s.refer f .form .badField 5
  else
    match s.pu.alert (pinOwner f) with
    | some c =>
      { s with pu := s.pu.setAlert (pinOwner f) none }.refer f .lost (alertCondition c) (pinOwner f)
    | none => serve f s

/-! ### PIN (R143 to R145) -/

/-- A PIN as it grows. -/
structure Pinning where
  slots : List (Nat × Slot)
  rows : List (Nat × Row)
  touched : List Nat
  shortfall : Nat
  deriving DecidableEq, Repr

/-- The decision of one extent of a PIN (R143, R144). `covers` says which extents the PIN's range holds. -/
def pinExtent (s : State) (owner : Nat) (covers : Nat → Bool) (p : Pinning) (x : Nat) : Pinning :=
  match residency p.slots x with
  | some (k, b) =>
    if hasOwner b.owners owner then p
    else if b.pinned || decide (pinnedCount p.slots < s.policy.pinLimit) then
      { p with
        slots := tset p.slots k (.bound { b with owners := b.owners ||| ownerBit owner })
        touched := p.touched ++ [k] }
    else { p with shortfall := p.shortfall + 1 }
  | none =>
    if pinnedCount p.slots < s.policy.pinLimit then
      match takeSlot { s.bt with slots := p.slots } covers with
      | some (k, strikes) =>
        { p with
          slots := tset p.slots k
            (.bound (newBinding .held x BlockSet.none (ownerBit owner) (rowHeat p.rows x) strikes s.seconds))
          rows := emptyRowOf p.rows x
          touched := p.touched ++ [k] }
      | none => { p with shortfall := p.shortfall + 1 }
    else { p with shortfall := p.shortfall + 1 }

/-- The extents of a range, ascending. -/
def extentRange (first count : Nat) : List Nat := (List.range count).map (first + ·)

/-- The plan of a PIN over a range of extents. -/
def pinPlan (s : State) (owner first count : Nat) : Pinning :=
  (extentRange first count).foldl
    (pinExtent s owner fun x => decide (first ≤ x) && decide (x < first + count)) ⟨s.bt.slots, s.ct.rows, [], 0⟩

/-- A PIN is made whole, and the refill scan started, or answered RETRY (R145). -/
def makePin (f : Frame) (s : State) : State :=
  let p := pinPlan s (pinOwner f) (pinFirst f) (pinCount f)
  if requestRoom s.mju.log (grownLog s.seconds s.bt.slots p.slots s.mju.log p.touched) then
    ((((s.withSlots p.slots).withRows p.rows).startScan).logChange s.bt.slots p.touched).answerOk f.tag
      (.shortfall p.shortfall)
  else s.reply f.tag .retry

/-- The check 4 of R140 for a PIN, with the shortfall of R184. -/
def servePin (f : Frame) (s : State) : State :=
  if pinCount f = 0 then s.refer f .range .outOfRange 0
  else if s.bt.e < pinFirst f + pinCount f then
    s.refer f .range .outOfRange (extentsBeyond s.bt.e (pinFirst f) (pinCount f))
  else makePin f s

/-- PIN (R143). -/
def execPin (s : State) : Host.Outcome State Fault Refusal :=
  .next (takeRequest .pin (checkOwner servePin) s)

/-! ### UNPIN (R146, R147) -/

/-- An UNPIN as it grows: the state so far, and whether it has released a slot. -/
structure Unpinning where
  state : State
  released : Bool
  deriving DecidableEq, Repr

/-- The owner is removed from the binding of slot `k` (R146, R15). -/
def unpinSlot (owner : Nat) (u : Unpinning) (k : Nat) : Unpinning :=
  match bindingAt u.state.bt.slots k with
  | none => u
  | some b =>
    let b1 := { b with owners := b.owners &&& ~~~(ownerBit owner) }
    if !b1.pinned && decide (b1.state = .held) && decide (b1.valid = BlockSet.none) then
      if b1.condemned then
        if b1.isDirty then { u with state := u.state.setBinding k b1 } else { u with state := u.state.retire k b1 }
      else ⟨u.state.release k, true⟩
    else { u with state := u.state.setBinding k b1 }

/-- An UNPIN of the bindings of the slots `ks`, which the owner pins, made whole or answered RETRY (R146). -/
def makeUnpin (ks : List Nat) (f : Frame) (s : State) : State :=
  let u := ks.foldl (unpinSlot (pinOwner f)) ⟨s, false⟩
  if requestRoom s.mju.log (grownLog s.seconds s.bt.slots u.state.bt.slots s.mju.log ks) then
    ((u.state.startPickerIf u.released).logChange s.bt.slots ks).answerOk f.tag (.released ks.length)
  else s.reply f.tag .retry

/-- The slot that holds extent `x`, if the owner pins its binding. -/
def pinnedSlot (slots : List (Nat × Slot)) (owner x : Nat) : Option Nat :=
  match residency slots x with
  | some (k, b) => if hasOwner b.owners owner then some k else none
  | none => none

/-- The slots of a range of extents that the owner pins, in ascending extent order (R146). -/
def pinnedInRange (slots : List (Nat × Slot)) (owner first count : Nat) : List Nat :=
  (extentRange first count).filterMap (pinnedSlot slots owner)

/-- All the slots that the owner pins, in ascending slot order (R147, log 8). -/
def pinnedBy (slots : List (Nat × Slot)) (owner : Nat) : List Nat :=
  (bindingsOf slots).filterMap fun kb => if hasOwner kb.2.owners owner then some kb.1 else none

/-- The check 4 of R140 for an UNPIN with a count of 1 or more, with the shortfall of R184. -/
def serveUnpin (f : Frame) (s : State) : State :=
  if s.bt.e < pinFirst f + pinCount f then
    s.refer f .range .outOfRange (extentsBeyond s.bt.e (pinFirst f) (pinCount f))
  else makeUnpin (pinnedInRange s.bt.slots (pinOwner f) (pinFirst f) (pinCount f)) f s

/-- UNPIN (R146). -/
def execUnpin (s : State) : Host.Outcome State Fault Refusal :=
  .next (takeRequest .unpin (checkOwner serveUnpin) s)

/-- UNPIN with count 0 has no range (R147). -/
def serveUnpinAll (f : Frame) (s : State) : State := makeUnpin (pinnedBy s.bt.slots (pinOwner f)) f s

/-- UNPIN_ALL (R147). -/
def execUnpinAll (s : State) : Host.Outcome State Fault Refusal :=
  .next (takeRequest .unpinAll (checkOwner serveUnpinAll) s)

end Sys2Proof.Machine
end

