-- ==== Sys2Proof/Machine/Reset.lean ====
section
/-! DEFINITION. The resets: POWER_ON, RESET_LINE, RESET_WARM and RESET_COLD. -/

namespace Sys2Proof.Machine

/-! ### Power-on and the reset line -/

/-- Every table and every unit at its power-on values. The waiting commands and the choice counter are no state of
the part and stay. -/
def powerOnState (s : State) : State :=
  { State.reset with pending := s.pending, choices := s.choices }

/-- POWER_ON (R20, R39, R54, R71, R120, R137, R150, R165, R177, R181, R185, R189, R190). -/
def execPowerOn (s : State) : Host.Outcome State Fault Refusal := .next (powerOnState s)

/-- RESET_LINE: the effect of power-on on every table; a frame being sent stops at once, and one being received is
lost (R181). -/
def execResetLine (s : State) : Host.Outcome State Fault Refusal := .next (powerOnState s)

/-! ### RESET with COLD (R179) -/

/-- Every block at its RESET COLD values: the policy but S_lim and the pin limit, E, the clock and the fault table are
kept; of the link, the receiver, the intake behind the RESET, the pull credit and a frame being sent (R179, R181). -/
def coldState (s : State) : State :=
  { s with
    policy := { s.policy with sLim := 0, pinLimit := 0 }
    bt := .empty s.bt.e
    hu := .reset
    ct := .reset
    au := .full s.policy.bMax
    ou := .reset
    psm := .reset
    pu := .reset
    mju := .reset
    lif := { s.lif with orderFrames := [], advice := none, deltaAsking := false } }

/-- RESET COLD served; its OK reply clears the condition record (R179, R185). -/
def serveResetCold (f : Frame) (s : State) : State := (coldState s).answerOk f.tag .bare

/-- RESET_COLD (R179). -/
def execResetCold (s : State) : Host.Outcome State Fault Refusal :=
  .next (takeRequest .resetCold serveResetCold s)

/-! ### RESET with WARM (R180) -/

/-- A slot at RESET WARM (R21): none when it is released to FREE. -/
def Slot.warm : Slot → Option Slot
  | .retired => some .retired
  | .bound b =>
    match b.state with
    | .filling =>
      if decide (b.valid ≠ BlockSet.none) || b.pinned then some (.bound { b.orderless with state := .held }) else none
    | .held => some (.bound b.orderless)
    | .draining => some (.bound { b.orderless with state := .held })

/-- The slots at RESET WARM (R21). -/
def warmSlots (slots : List (Nat × Slot)) : List (Nat × Slot) :=
  slots.filterMap fun p => p.2.warm.map fun x => (p.1, x)

/-- Every block at its RESET WARM values (R21, R40, R55, R72, R121, R138, R151, R166). -/
def warmState (s : State) : State :=
  { s with
    bt := { s.bt with slots := warmSlots s.bt.slots }
    hu := { s.hu with intake := [], lapse := false }
    ou := { s.ou with pinFill := .empty, heatFill := .empty, drain := .empty, issued := [] }
    mju := { s.mju with log := [], stale := true, exporting := none }
    lif := { s.lif with orderFrames := [], deltaAsking := false } }

/-- The condemned bindings that RESET WARM leaves in HELD with an empty dirty set, in rising slot order (R16). -/
def warmRetirements (slots : List (Nat × Slot)) : List (Nat × Binding) :=
  (bindingsOf slots).filter fun kb => decide (kb.2.state = .held) && kb.2.condemned && !kb.2.isDirty

/-- The end of RESET WARM (R180): those bindings retire and enter the log (R156), and a picker run (R72) and a refill
scan (R151) start. -/
def warmEnd (s : State) : State :=
  let gone := warmRetirements s.bt.slots
  (((gone.foldl (fun t kb => t.retire kb.1 kb.2) s).logChange s.bt.slots (gone.map Prod.fst)).startPicker).startScan

/-- RESET WARM served: the reset kind is checked, and WARM is refused outside ACTIVE (R180). -/
def serveResetWarm (f : Frame) (s : State) : State :=
  if fieldAt f.body 0 1 = 0 then
    match s.mju.life with
    | .active => (warmEnd (warmState s)).answerOk f.tag .bare
    | .importing => s.refer f .phase .importing 0
    | .unbound => s.refer f .phase .unbound 0
  else s.refer f .form .badField 0

/-- RESET_WARM (R180). -/
def execResetWarm (s : State) : Host.Outcome State Fault Refusal :=
  .next (takeRequest .resetWarm serveResetWarm s)

end Sys2Proof.Machine
end

