-- ==== Sys2Proof/Machine/Serve.lean ====
section
/-! DEFINITION. Serving reads and writes (chapter 5): LOOKUP, PLAN_WRITE and DISCARD. -/

namespace Sys2Proof.Machine

/-! ### Runs (R75) -/

/-- Blocks with their tiers, in ascending order, cut into maximal runs (R75). -/
def runsOf : List (Nat × Tier) → List Run
  | [] => []
  | (b, t) :: rest =>
    match runsOf rest with
    | [] => [⟨b, 1, t⟩]
    | r :: rs => if r.tier = t then ⟨b, r.count + 1, t⟩ :: rs else ⟨b, 1, t⟩ :: r :: rs

/-- The number of blocks that runs account for. -/
def coveredBy (runs : List Run) : Nat := (runs.map Run.count).sum

/-! ### Requests over a block range (R73) -/

def rangeStart (f : Frame) : Nat := fieldAt f.body 0 4

def rangeCount (f : Frame) : Nat := fieldAt f.body 4 2

/-- The range is checked on the count as received; then the request is served on the clamped count (R73, R184). -/
def serveRange (serve : Nat → Nat → Frame → State → State) (f : Frame) (s : State) : State :=
  if outOfRange s.bt.e (rangeStart f) (rangeCount f) then
    s.refer f .range .outOfRange
      (if rangeCount f = 0 then 0 else blocksBeyond s.bt.e (rangeStart f) (rangeCount f))
  else serve (rangeStart f) (clampedCount (rangeCount f)) f s

/-! ### LOOKUP (R74 to R77) -/

/-- The tier of a block (R74): the valid set alone decides. -/
def tierAt (slots : List (Nat × Slot)) (block : Nat) : Tier :=
  match residency slots (block / 64) with
  | some (k, b) => if b.valid.getLsbD (block % 64) then .flash k else .platter
  | none => .platter

/-- The blocks of a range with their tiers. -/
def lookupTiers (slots : List (Nat × Slot)) (start count : Nat) : List (Nat × Tier) :=
  (List.range count).map fun i => (start + i, tierAt slots (start + i))

/-- The runs of a LOOKUP reply: at most the first 16 (R76). -/
def lookupRuns (slots : List (Nat × Slot)) (start count : Nat) : List Run :=
  (runsOf (lookupTiers slots start count)).take 16

/-- LOOKUP served (R76). -/
def serveLookup (start count : Nat) (f : Frame) (s : State) : State :=
  s.answerOk f.tag
    (.runs (coveredBy (lookupRuns s.bt.slots start count)) (lookupRuns s.bt.slots start count))

/-- LOOKUP (R74). -/
def execLookup (s : State) : Host.Outcome State Fault Refusal :=
  .next (takeRequest .lookup (serveRange serveLookup) s)

/-! ### PLAN-WRITE (R78 to R91) -/

/-- A plan as it grows: the slots and rows as the decisions so far leave them, the targets, and the slots touched. -/
structure Plan where
  slots : List (Nat × Slot)
  rows : List (Nat × Row)
  targets : List (Share × Tier)
  touched : List Nat
  deriving DecidableEq, Repr

/-- The binding of a staged write (R87). -/
def stagedBinding (rows : List (Nat × Row)) (x : Nat) (w : BlockSet) (strikes : Nat) (now : Time) : Binding :=
  newBinding .held x w 0#4 (rowHeat rows x) strikes now

/-- The target of a bound extent (R78, cases 1 to 4): whether the written set goes to flash. -/
def boundToFlash (s : State) (b : Binding) (w : BlockSet) : Bool :=
  decide (b.dirty &&& w ≠ BlockSet.none) || decide (b.state ≠ .held) || !b.condemned || !ready s

/-- A bound extent with FLASH as its target (R79 to R83, R88). -/
def planFlash (s : State) (k : Nat) (b : Binding) (sh : Share) (p : Plan) : Plan :=
  { p with
    slots := tset p.slots k (.bound (b.written sh.blocks (capturedBlocks s.ou.issued k) s.seconds))
    targets := p.targets ++ [(sh, .flash k)]
    touched := p.touched ++ [k] }

/-- A condemned HELD binding whose dirty set the write misses, written to the platter: the written set is no longer
valid (R83, R2). -/
def planCondemned (k : Nat) (b : Binding) (sh : Share) (p : Plan) : Plan :=
  { p with
    slots := tset p.slots k (.bound (b.without sh.blocks))
    targets := p.targets ++ [(sh, .platter)]
    touched := p.touched ++ [k] }

/-- An unbound extent staged into slot `k` (R87). -/
def planStaged (s : State) (k strikes : Nat) (sh : Share) (p : Plan) : Plan where
  slots := tset p.slots k (.bound (stagedBinding p.rows sh.extent sh.blocks strikes s.seconds))
  rows := emptyRowOf p.rows sh.extent
  targets := p.targets ++ [(sh, .flash k)]
  touched := p.touched ++ [k]

/-- The decision of one touched extent (R78), none when it needs staging and cannot have it (R85, R86). `touches`
says which extents the request touches. -/
def planShare (s : State) (touches : Nat → Bool) (p : Plan) (sh : Share) : Option Plan :=
  match residency p.slots sh.extent with
  | some (k, b) => if boundToFlash s b sh.blocks then some (planFlash s k b sh p) else some (planCondemned k b sh p)
  | none =>
    if ready s then some { p with targets := p.targets ++ [(sh, .platter)] }
    else if stagingOpen s (dirtyCount p.slots) then
      (takeSlot { s.bt with slots := p.slots } touches).map fun kt => planStaged s kt.1 kt.2 sh p
    else none

/-- The decisions of all touched extents, in ascending extent order (R78). -/
def planShares (s : State) (touches : Nat → Bool) : Plan → List Share → Option Plan
  | p, [] => some p
  | p, sh :: rest => (planShare s touches p sh).bind fun p1 => planShares s touches p1 rest

/-- The plan of a range. -/
def planOf (s : State) (start count : Nat) : Option Plan :=
  planShares s (fun x => (sharesOf start count).any fun sh => sh.extent == x) ⟨s.bt.slots, s.ct.rows, [], []⟩
    (sharesOf start count)

/-- The blocks of a share with its target. -/
def targetBlocks (t : Share × Tier) : List (Nat × Tier) :=
  (List.range t.1.count).map fun i => (64 * t.1.extent + t.1.lo + i, t.2)

/-- The runs of a PLAN-WRITE reply (R91). -/
def planRuns (p : Plan) : List Run := runsOf (p.targets.map targetBlocks).flatten

/-- A plan is made whole (R91). -/
def makePlan (s : State) (p : Plan) : State :=
  ((s.withSlots p.slots).withRows p.rows).logChange s.bt.slots p.touched

/-- PLAN-WRITE served (R89 to R91). -/
def servePlanWrite (start count : Nat) (f : Frame) (s : State) : State :=
  match planOf s start count with
  | none => s.reply f.tag .needsPlatter
  | some p =>
    if requestRoom s.mju.log (grownLog s.seconds s.bt.slots p.slots s.mju.log p.touched) then
      (makePlan s p).answerOk f.tag (.runs (coveredBy (planRuns p)) (planRuns p))
    else s.reply f.tag .retry

/-- PLAN_WRITE (R78). -/
def execPlanWrite (s : State) : Host.Outcome State Fault Refusal :=
  .next (takeRequest .planWrite (serveRange servePlanWrite) s)

/-! ### DISCARD (R92 to R95) -/

/-- A discard as it grows: the state so far, the slots touched, and whether it starts the picker and the scan. -/
structure Discarding where
  state : State
  touched : List Nat
  released : Bool
  scan : Bool
  deriving DecidableEq, Repr

/-- What DISCARD makes of a HELD binding (R93): `b` is the binding with the range removed. -/
def discardHeld (s : State) (k : Nat) (b : Binding) : State :=
  if b.condemned && !b.isDirty then s.retire k b
  else if !b.condemned && !b.pinned && decide (b.valid = BlockSet.none) then s.release k
  else s.setBinding k b

/-- DISCARD at one touched extent (R92 to R94). -/
def discardShare (d : Discarding) (sh : Share) : Discarding :=
  match residency d.state.bt.slots sh.extent with
  | none => d
  | some (k, b) =>
    let b1 := b.without sh.blocks
    if b.state = .held then
      { state := discardHeld d.state k b1
        touched := d.touched ++ [k]
        released := d.released || (!b1.condemned && !b1.pinned && decide (b1.valid = BlockSet.none))
        scan := d.scan || (b1.pinned && decide (b1.valid ≠ b.valid)) }
    else { d with state := d.state.setBinding k b1, touched := d.touched ++ [k] }

/-- DISCARD served (R92, R95). -/
def serveDiscard (start count : Nat) (f : Frame) (s : State) : State :=
  let d := (sharesOf start count).foldl discardShare ⟨s, [], false, false⟩
  if requestRoom s.mju.log (grownLog s.seconds s.bt.slots d.state.bt.slots s.mju.log d.touched) then
    ((((d.state.settleDrainAll).startPickerIf d.released).startScanIf d.scan).logChange s.bt.slots d.touched).answerOk
      f.tag (.covered count)
  else s.reply f.tag .retry

/-- DISCARD (R92). -/
def execDiscard (s : State) : Host.Outcome State Fault Refusal :=
  .next (takeRequest .discard (serveRange serveDiscard) s)

end Sys2Proof.Machine
end

