-- ==== Sys2Proof/Machine/Up.lean ====
section
/-! DEFINITION. The up lane: SEND_REPLY, SEND_ORDER, DELTA, EXPORT_DATA, EXPORT_END and SEND_ADVICE. A frame starts when
pull credit is there and the outbound arbiter chooses its class (R167, R175); where a row of the lane starts none, a frame
being sent may reach its last byte (log 2). -/

namespace Sys2Proof.Machine

/-- SEND_REPLY (R175). -/
def execSendReply (s : State) : Host.Outcome State Fault Refusal :=
  .next (if granted s .reply then
      match s.lif.reply with
      | some r => { s with lif := { s.lif with reply := none } }.startFrame (replyFrame r)
      | none => s
    else s.frameEnd)

/-- SEND_ORDER: the oldest ORDER frame (R106, R175). -/
def execSendOrder (s : State) : Host.Outcome State Fault Refusal :=
  .next (if granted s .order then
      match s.lif.orderFrames with
      | o :: rest => { s with lif := { s.lif with orderFrames := rest } }.startFrame (orderFrameOf o)
      | [] => s
    else s.frameEnd)

/-- A waiting SYNC after `sent` entries have left the head of the log: at mark 0 its reply is made (R158). -/
def State.lowerMark (s : State) (sent : Nat) : State :=
  match s.mju.sync with
  | none => s
  | some w =>
    if w.mark ≤ sent then { s with mju := { s.mju with sync := none } }.answerOk w.tag .bare
    else { s with mju := { s.mju with sync := some ⟨w.tag, w.mark - sent⟩ } }

/-- The records of a DELTA frame: the persisted forms of the head entries, up to 16, in log order (R157). -/
def deltaRecords (s : State) : List Record := (s.mju.log.take 16).map fun e => persisted s.bt.slots e.slot

/-- A DELTA frame is made at the grant (R157, R158). While the conditions hold, the MJU asks again. -/
def sendDelta (s : State) : State :=
  let s1 := { s with mju := { s.mju with log := s.mju.log.drop 16 } }.lowerMark (min 16 s.mju.log.length)
  { s1 with lif := { s1.lif with deltaAsking := deltaWanted s1.seconds s1.policy s1.mju } }.startFrame
    ⟨Kind.delta, 0#16, recordsBody (deltaRecords s)⟩

/-- DELTA (R157). -/
def execDelta (s : State) : Host.Outcome State Fault Refusal :=
  .next (if granted s .delta then if s.mju.log.isEmpty then s else sendDelta s
    else s.frameEnd)

/-- The slots of the next EXPORT-DATA frame: up to 16 that are not FREE, from the cursor on (R159). -/
def exportSlots (s : State) (cursor : Nat) : List Nat :=
  ((s.bt.slots.filter fun p => decide (cursor ≤ p.1) && decide (p.1 < s.bt.n)).take 16).map Prod.fst

/-- The cursor after the frame: behind the sixteenth record, or past slot N − 1 (R159). -/
def cursorAfter (n : Nat) (ks : List Nat) : Nat :=
  if ks.length < 16 then n else ks.getLastD 0 + 1

/-- EXPORT-END is made: the export stops and journal-stale is cleared (R160). -/
def sendExportEnd (s : State) (sent : Nat) : State :=
  { s with mju := { s.mju with exporting := none, stale := false } }.startFrame
    ⟨Kind.exportEnd, 0#16, leBytes 2 sent⟩

/-- EXPORT_DATA (R159): where no slot that is not FREE is left, EXPORT-END is made in its place. -/
def sendExportData (s : State) (x : Exporting) : State :=
  match exportSlots s x.cursor with
  | [] => sendExportEnd s x.sent
  | k :: ks =>
    { s with mju := { s.mju with
        exporting := some ⟨cursorAfter s.bt.n (k :: ks), x.sent + (k :: ks).length⟩ } }.startFrame
      ⟨Kind.exportData, 0#16, recordsBody ((k :: ks).map (persisted s.bt.slots))⟩

/-- EXPORT_DATA (R159). -/
def execExportData (s : State) : Host.Outcome State Fault Refusal :=
  .next (if granted s .exporting then
      match s.mju.exporting with
      | some x => if x.cursor < s.bt.n then sendExportData s x else s
      | none => s
    else s.frameEnd)

/-- EXPORT_END (R160). -/
def execExportEnd (s : State) : Host.Outcome State Fault Refusal :=
  .next (if granted s .exporting then
      match s.mju.exporting with
      | some x => if s.bt.n ≤ x.cursor then sendExportEnd s x.sent else s
      | none => s
    else s.frameEnd)

/-- SEND_ADVICE (R132, R175). -/
def execSendAdvice (s : State) : Host.Outcome State Fault Refusal :=
  .next (if granted s .advice then
      match s.lif.advice with
      | some a => { s with lif := { s.lif with advice := none } }.startFrame (adviceFrame a)
      | none => s
    else s.frameEnd)

end Sys2Proof.Machine
end

