-- ==== Sys2Proof/Machine/Dispatch.lean ====
section
/-! DEFINITION. exec: one arm for each command, each a direct call of its meaning. -/

namespace Sys2Proof.Machine

def exec (i : Instr) (s : State) : Host.Outcome State Fault Refusal :=
  match i with
  | .powerOn => Sys2Proof.Machine.execPowerOn s
  | .resetLine => Sys2Proof.Machine.execResetLine s
  | .secondsAdvance => Sys2Proof.Machine.execSecondsAdvance s
  | .rowExpiry row => Sys2Proof.Machine.execRowExpiry row s
  | .barEnd row => Sys2Proof.Machine.execBarEnd row s
  | .backoffEnd slot => Sys2Proof.Machine.execBackoffEnd slot s
  | .orderTimeout tag => Sys2Proof.Machine.execOrderTimeout tag s
  | .deltaDelayExpiry => Sys2Proof.Machine.execDeltaDelayExpiry s
  | .spinUpCadence => Sys2Proof.Machine.execSpinUpCadence s
  | .mainsCadence => Sys2Proof.Machine.execMainsCadence s
  | .restAdvice => Sys2Proof.Machine.execRestAdvice s
  | .drainPickerRun => Sys2Proof.Machine.execDrainPickerRun s
  | .promotionPickerRun => Sys2Proof.Machine.execPromotionPickerRun s
  | .refillScan => Sys2Proof.Machine.execRefillScan s
  | .dispatch => Sys2Proof.Machine.execDispatch s
  | .takeItem => Sys2Proof.Machine.execTakeItem s
  | .pullByte bytes => Sys2Proof.Machine.execPullByte bytes s
  | .badFrame bytes => Sys2Proof.Machine.execBadFrame bytes s
  | .requestIntake bytes => Sys2Proof.Machine.execRequestIntake bytes s
  | .access bytes => Sys2Proof.Machine.execAccess bytes s
  | .platter bytes => Sys2Proof.Machine.execPlatter bytes s
  | .supply bytes => Sys2Proof.Machine.execSupply bytes s
  | .attach => Sys2Proof.Machine.execAttach s
  | .importBegin => Sys2Proof.Machine.execImportBegin s
  | .importPut => Sys2Proof.Machine.execImportPut s
  | .importEnd => Sys2Proof.Machine.execImportEnd s
  | .exportMap => Sys2Proof.Machine.execExport s
  | .sync => Sys2Proof.Machine.execSync s
  | .lookup => Sys2Proof.Machine.execLookup s
  | .planWrite => Sys2Proof.Machine.execPlanWrite s
  | .discard => Sys2Proof.Machine.execDiscard s
  | .pin => Sys2Proof.Machine.execPin s
  | .unpin => Sys2Proof.Machine.execUnpin s
  | .unpinAll => Sys2Proof.Machine.execUnpinAll s
  | .complete => Sys2Proof.Machine.execComplete s
  | .skipOn => Sys2Proof.Machine.execSkipOn s
  | .skipOff => Sys2Proof.Machine.execSkipOff s
  | .resume => Sys2Proof.Machine.execResume s
  | .drainAll => Sys2Proof.Machine.execDrainAll s
  | .policy => Sys2Proof.Machine.execPolicy s
  | .status => Sys2Proof.Machine.execStatus s
  | .condition => Sys2Proof.Machine.execCondition s
  | .faults => Sys2Proof.Machine.execFaults s
  | .faultsClear => Sys2Proof.Machine.execFaultsClear s
  | .resetWarm => Sys2Proof.Machine.execResetWarm s
  | .resetCold => Sys2Proof.Machine.execResetCold s
  | .unknownKindRequest => Sys2Proof.Machine.execUnknownKindRequest s
  | .sendReply => Sys2Proof.Machine.execSendReply s
  | .sendOrder => Sys2Proof.Machine.execSendOrder s
  | .delta => Sys2Proof.Machine.execDelta s
  | .exportData => Sys2Proof.Machine.execExportData s
  | .exportEnd => Sys2Proof.Machine.execExportEnd s
  | .sendAdvice => Sys2Proof.Machine.execSendAdvice s

end Sys2Proof.Machine
end

