-- ==== Sys2Proof/Safety.lean ====
section
/-! DEFINITION. What claims are made in: the laws that the manual states once for the whole part, and the few states
and premises that many claims share. -/

namespace Sys2Proof.Machine

/-! ### The law of bindings (R2, R4, R13, R31, R33) -/

/-- The law of one binding: the set law of R2, heat 0..4095 (R31), idle age 0..1023 (R33), strikes 0..2 (R13), and a
dirty-since exactly while it is dirty in ACTIVE (R4). -/
def Binding.lawful (isActive : Bool) (b : Binding) : Bool :=
  b.setLaw && decide (b.heat ≤ 4095) && decide (b.idle ≤ 1023) && decide (b.strikes ≤ 2)
    && decide (b.dirtySince.isSome = (isActive && b.isDirty))

/-- The heat and idle age of a row are in range (R31, R33). -/
def Row.lawful : Row → Bool
  | .watching w => decide (w.heat ≤ 4095) && decide (w.idle ≤ 1023)
  | .barred _ _ => true

/-- Every binding and every row is lawful. -/
def bindingLaw (s : State) : Bool :=
  (bindingsOf s.bt.slots).all (fun kb => kb.2.lawful (active s)) && s.ct.rows.all fun p => p.2.lawful

/-! ### The law of the map (R7, R11, R41, R52) -/

/-- The extents that are bound, in slot order. -/
def boundExtents (slots : List (Nat × Slot)) : List Nat := (bindingsOf slots).map fun kb => kb.2.extent

/-- The extents that have a row. -/
def rowExtents (rows : List (Nat × Row)) : List Nat := rows.map fun p => p.2.extent

/-- Both tables are in order, no slot is beyond N, no extent beyond E, no extent is bound twice (R11) or has two rows
(R41), a row lies in its extent's set (R41), a bound extent has no row (R52), and outside ACTIVE there is no row
(R54). -/
def mapLaw (s : State) : Bool :=
  tsorted s.bt.slots && s.bt.slots.all (fun p => decide (p.1 < s.bt.n))
    && (boundExtents s.bt.slots).all (fun x => decide (x < s.bt.e))
    && decide (boundExtents s.bt.slots).Nodup
    && tsorted s.ct.rows && s.ct.rows.all (fun p => decide (p.1 / 8 = p.2.extent % 1024))
    && (rowExtents s.ct.rows).all (fun x => decide (x < s.bt.e))
    && decide (rowExtents s.ct.rows).Nodup
    && (rowExtents s.ct.rows).all (fun x => decide (x ∉ boundExtents s.bt.slots))
    && (active s || s.ct.rows.isEmpty)

/-! ### The law of orders (R6, R7, R14, R16, R104 to R106) -/

/-- The state of a slot that has an order in this queue (R7). -/
def QueueId.slotState (q : QueueId) : BindState :=
  match q.kind with
  | .fill => .filling
  | .drain => .draining

/-- The waiting orders of a queue. -/
def OrderUnit.ordersIn (ou : OrderUnit) (q : QueueId) : List Order := (ou.queue q).waiting.map Waiting.order

/-- All orders: waiting and issued. -/
def OrderUnit.orders (ou : OrderUnit) : List Order :=
  ou.ordersIn .pinFill ++ ou.ordersIn .heatFill ++ ou.ordersIn .drain ++ ou.issued.map Issued.order

/-- The order fits the binding of its slot (R7, R97), and its attempts and backoff interval are in range (R97, R110). -/
def Order.fits (slots : List (Nat × Slot)) (o : Order) : Bool :=
  decide (1 ≤ o.attempts) && decide (o.attempts ≤ 3) && decide (o.backoff ≤ 60)
    && match bindingAt slots o.slot with
       | some b => decide (b.state = o.queue.slotState) && decide (b.extent = o.extent)
       | none => false

/-- The issued order's binding has its tag, and the set of blocks written since its dispatch (R3, R6). -/
def Issued.fits (slots : List (Nat × Slot)) (o : Issued) : Bool :=
  decide (o.tag ≠ 0#16)
    && match bindingAt slots o.order.slot with
       | some b =>
         decide (b.tag = some o.tag) && decide (b.overtaken.isSome = decide (o.order.queue.kind = .fill))
           && decide (b.redirtied.isSome = decide (o.order.queue.kind = .drain))
       | none => false

/-- The ORDER frame of an issued order. -/
def Issued.frame (o : Issued) : OrderFrame := ⟨o.tag, o.order.queue.kind, o.order.slot, o.order.extent, o.blocks⟩

/-- A binding that is not issued has no tag and no set of an order (R3, R6). -/
def Binding.untagged (b : Binding) : Bool := b.tag.isNone && b.overtaken.isNone && b.redirtied.isNone

/-- A condemned binding is not FILLING (R14), nor HELD and clean in ACTIVE (R16). -/
def Binding.condemnedOk (isActive : Bool) (b : Binding) : Bool :=
  !b.condemned || decide (b.state ≠ .filling) && (!isActive || decide (b.state ≠ .held) || b.isDirty)

/-- The drains, waiting and issued. -/
def OrderUnit.drains (ou : OrderUnit) : Nat :=
  ou.drain.waiting.length + ou.issued.countP fun o => decide (o.order.queue = .drain)

/-- The waiting orders stand in their own queues. -/
def OrderUnit.queuesOk (ou : OrderUnit) : Bool :=
  (ou.ordersIn .pinFill).all (fun o => decide (o.queue = .pinFill))
    && (ou.ordersIn .heatFill).all (fun o => decide (o.queue = .heatFill))
    && (ou.ordersIn .drain).all (fun o => decide (o.queue = .drain))

/-- A slot is FILLING or DRAINING exactly when one order names it, and no slot is named by two (R7). -/
def slotsMatchOrders (s : State) : Bool :=
  decide (s.ou.orders.map Order.slot).Nodup && s.ou.orders.all (fun o => o.fits s.bt.slots)
    && (bindingsOf s.bt.slots).all fun kb => decide (kb.2.state = .held) || (s.ou.orders.map Order.slot).contains kb.1

/-- The issued set (R104, R105): at most 8 orders, tags distinct and not 0, each binding with its order's tag, and no
tag on any other binding (R6). -/
def issuedLaw (s : State) : Bool :=
  decide (s.ou.issued.length ≤ 8) && decide (1 ≤ s.policy.window) && decide (s.policy.window ≤ 8)
    && decide (s.ou.issued.map Issued.tag).Nodup && decide (s.ou.tagCounter ≠ 0#16)
    && s.ou.issued.all (fun o => o.fits s.bt.slots)
    && (bindingsOf s.bt.slots).all fun kb =>
        kb.2.untagged || (s.ou.issued.map fun o => o.order.slot).contains kb.1

/-- The law of orders: R7, the issued set, every ORDER frame waiting is an issued order's (R106), condemned bindings
(R14, R16), at most 72 drains (64 by R98, and 8 returned), and no order outside ACTIVE (R120). -/
def orderLaw (s : State) : Bool :=
  s.ou.queuesOk && slotsMatchOrders s && issuedLaw s
    && s.lif.orderFrames.all (fun f => (s.ou.issued.map Issued.frame).contains f)
    && (bindingsOf s.bt.slots).all (fun kb => kb.2.condemnedOk (active s))
    && decide (s.ou.drains ≤ 72) && (active s || s.ou.orders.isEmpty)

/-! ### The laws of the log, the link and the units -/

/-- At most 256 entries, never two for one slot (R154). -/
def logLaw (s : State) : Bool :=
  decide (s.mju.log.length ≤ 256) && decide (s.mju.log.map LogEntry.slot).Nodup

/-- No pull credit while ATTN is deasserted, at most 16 (R167); at most 8 requests waiting (R171); a request for the
lane by DELTA only with entries in the log (R157); no reply waits while one is being sent (R172); the mark of a waiting
SYNC counts entries of the log, and no reply waits beside it (R158, R172). -/
def linkLaw (s : State) : Bool :=
  (attn s || decide (s.lif.credit = 0)) && decide (s.lif.credit ≤ 16) && decide (s.lif.intake.length ≤ 8)
    && (!s.lif.deltaAsking || !s.mju.log.isEmpty) && (!sendingReply s || s.lif.reply.isNone)
    && match s.mju.sync with
       | some w => decide (0 < w.mark) && decide (w.mark ≤ s.mju.log.length) && s.lif.reply.isNone
       | none => true

/-- A value of the periods P_c and P_r (R34). -/
def isPeriod (v : Nat) : Bool := [1, 2, 4, 8, 16, 32].contains v

/-- Every parameter is in its range (R177), the pinned count within the pin limit (R139). -/
def policyLaw (s : State) : Bool :=
  decide (16 ≤ s.policy.aBase) && decide (s.policy.aBase ≤ 2048) && decide (s.policy.hyst ≤ 1024)
    && decide (64 ≤ s.policy.bMax) && decide (s.policy.bMax ≤ 16384) && decide (s.policy.rate ≤ 600)
    && isPeriod s.policy.pc && isPeriod s.policy.pr
    && decide (10 ≤ s.policy.lifetime) && decide (s.policy.lifetime ≤ 1023)
    && decide (60 ≤ s.policy.barPeriod) && decide (s.policy.barPeriod ≤ 65535)
    && decide (16 ≤ s.policy.streamThreshold) && decide (s.policy.streamThreshold ≤ 4096)
    && decide (s.policy.sLim ≤ s.bt.n)
    && decide (60 ≤ s.policy.hHold) && decide (s.policy.hHold ≤ 3600) && decide (s.policy.drainDelay ≤ 600)
    && decide (pinnedCount s.bt.slots ≤ s.policy.pinLimit) && decide (s.policy.pinLimit ≤ s.bt.n)
    && decide (5 ≤ s.policy.orderTimeout) && decide (s.policy.orderTimeout ≤ 255)
    && decide (1 ≤ s.policy.flushCount) && decide (s.policy.flushCount ≤ 16) && decide (s.policy.deltaDelay ≤ 60)
    && decide (5 ≤ s.policy.restDelay) && decide (s.policy.restDelay ≤ 600)
    && decide (1 ≤ s.policy.window) && decide (s.policy.window ≤ 8)

/-- T in 0..B_max and the accumulator below 60 (R56). -/
def tokenLaw (s : State) : Bool := decide (s.au.tokens ≤ s.policy.bMax) && decide (s.au.acc < 60)

/-- The places of the Heat Unit (R22 to R28, R34), and the fault table: at most 8 entries, no two of one kind and
subject (R187). -/
def unitLaw (s : State) : Bool :=
  decide (s.hu.intake.length ≤ 64) && decide (s.hu.lapseCount ≤ 65535) && decide (s.hu.trackers.length ≤ 4)
    && decide (s.hu.wheel < 32) && decide (s.ct.untracked ≤ 65535)
    && decide (s.cfu.faults.length ≤ 8) && decide (s.cfu.overflow ≤ 65535)
    && decide (s.cfu.faults.map fun e => (e.kind, e.subject)).Nodup && decide (s.ou.retryCount ≤ 65535)

/-- All the laws together. -/
def allLaws (s : State) : Bool :=
  bindingLaw s && mapLaw s && orderLaw s && logLaw s && linkLaw s && policyLaw s && tokenLaw s && unitLaw s

/-! ### Shared premises and states -/

/-- The request handler can take `f`, a frame of kind `kind`: it is the head of the intake, no SYNC waits, and no reply is
waiting to be sent or being sent (R172); and the lane is not idle with an ORDER frame waiting and the credit to start it,
which goes before the next reply (R175, log 2). -/
abbrev State.turn (s : State) (kind : Byte) (f : Frame) (rest : List Frame) : Prop :=
  s.lif.intake = f :: rest ∧ f.kind = kind ∧ s.mju.sync = none ∧ s.lif.reply = none ∧ sendingReply s = false
  ∧ (s.lif.upLane ≠ none ∨ s.lif.credit = 0 ∨ s.lif.orderFrames = [])

/-- The pull credit of `t` after a change made in `s` that takes no pull: as it was, or 0 where ATTN is deasserted
(R167). -/
abbrev State.creditRule (s t : State) : Prop :=
  (attn t = true → t.lif.credit = s.lif.credit) ∧ (attn t = false → t.lif.credit = 0)

/-- `s` with the request taken and answered with this body, the condition record untouched. -/
def State.replied (s : State) (rest : List Frame) (tag : Tag) (body : ReplyBody) : State :=
  { s with lif := { s.lif with intake := rest, reply := some ⟨tag, body⟩ } }

/-- `s` with the request taken and answered OK: the condition record cleared (R185). -/
def State.answered (s : State) (rest : List Frame) (tag : Tag) (b : OkBody) : State :=
  { s with
    lif := { s.lif with intake := rest, reply := some ⟨tag, .ok b⟩ }
    cfu := { s.cfu with cond := ⟨.none, .none, 0, 0#8, 0#16⟩ } }

/-- `s` with the request taken and refused: the condition record set (R183). -/
def State.refused (s : State) (rest : List Frame) (f : Frame) (key : CondKey) (code : CondCode) (shortfall : Nat) :
    State :=
  { s with
    lif := { s.lif with intake := rest, reply := some ⟨f.tag, .refer key code⟩ }
    cfu := { s.cfu with cond := ⟨key, code, shortfall, f.kind, f.tag⟩ } }

/-- The command that takes the frames of a row. -/
def RequestRow.command : RequestRow → Instr
  | .attach => .attach
  | .importBegin => .importBegin
  | .importPut => .importPut
  | .importEnd => .importEnd
  | .exportMap => .exportMap
  | .sync => .sync
  | .lookup => .lookup
  | .planWrite => .planWrite
  | .discard => .discard
  | .pin => .pin
  | .unpin => .unpin
  | .unpinAll => .unpinAll
  | .complete => .complete
  | .skipOn => .skipOn
  | .skipOff => .skipOff
  | .resume => .resume
  | .drainAll => .drainAll
  | .policy => .policy
  | .status => .status
  | .condition => .condition
  | .faults => .faults
  | .faultsClear => .faultsClear
  | .resetWarm => .resetWarm
  | .resetCold => .resetCold
  | .unknownKind => .unknownKindRequest

/-- The up lane may start a frame of this class, if the class has one (R167, R175): pull credit is there, and no class
ahead of it has anything waiting or asking. -/
abbrev State.laneFor (s : State) : UpClass → Prop
  | .reply => 0 < s.lif.credit
  | .order => 0 < s.lif.credit ∧ s.lif.reply = none
  | .delta => 0 < s.lif.credit ∧ s.lif.reply = none ∧ s.lif.orderFrames = []
  | .exporting => 0 < s.lif.credit ∧ s.lif.reply = none ∧ s.lif.orderFrames = [] ∧ s.lif.deltaAsking = false
  | .advice =>
    0 < s.lif.credit ∧ s.lif.reply = none ∧ s.lif.orderFrames = [] ∧ s.lif.deltaAsking = false ∧ s.mju.exporting = none

/-- The ADVICE frame made in a state (R132). -/
def adviceOf (s : State) (kind : AdviceKind) (urgency : HoldStage) : Advice :=
  ⟨kind, urgency, dirtyCount s.bt.slots, oldestDirtyAge s.seconds s.bt.slots,
    s.ou.pinFill.waiting.length + s.ou.heatFill.waiting.length + s.ou.drain.waiting.length⟩

/-- Block `o` of extent `x` is dirty in slot `k`. -/
def dirtyAt (s : State) (k x o : Nat) : Prop :=
  ∃ b, bindingAt s.bt.slots k = some b ∧ b.extent = x ∧ b.dirty.getLsbD o = true

/-- The room a request needs in the delta log (R90, R95, R107, R145, R146, R155). `made` is what the command does where
the log has an entry for every slot, so that no room is needed, and answers OK; `fresh` are the slots whose persisted form
this changes, heat apart (R18), and that have no entry in the log. If there are none, or the log then holds at most `limit`
entries, the command does the same to the slots with the same reply; else it is answered RETRY, and nothing changes. -/
def State.roomRule (s : State) (limit : Nat) (c : Instr) (f : Frame) (rest : List Frame) : Prop :=
  ∀ (full : List LogEntry) (made : State) (body : OkBody) (fresh : List Nat),
    (∀ k, k < s.bt.n → inLog full k = true) → exec c { s with mju := { s.mju with log := full } } = .next made →
    made.lif.reply = some ⟨f.tag, .ok body⟩ → fresh.Nodup →
    (∀ k, k ∈ fresh ↔ inLog s.mju.log k = false
      ∧ { persisted s.bt.slots k with heat := 0 } ≠ { persisted made.bt.slots k with heat := 0 }) →
    (fresh = [] ∨ s.mju.log.length + fresh.length ≤ limit →
      ∃ t, exec c s = .next t ∧ t.bt = made.bt ∧ t.lif.reply = made.lif.reply)
    ∧ (fresh ≠ [] → limit < s.mju.log.length + fresh.length → exec c s = .next (s.replied rest f.tag .retry))

/-- After a change made in `s`, row `i` is BARRED for extent `x` for the barred period, and every other row stands as it
did (R50). -/
def State.barredAt (s : State) (x : Nat) (rows : List (Nat × Row)) (i : Nat) : Prop :=
  tget rows i = some (.barred x (s.seconds + BitVec.ofNat 32 s.policy.barPeriod))
  ∧ ∀ j, j ≠ i → tget rows j = tget s.ct.rows j

/-- The bar of R50 for extent `x`, whose slot a change in `s` has released: the lowest EMPTY way of its set; else the way
that R43 chooses among the WATCHING ones, whatever its heat; else, all eight being BARRED, none. Premise of the choice: the
table is in order. -/
def State.barRule (s : State) (x : Nat) (rows : List (Nat × Row)) : Prop :=
  (∀ i, i / 8 = x % 1024 → tget s.ct.rows i = none →
    (∀ j, j / 8 = x % 1024 → j < i → tget s.ct.rows j ≠ none) → s.barredAt x rows i)
  ∧ (∀ i w, tsorted s.ct.rows = true → i / 8 = x % 1024 → tget s.ct.rows i = some (.watching w) →
    (∀ j, j / 8 = x % 1024 → tget s.ct.rows j ≠ none) →
    (∀ j u, j / 8 = x % 1024 → tget s.ct.rows j = some (.watching u) → j ≠ i →
      w.heat < u.heat ∨ w.heat = u.heat ∧ (u.idle < w.idle ∨ u.idle = w.idle ∧ i < j)) → s.barredAt x rows i)
  ∧ (tsorted s.ct.rows = true → (∀ j, j / 8 = x % 1024 → ∃ y u, tget s.ct.rows j = some (.barred y u)) →
    rows = s.ct.rows)
  ∧ ((∃ i, i / 8 = x % 1024 ∧ ∀ y u, tget s.ct.rows i ≠ some (.barred y u)) →
    ∃ i, i / 8 = x % 1024 ∧ s.barredAt x rows i)

/-- The block range a LOOKUP, PLAN-WRITE or DISCARD names, clamped (R73), when it is in range (R1). -/
abbrev Frame.names (f : Frame) (e start count : Nat) : Prop :=
  f.body.length = 6 ∧ fieldAt f.body 0 4 = start ∧ 0 < fieldAt f.body 4 2 ∧ start + fieldAt f.body 4 2 ≤ 64 * e
    ∧ count = min 256 (fieldAt f.body 4 2)

end Sys2Proof.Machine
end

