-- ==== Sys2Proof/Certificates/Slice0/Obligations.lean ====
section
/-! DEFINITION. The statements for the provers. Every clause says what the machine of `Sys2Proof.Machine.exec` does from
every state that meets the premises; `t` is always the next state. -/

section

open Sys2Proof Sys2Proof.Machine

/-! ### The step and the queue of commands -/

/-- One step takes the command at the front of the queue and runs it with the queue's rest; on an empty queue the
frame being sent, if any, reaches its last byte, and pull credit is lost if ATTN falls then (R167). The queue is the
model's own (log 1, log 2). -/
def Obligations.StepRunsTheFrontCommand : Prop :=
  (∀ (c : Instr) (rest : List Instr) (s : State),
    step { s with pending := c :: rest } = exec c { s with pending := rest })
  ∧ (∀ s : State, s.pending = [] → s.lif.upLane = none → step s = .next s)
  ∧ (∀ (s : State) (f : Frame), s.pending = [] → s.lif.upLane = some f →
      ∃ t, step s = .next t ∧ t = { s with lif := { s.lif with upLane := none, credit := t.lif.credit } }
        ∧ s.creditRule t)

/-! ### Power-on, the reset line and the clock -/

/-- POWER_ON and RESET_LINE set every table and every unit to its values (R20, R39, R54, R71, R120, R137, R150, R165,
R177, R181, R185, R189, R190). The queue of commands and the choice counter are the model's own (log 7, log 14). -/
def Obligations.PowerOnAndResetLine : Prop :=
  ∀ (c : Instr) (s : State), c = .powerOn ∨ c = .resetLine →
    ∃ t, exec c s = .next t
      ∧ t.seconds = 0#32
      ∧ t.policy = ⟨256, 32, 4096, 32, 4, 16, 300, 3600, 128, 0, 600, 30, 0, 30, 16, 2, 20, 4⟩
      ∧ t.bt = ⟨0, 0, []⟩
      ∧ t.hu = ⟨[], false, 0, [], 0⟩
      ∧ t.ct = ⟨[], 0⟩
      ∧ t.au = ⟨4096, 0, 0⟩
      ∧ t.ou = ⟨⟨[], false, false⟩, ⟨[], false, false⟩, ⟨[], false, false⟩, [], 1#16, .drain, none, 0⟩
      ∧ t.psm = ⟨.resting, .battery, false, none, none, none, false, 0, false, false, false⟩
      ∧ t.pu = ⟨some .pinsLost, some .pinsLost, some .pinsLost, some .pinsLost, 0⟩
      ∧ t.mju = ⟨.unbound, [], none, false, none, 0, 0⟩
      ∧ t.lif = ⟨[], [], none, [], none, false, 0, none⟩
      ∧ t.cfu = ⟨⟨.none, .none, 0, 0#8, 0#16⟩, [], 0⟩
      ∧ t.choices = s.choices ∧ t.pending = s.pending
      ∧ t = { State.reset with choices := s.choices, pending := s.pending }

/-- The refill of an advance (R57). In ACTIVE: nothing when T is B_max but that the accumulator is cleared; else r is
added to it and as many sixties as it holds become tokens, while T is below B_max, and the accumulator is cleared if
T is then B_max. That a refill which adds a token starts one picker run is kept as a count of runs (log 4). Outside
ACTIVE there is no refill: an advance moves the counter, modulo 2^32 (R190), and the wheel, modulo 32 (R34), and
nothing else of the part (R38); the choice counter is the model's own (log 7). -/
def Obligations.AdvanceRefillsTokens : Prop :=
  (∀ s : State, s.mju.life = .active → s.au.tokens ≤ s.policy.bMax →
    ∃ t, exec .secondsAdvance s = .next t
      ∧ (s.au.tokens = s.policy.bMax → t.au = { s.au with acc := 0 })
      ∧ (s.au.tokens < s.policy.bMax → ∃ g,
          t.au.tokens = s.au.tokens + g ∧ t.au.tokens ≤ s.policy.bMax
          ∧ 60 * g ≤ s.au.acc + s.policy.rate
          ∧ (s.au.acc + s.policy.rate < 60 * (g + 1) ∨ t.au.tokens = s.policy.bMax)
          ∧ (t.au.tokens = s.policy.bMax → t.au.acc = 0)
          ∧ (t.au.tokens < s.policy.bMax → t.au.acc + 60 * g = s.au.acc + s.policy.rate)
          ∧ t.au.runsOwed = s.au.runsOwed + (if 0 < g then 1 else 0)))
  ∧ (∀ s : State, s.mju.life ≠ .active →
    exec .secondsAdvance s = .next { s with
      seconds := s.seconds + 1#32
      hu := { s.hu with wheel := (s.hu.wheel + 1) % 32 }
      choices := s.choices + 1 })

/-- An advance in ACTIVE ages every binding and every WATCHING row by a second, up to 1023 (R33), and takes an eighth,
rounded up, off the heat of each that the wheel visits (R34, R35), pinned bindings apart (R36). A visit clears the
eligible flag of a row below the threshold and never sets one (R46); whether it reads the threshold before or after the
refill of the advance is free (log 7). Issued orders that have aged to the order timeout become due (R113, log 6), rows
at heat 0 that are idle for L become due to expire (R48, log 5), a drain picker run is started (R128, log 4), and the
tests of advice become due (log 5). BARRED rows and RETIRED slots stay. -/
def Obligations.AdvanceVisitsAndAges : Prop :=
  ∀ s : State, s.mju.life = .active →
    ∃ t, exec .secondsAdvance s = .next t
      ∧ t.seconds = s.seconds + 1#32 ∧ t.hu = { s.hu with wheel := (s.hu.wheel + 1) % 32 }
      ∧ (∀ k b, bindingAt s.bt.slots k = some b →
          bindingAt t.bt.slots k = some { b with
            heat := if b.owners = 0#4 ∧ b.extent % s.policy.pr = t.hu.wheel % s.policy.pr then
                b.heat - (b.heat + 7) / 8 else b.heat
            idle := min 1023 (b.idle + 1) })
      ∧ (∀ k, bindingAt s.bt.slots k = none → tget t.bt.slots k = tget s.bt.slots k)
      ∧ (∀ i w, tget s.ct.rows i = some (.watching w) →
          ∃ w', tget t.ct.rows i = some (.watching w')
            ∧ w'.extent = w.extent ∧ w'.idle = min 1023 (w.idle + 1)
            ∧ (w'.eligible = true → w.eligible = true)
            ∧ (w'.expiryDue = true ↔ w'.heat = 0 ∧ s.policy.lifetime ≤ w'.idle)
            ∧ (w.extent % s.policy.pc ≠ t.hu.wheel % s.policy.pc → w'.heat = w.heat ∧ w'.eligible = w.eligible)
            ∧ (w.extent % s.policy.pc = t.hu.wheel % s.policy.pc →
                w'.heat = w.heat - (w.heat + 7) / 8
                ∧ (aEff s ≤ w'.heat → w'.eligible = w.eligible)
                ∧ (w'.heat < aEff s → w'.heat < aEff t → w'.eligible = false)))
      ∧ (∀ i, (∀ w, tget s.ct.rows i ≠ some (.watching w)) → tget t.ct.rows i = tget s.ct.rows i)
      ∧ t.ou.issued = s.ou.issued.map (fun o =>
          { o with timeoutDue := o.timeoutDue || decide (s.policy.orderTimeout ≤ age t.seconds o.issueTime) })
      ∧ t.psm = { s.psm with
          drainRunsOwed := s.psm.drainRunsOwed + 1, spinUpDue := true, mainsDue := true, restDue := true }
      ∧ t = { s with
          seconds := t.seconds, hu := t.hu, psm := t.psm, au := t.au, choices := s.choices + 1
          bt := { s.bt with slots := t.bt.slots }, ct := { s.ct with rows := t.ct.rows }
          ou := { s.ou with issued := t.ou.issued } }

/-! ### What an advance makes due -/

/-- ROW_EXPIRY empties a row at heat 0 that the last advance found idle for L (R48; the flag is the model's, log 5), and
BAR_END a BARRED row whose barred-until the counter has reached (R49; "reached" is read modulo 2^32, log 9); every other
row stays, and so does the rest of the part. A row that is absent, of the other kind, warm, not due or not yet reached
stays, and so does every row outside ACTIVE: such a command changes nothing (log 12). -/
def Obligations.RowsExpireAndBarsEnd : Prop :=
  (∀ (s : State) (i : Nat) (w : Watch), s.mju.life = .active → tget s.ct.rows i = some (.watching w) →
      w.heat = 0 → w.expiryDue = true →
      ∃ t, exec (.rowExpiry i) s = .next t ∧ tget t.ct.rows i = none
        ∧ (∀ j, j ≠ i → tget t.ct.rows j = tget s.ct.rows j)
        ∧ t = { s with ct := { s.ct with rows := t.ct.rows } })
  ∧ (∀ (s : State) (i x : Nat) (u : Time), s.mju.life = .active → tget s.ct.rows i = some (.barred x u) →
      age s.seconds u < 2147483648 →
      ∃ t, exec (.barEnd i) s = .next t ∧ tget t.ct.rows i = none
        ∧ (∀ j, j ≠ i → tget t.ct.rows j = tget s.ct.rows j)
        ∧ t = { s with ct := { s.ct with rows := t.ct.rows } })
  ∧ (∀ (s : State) (i : Nat), s.mju.life ≠ .active
      ∨ (∀ w, tget s.ct.rows i = some (.watching w) → 0 < w.heat ∨ w.expiryDue = false) →
      exec (.rowExpiry i) s = .next s)
  ∧ (∀ (s : State) (i : Nat), s.mju.life ≠ .active
      ∨ (∀ x u, tget s.ct.rows i = some (.barred x u) → 2147483648 ≤ age s.seconds u) →
      exec (.barEnd i) s = .next s)

/-- BACKOFF_END ends the backoff of the slot's waiting order once the counter has reached its not-before (R99; "reached"
is read modulo 2^32, log 9); the order keeps its place. DELTA_DELAY_EXPIRY is the test of R157 as the seconds pass:
with entries in the log the MJU asks for the lane once the head entry is as old as the delta delay, and, by the
values that stand, exactly while that, the flush count or a waiting SYNC asks for it; where nothing asks any longer
ATTN may fall, and the pull credit with it (R167; the request for the lane is a flag of the model, which its test
sets, log 11). Nothing else changes. -/
def Obligations.BackoffEndsAndDeltaDelayAsks : Prop :=
  (∀ (s : State) (k : Nat), s.mju.life = .active →
    ∃ t, exec (.backoffEnd k) s = .next t
      ∧ (∀ q, t.ou.queue q = { s.ou.queue q with
          waiting := (s.ou.queue q).waiting.map fun w =>
            if w.order.slot = k ∧ ∃ u, w.notBefore = some u ∧ age s.seconds u < 2147483648 then
              { w with notBefore := none }
            else w })
      ∧ t = { s with ou := { s.ou with
          pinFill := t.ou.queue .pinFill, heatFill := t.ou.queue .heatFill, drain := t.ou.queue .drain } })
  ∧ (∀ (s : State) (e : LogEntry) (rest : List LogEntry), s.mju.life = .active → s.mju.log = e :: rest →
    (s.policy.deltaDelay ≤ age s.seconds e.time →
      exec .deltaDelayExpiry s = .next { s with lif := { s.lif with deltaAsking := true } })
    ∧ ∃ t, exec .deltaDelayExpiry s = .next t
      ∧ (t.lif.deltaAsking = true ↔ s.policy.deltaDelay ≤ age s.seconds e.time
          ∨ s.policy.flushCount ≤ s.mju.log.length ∨ s.mju.sync ≠ none)
      ∧ s.creditRule t
      ∧ t = { s with lif := { s.lif with deltaAsking := t.lif.deltaAsking, credit := t.lif.credit } })

/-- ORDER_TIMEOUT of an order with attempts left after it (R113): the fault, the tag retired, one attempt less, backoff
interval 0, the order at the head of its queue, the retry count one higher (R117), the binding without tag, overtaken
and redirtied sets, and an unsent ORDER frame withdrawn (R106). No other binding, no other queue and no log entry
changes. Due timeouts are marked by the advance (log 6). -/
def Obligations.OrderTimeoutReturnsTheOrder : Prop :=
  ∀ (s : State) (tag : Tag) (o : Issued) (b : Binding), s.mju.life = .active →
    issuedWith s.ou.issued tag = some o → bindingAt s.bt.slots o.order.slot = some b → o.timeoutDue = true →
    2 ≤ o.order.attempts →
    ∃ t, exec (.orderTimeout tag) s = .next t
      ∧ t.cfu = (s.recordFault .orderTimeout (.slot o.order.slot)).cfu
      ∧ t.ou = { s.ou.setQueue o.order.queue { s.ou.queue o.order.queue with
            waiting := ⟨{ o.order with attempts := o.order.attempts - 1, backoff := 0 }, none⟩
              :: (s.ou.queue o.order.queue).waiting } with
          issued := s.ou.issued.filter fun p => p.tag ≠ tag
          retryCount := min 65535 (s.ou.retryCount + 1) }
      ∧ bindingAt t.bt.slots o.order.slot = some { b with tag := none, overtaken := none, redirtied := none }
      ∧ (∀ k, k ≠ o.order.slot → tget t.bt.slots k = tget s.bt.slots k)
      ∧ t.lif.orderFrames = s.lif.orderFrames.filter (fun f => f.tag ≠ tag)
      ∧ t = { s with
          cfu := t.cfu, ou := t.ou, bt := { s.bt with slots := t.bt.slots }
          lif := { s.lif with
            orderFrames := t.lif.orderFrames, deltaAsking := t.lif.deltaAsking, credit := t.lif.credit } }
      ∧ s.creditRule t

/-- ORDER_TIMEOUT of the last attempt (R111, R113, R114): ORDER-TIMEOUT is recorded, then ORDER-EXHAUSTED, and the order
and its unsent frame go. A heat fill's removal starts a picker run (R63, log 4), and the exhaustion of a pin fill or
a drain halts its queue (R119). A heat fill of a clean, unpinned, uncondemned binding releases its slot (R9) and
bars the extent (R50); a condemned clean binding retires, its owners alerted PINS-DROPPED (R16); each needs a log
entry for the slot, and with none and 256 in the log it is deferred and nothing changes. Any other comes to HELD,
makes no entry, bars nothing, and starts a refill scan if it is pinned (R148, log 4). Due timeouts are marked by the
advance (log 6). -/
def Obligations.OrderTimeoutExhausts : Prop :=
  ∀ (s : State) (tag : Tag) (o : Issued) (b : Binding) (released retired : Prop), s.mju.life = .active →
    issuedWith s.ou.issued tag = some o → bindingAt s.bt.slots o.order.slot = some b → o.timeoutDue = true →
    o.order.attempts = 1 →
    (released ↔ o.order.queue = .heatFill ∧ b.isDirty = false ∧ b.owners = 0#4 ∧ b.strikes < 2) →
    (retired ↔ 2 ≤ b.strikes ∧ b.isDirty = false) →
    (released ∨ retired → 256 ≤ s.mju.log.length → inLog s.mju.log o.order.slot = false →
      exec (.orderTimeout tag) s = .next s)
    ∧ (¬released ∧ ¬retired ∨ s.mju.log.length < 256 ∨ inLog s.mju.log o.order.slot = true →
      ∃ t, exec (.orderTimeout tag) s = .next t
        ∧ (∀ k, k ≠ o.order.slot → tget t.bt.slots k = tget s.bt.slots k)
        ∧ t.cfu = ((s.recordFault .orderTimeout (.slot o.order.slot)).recordFault .orderExhausted
            (.queue o.order.queue)).cfu
        ∧ (o.order.queue = .heatFill →
          t.ou = { s.ou with issued := s.ou.issued.filter fun p => p.tag ≠ tag }
          ∧ t.au = { s.au with runsOwed := s.au.runsOwed + 1 })
        ∧ (o.order.queue ≠ .heatFill →
          t.ou = { s.ou.setQueue o.order.queue { s.ou.queue o.order.queue with halted := true } with
            issued := s.ou.issued.filter fun p => p.tag ≠ tag }
          ∧ t.au = s.au)
        ∧ (released → tget t.bt.slots o.order.slot = none ∧ inLog t.mju.log o.order.slot = true
          ∧ t.pu = s.pu ∧ s.barRule b.extent t.ct.rows)
        ∧ (retired → tget t.bt.slots o.order.slot = some .retired ∧ inLog t.mju.log o.order.slot = true
          ∧ t.ct = s.ct ∧ t.pu.scansOwed = s.pu.scansOwed
          ∧ ∀ owner, owner ≤ 3 → t.pu.alert owner =
              if b.owners.getLsbD owner then some .pinsDropped else s.pu.alert owner)
        ∧ (¬released → ¬retired →
          bindingAt t.bt.slots o.order.slot = some { b with
            state := .held, tag := none, overtaken := none, redirtied := none }
          ∧ t.mju = s.mju ∧ t.ct = s.ct
          ∧ t.pu = { s.pu with scansOwed := s.pu.scansOwed + (if b.owners ≠ 0#4 then 1 else 0) })
        ∧ t = { s with
            bt := { s.bt with slots := t.bt.slots }, ct := { s.ct with rows := t.ct.rows }, au := t.au, ou := t.ou
            pu := t.pu, cfu := t.cfu, mju := { s.mju with log := t.mju.log }
            lif := { s.lif with
              orderFrames := s.lif.orderFrames.filter fun f => f.tag ≠ tag
              deltaAsking := t.lif.deltaAsking, credit := t.lif.credit } }
        ∧ s.creditRule t)

/-! ### Advice -/

/-- SPIN_UP_CADENCE (R133): no cadence while READY or CALM; a cadence for another stage starts with an advice and is due
15 seconds on; one for this stage advises when it is due, every 15 seconds or, at SOON, after 30 and then 60. The
test is made once for an advance (log 5), and "reached" is read as in log 9. That a start at another stage than SOON
sets the step to 1 too is the model's choice (log 17). Nothing but the cadence and the ADVICE frame changes. -/
def Obligations.SpinUpCadence : Prop :=
  ∀ s : State, s.mju.life = .active → s.psm.spinUpDue = true →
    (s.psm.platter = .ready ∨ holdStage s = .calm →
      exec .spinUpCadence s = .next { s with psm := { s.psm with spinUpDue := false, spinUp := none } })
    ∧ (s.psm.platter ≠ .ready → holdStage s ≠ .calm → (∀ c, s.psm.spinUp = some c → c.stage ≠ holdStage s) →
      exec .spinUpCadence s = .next { s with
        psm := { s.psm with spinUpDue := false, spinUp := some ⟨holdStage s, s.seconds + 15#32, 1⟩ }
        lif := { s.lif with advice := some (adviceOf s .spinUp (holdStage s)) } })
    ∧ (∀ c, s.psm.platter ≠ .ready → holdStage s ≠ .calm → s.psm.spinUp = some c → c.stage = holdStage s →
      (age s.seconds c.nextDue < 2147483648 →
        exec .spinUpCadence s = .next { s with
          psm := { s.psm with
            spinUpDue := false
            spinUp := some (if holdStage s = .soon then
                ⟨.soon, c.nextDue + (if c.step = 1 then 30#32 else 60#32), min 4 (c.step + 1)⟩
              else ⟨holdStage s, c.nextDue + 15#32, c.step⟩) }
          lif := { s.lif with advice := some (adviceOf s .spinUp (holdStage s)) } })
      ∧ (2147483648 ≤ age s.seconds c.nextDue →
        exec .spinUpCadence s = .next { s with psm := { s.psm with spinUpDue := false } }))

/-- MAINS_CADENCE (R135): on MAINS, with a pin fill waiting, the platter not READY and no spin-up cadence stored (log
14), a SPIN-UP/SOON at once and then every 60 seconds, when the due time is reached (modulo 2^32, log 9); otherwise
the cadence stops. REST_ADVICE (R136): one REST once everything is quiet and the platter has waited for the rest
delay, or half of it on BATTERY; none while it is not quiet. Each test is made once for an advance (log 5). Nothing
else changes. -/
def Obligations.MainsCadenceAndRestAdvice : Prop :=
  (∀ s : State, s.mju.life = .active → s.psm.mainsDue = true →
    (s.psm.supply = .mains → s.ou.pinFill.waiting ≠ [] → s.psm.platter ≠ .ready → s.psm.spinUp = none →
      (s.psm.mains = none →
        exec .mainsCadence s = .next { s with
          psm := { s.psm with mainsDue := false, mains := some (s.seconds + 60#32) }
          lif := { s.lif with advice := some (adviceOf s .spinUp .soon) } })
      ∧ (∀ due, s.psm.mains = some due → age s.seconds due < 2147483648 →
        exec .mainsCadence s = .next { s with
          psm := { s.psm with mainsDue := false, mains := some (due + 60#32) }
          lif := { s.lif with advice := some (adviceOf s .spinUp .soon) } })
      ∧ (∀ due, s.psm.mains = some due → 2147483648 ≤ age s.seconds due →
        exec .mainsCadence s = .next { s with psm := { s.psm with mainsDue := false } }))
    ∧ (s.psm.supply = .battery ∨ s.ou.pinFill.waiting = [] ∨ s.psm.platter = .ready ∨ s.psm.spinUp ≠ none →
      exec .mainsCadence s = .next { s with psm := { s.psm with mainsDue := false, mains := none } }))
  ∧ (∀ (s : State) (ref : Time), s.mju.life = .active → s.psm.restDue = true → s.psm.platter = .ready →
    dirtyCount s.bt.slots = 0 → s.ou.orders = [] → s.psm.restGiven = false → s.psm.restRef = some ref →
    ((if s.psm.supply = .mains then s.policy.restDelay else s.policy.restDelay / 2) ≤ age s.seconds ref →
      exec .restAdvice s = .next { s with
        psm := { s.psm with restDue := false, restGiven := true }
        lif := { s.lif with advice := some (adviceOf s .rest .calm) } })
    ∧ (age s.seconds ref < (if s.psm.supply = .mains then s.policy.restDelay else s.policy.restDelay / 2) →
      exec .restAdvice s = .next { s with psm := { s.psm with restDue := false } }))
  ∧ (∀ s : State, s.mju.life = .active → s.psm.restDue = true →
    s.psm.platter ≠ .ready ∨ dirtyCount s.bt.slots ≠ 0 ∨ s.ou.orders ≠ [] ∨ s.psm.restGiven = true
      ∨ s.psm.restRef = none →
    exec .restAdvice s = .next { s with psm := { s.psm with restDue := false } })

/-! ### The part's own runs -/

/-- The choices the runs rest on. The lowest FREE slot (R12); the victim: HELD, clean, unpinned, not condemned and not
excluded, of the lowest heat, then the highest idle age, then the lowest slot (R67); the head of the eligible set:
of the highest heat, then the lowest row index (R47); and the drain picker's binding: condemned first, then of the
greatest dirty age, then the lowest slot (R129). Where one qualifies one is chosen. -/
def Obligations.ChoicesOfTheRuns : Prop :=
  ∀ s : State, mapLaw s = true →
    (∀ k, lowestFree s.bt = some k ↔ k < s.bt.n ∧ tget s.bt.slots k = none ∧ ∀ j, j < k → tget s.bt.slots j ≠ none)
    ∧ (∀ excluded k v, victimOf s.bt.slots excluded = some (k, v) ↔
        bindingAt s.bt.slots k = some v ∧ v.victim = true ∧ excluded v.extent = false
        ∧ ∀ j u, bindingAt s.bt.slots j = some u → u.victim = true → excluded u.extent = false → j ≠ k →
            v.heat < u.heat ∨ v.heat = u.heat ∧ (u.idle < v.idle ∨ u.idle = v.idle ∧ k < j))
    ∧ (∀ b : Binding, b.victim = true ↔ b.state = .held ∧ b.dirty = 0#64 ∧ b.owners = 0#4 ∧ b.strikes < 2)
    ∧ (∀ i w, eligibleHead s.ct.rows = some (i, w) ↔
        tget s.ct.rows i = some (.watching w) ∧ w.eligible = true
        ∧ ∀ j u, tget s.ct.rows j = some (.watching u) → u.eligible = true → j ≠ i →
            u.heat < w.heat ∨ u.heat = w.heat ∧ i < j)
    ∧ (∀ k v, drainChoice s = some (k, v) ↔
        bindingAt s.bt.slots k = some v ∧ drainQualifies s v = true
        ∧ ∀ j u, bindingAt s.bt.slots j = some u → drainQualifies s u = true → j ≠ k →
            (2 ≤ v.strikes ∧ u.strikes < 2)
            ∨ (2 ≤ v.strikes ↔ 2 ≤ u.strikes)
              ∧ ((u.dirtyAge s.seconds).getD 0 < (v.dirtyAge s.seconds).getD 0
                ∨ (u.dirtyAge s.seconds).getD 0 = (v.dirtyAge s.seconds).getD 0 ∧ k < j))

/-- DRAIN_PICKER_RUN with the platter READY (R128 to R130): drains are queued until the queue holds 64 or no binding
qualifies: HELD, dirty and old, urgent, asked for or condemned. Each binding queued becomes DRAINING with nothing
else changed. The queued bindings are taken in the order of R129, condemned first, then the greatest dirty age, then
the lowest slot, and none that is left would have come before one that was queued. The orders that waited keep their
order; the drains of condemned bindings stand behind the last such drain that waited, or with none ahead of every
drain that waited, and the rest at the tail (R98; where a returned drain that is not condemned stands ahead of a
waiting condemned one, R98 cannot hold whole, and the place is the model's choice, log 19). No slot is bound or
freed and no log entry made. With the gate closed the run ends at once (R128). A run is taken for a start of it (log
4). -/
def Obligations.DrainPickerRun : Prop :=
  (∀ (s : State) (drainable : Binding → Prop) (ahead : Nat → Nat → Prop),
    (∀ b : Binding, drainable b ↔ b.state = .held ∧ b.isDirty = true
      ∧ (s.policy.drainDelay ≤ (b.dirtyAge s.seconds).getD 0 ∨ holdStage s ≠ .calm ∨ s.psm.drainAll = true
        ∨ 2 ≤ b.strikes)) →
    (∀ j k, ahead j k ↔ ∀ v u, bindingAt s.bt.slots j = some v → bindingAt s.bt.slots k = some u →
      (2 ≤ v.strikes ∧ u.strikes < 2)
      ∨ (2 ≤ v.strikes ↔ 2 ≤ u.strikes)
        ∧ ((u.dirtyAge s.seconds).getD 0 < (v.dirtyAge s.seconds).getD 0
          ∨ (u.dirtyAge s.seconds).getD 0 = (v.dirtyAge s.seconds).getD 0 ∧ j < k)) →
    s.mju.life = .active → 0 < s.psm.drainRunsOwed → s.psm.platter = .ready → mapLaw s = true →
    ∃ t before behind condemned others, exec .drainPickerRun s = .next t
      ∧ s.ou.drain.waiting = before ++ behind
      ∧ t.ou.drain.waiting = before ++ condemned ++ behind ++ others
      ∧ (∀ w, before.getLast? = some w → ∃ b, bindingAt s.bt.slots w.order.slot = some b ∧ 2 ≤ b.strikes)
      ∧ (∀ w ∈ behind, ∀ b, bindingAt s.bt.slots w.order.slot = some b → b.strikes < 2)
      ∧ (∀ w ∈ condemned, ∃ b, bindingAt s.bt.slots w.order.slot = some b ∧ 2 ≤ b.strikes)
      ∧ (∀ w ∈ others, ∃ b, bindingAt s.bt.slots w.order.slot = some b ∧ b.strikes < 2)
      ∧ (condemned ++ others).Pairwise (fun v w => ahead v.order.slot w.order.slot ∧ v.order.slot ≠ w.order.slot)
      ∧ (∀ k b, bindingAt s.bt.slots k = some b →
          drainable b ∧ ⟨⟨.drain, k, b.extent, 3, 0⟩, none⟩ ∈ condemned ++ others
            ∧ bindingAt t.bt.slots k = some { b with state := .draining }
          ∨ (∀ w ∈ condemned ++ others, w.order.slot ≠ k ∧ (drainable b → ahead w.order.slot k))
            ∧ bindingAt t.bt.slots k = some b)
      ∧ (64 ≤ t.ou.drain.waiting.length ∨ ∀ kb ∈ bindingsOf t.bt.slots, ¬drainable kb.2)
      ∧ (∀ k, bindingAt s.bt.slots k = none → tget t.bt.slots k = tget s.bt.slots k)
      ∧ t = { s with
          bt := { s.bt with slots := t.bt.slots }
          ou := { s.ou with drain := { s.ou.drain with waiting := t.ou.drain.waiting } }
          psm := { s.psm with drainRunsOwed := s.psm.drainRunsOwed - 1 } })
  ∧ (∀ s : State, s.mju.life = .active → 0 < s.psm.drainRunsOwed → s.psm.platter ≠ .ready →
    exec .drainPickerRun s = .next { s with psm := { s.psm with drainRunsOwed := s.psm.drainRunsOwed - 1 } })

/-- PROMOTION_PICKER_RUN (R64 to R68): the run ends when the heat fill queue holds 64, T is 0, the platter is not READY,
the log holds 248, no row is eligible, or the hottest eligible row is hot enough and no slot is to be had for it.
Each promotion queues a heat fill behind those waiting, takes one token (R58) and makes a log entry. The list
`filled` holds them in the order made: the `n`-th takes the row at the head of what the eligible set then is,
hottest first and the lower row index among equals (R47), whose heat is at least A_eff with `n` tokens spent (R61,
R66); the row becomes EMPTY, and its extent and heat go to the slot, which becomes FILLING (R65). That slot is the
lowest FREE one left (R12), and with none left the victim of R67 among the bindings that still qualify, if the row
is hotter by more than H (R68); it keeps the strikes it holds. Slots that no promotion takes stay, and a row that
none takes stays, or loses its stale eligible flag (R46). A run is taken for a start of it (log 4). -/
def Obligations.PromotionPickerRun : Prop :=
  ∀ s : State, s.mju.life = .active → 0 < s.au.runsOwed → mapLaw s = true →
    ∃ t filled, exec .promotionPickerRun s = .next t
      ∧ (64 ≤ t.ou.heatFill.waiting.length ∨ t.au.tokens = 0 ∨ t.psm.platter ≠ .ready ∨ 248 ≤ t.mju.log.length
          ∨ eligibleRows t.ct.rows = []
          ∨ ∃ i w, eligibleHead t.ct.rows = some (i, w) ∧ aEff t ≤ w.heat ∧ lowestFree t.bt = none
            ∧ ∀ k v, victimOf t.bt.slots (fun _ => false) = some (k, v) → w.heat ≤ v.heat + s.policy.hyst)
      ∧ t.ou.heatFill.waiting = s.ou.heatFill.waiting ++ filled
      ∧ t.au.tokens + filled.length = s.au.tokens
      ∧ (∀ n q, filled[n]? = some q → ∃ i r k strikes, q = ⟨⟨.heatFill, k, r.extent, 3, 0⟩, none⟩
          ∧ tget s.ct.rows i = some (.watching r) ∧ r.eligible = true ∧ tget t.ct.rows i = none
          ∧ s.policy.aBase + s.policy.aBase * (s.policy.bMax - (s.au.tokens - n)) / s.policy.bMax ≤ r.heat
          ∧ (∀ j u, tget s.ct.rows j = some (.watching u) → u.eligible = true → j ≠ i →
              (∀ m p, m < n → filled[m]? = some p → p.order.extent ≠ u.extent) →
              u.heat < r.heat ∨ u.heat = r.heat ∧ i < j)
          ∧ bindingAt t.bt.slots k =
              some ⟨.filling, r.extent, 0#64, 0#64, none, none, 0#4, r.heat, 0, none, strikes, none⟩
          ∧ (tget s.bt.slots k = none ∧ strikes = 0 ∧ k < s.bt.n
              ∧ (∀ j, j < k → tget s.bt.slots j = none → ∃ m p, m < n ∧ filled[m]? = some p ∧ p.order.slot = j)
            ∨ ∃ v, bindingAt s.bt.slots k = some v ∧ v.victim = true ∧ strikes = v.strikes
              ∧ v.heat + s.policy.hyst < r.heat
              ∧ (∀ j, j < s.bt.n → tget s.bt.slots j = none → ∃ m p, m < n ∧ filled[m]? = some p ∧ p.order.slot = j)
              ∧ (∀ j u, bindingAt s.bt.slots j = some u → u.victim = true → j ≠ k →
                  (∀ m p, m < n → filled[m]? = some p → p.order.slot ≠ j) →
                  v.heat < u.heat ∨ v.heat = u.heat ∧ (u.idle < v.idle ∨ u.idle = v.idle ∧ k < j)))
          ∧ inLog t.mju.log k = true)
      ∧ (filled.map fun q => q.order.slot).Nodup
      ∧ (∀ k, (∀ q ∈ filled, q.order.slot ≠ k) → tget t.bt.slots k = tget s.bt.slots k)
      ∧ (∀ i, (∀ q ∈ filled, ∀ r, tget s.ct.rows i = some (.watching r) → q.order.extent ≠ r.extent) →
          tget t.ct.rows i = tget s.ct.rows i
          ∨ ∃ r, tget s.ct.rows i = some (.watching r) ∧ r.eligible = true ∧ r.heat < aEff t
            ∧ tget t.ct.rows i = some (.watching { r with eligible := false }))
      ∧ t.mju.log.length ≤ max s.mju.log.length 248
      ∧ t = { s with
          bt := { s.bt with slots := t.bt.slots }, ct := { s.ct with rows := t.ct.rows }
          au := { s.au with tokens := t.au.tokens, runsOwed := s.au.runsOwed - 1 }
          ou := { s.ou with heatFill := { s.ou.heatFill with waiting := t.ou.heatFill.waiting } }
          mju := { s.mju with log := t.mju.log }
          lif := { s.lif with deltaAsking := t.lif.deltaAsking, credit := t.lif.credit } }
      ∧ s.creditRule t

/-- REFILL_SCAN (R148, R149, R59): pin fills join the tail of the queue in rising slot order until it holds 32 or no
pinned binding with gaps is left, none while the queue is halted, and no slot that qualifies is passed over; each
binding queued was HELD, pinned, incomplete and not condemned, and becomes FILLING with nothing else changed; each
pin fill takes a token while there is one; no log entry is made. A run is taken for a start of it (log 4). -/
def Obligations.RefillScan : Prop :=
  ∀ (s : State) (gaps : Binding → Prop),
    (∀ b : Binding, gaps b ↔
      b.state = .held ∧ b.owners ≠ 0#4 ∧ b.valid ≠ BitVec.allOnes 64 ∧ b.strikes < 2) →
    s.mju.life = .active → 0 < s.pu.scansOwed → mapLaw s = true →
    ∃ t filled, exec .refillScan s = .next t
      ∧ t.ou.pinFill.waiting = s.ou.pinFill.waiting ++ filled
      ∧ (s.ou.pinFill.halted = true ∨ 32 ≤ s.ou.pinFill.waiting.length → filled = [])
      ∧ (s.ou.pinFill.halted = true ∨ 32 ≤ t.ou.pinFill.waiting.length
          ∨ ∀ kb ∈ bindingsOf t.bt.slots, ¬gaps kb.2)
      ∧ filled.Pairwise (fun v w => v.order.slot < w.order.slot)
      ∧ (∀ k b, bindingAt s.bt.slots k = some b →
          gaps b ∧ ⟨⟨.pinFill, k, b.extent, 3, 0⟩, none⟩ ∈ filled
            ∧ bindingAt t.bt.slots k = some { b with state := .filling }
          ∨ (∀ w ∈ filled, w.order.slot ≠ k ∧ (gaps b → w.order.slot < k)) ∧ bindingAt t.bt.slots k = some b)
      ∧ (∀ w ∈ filled, bindingAt s.bt.slots w.order.slot ≠ none)
      ∧ (∀ k, bindingAt s.bt.slots k = none → tget t.bt.slots k = tget s.bt.slots k)
      ∧ t.au.tokens = s.au.tokens - filled.length
      ∧ t = { s with
          bt := { s.bt with slots := t.bt.slots }, au := { s.au with tokens := t.au.tokens }
          ou := { s.ou with pinFill := { s.ou.pinFill with waiting := t.ou.pinFill.waiting } }
          pu := { s.pu with scansOwed := s.pu.scansOwed - 1 } }

/-! ### Dispatch -/

/-- The dispatch arbiter (R101): of the open queues, neither skipped nor halted and with a ready order, the drain queue
when the hold stage is URGENT or CLOSED or a condemned binding's drain waits in it; else the pin fill queue; else of
heat fill and drain the open one, or the one not served last. A waiting order is ready unless it holds a not-before
(R99) or is held back (R156): exactly while the log holds 256 entries, none of them for its slot, and the slot's
binding is condemned and clean, so that a place in the log, or an entry for the slot, frees it. With no open queue,
away from READY, or with W orders issued, DISPATCH changes nothing (R100, log 12). -/
def Obligations.DispatchArbiter : Prop :=
  (∀ (s : State) (ready : Waiting → Prop) (opened : QueueId → Prop) (first : Prop),
    (∀ w, ready w ↔ w.notBefore = none
      ∧ ¬(256 ≤ s.mju.log.length ∧ inLog s.mju.log w.order.slot = false
        ∧ ∃ b, bindingAt s.bt.slots w.order.slot = some b ∧ 2 ≤ b.strikes ∧ b.dirty = 0#64)) →
    (∀ q, opened q ↔ (s.ou.queue q).skip = false ∧ (s.ou.queue q).halted = false
      ∧ ∃ w ∈ (s.ou.queue q).waiting, ready w) →
    (first ↔ opened .drain ∧ (holdStage s = .urgent ∨ holdStage s = .closed
      ∨ ∃ w ∈ s.ou.drain.waiting, ∃ b, bindingAt s.bt.slots w.order.slot = some b ∧ 2 ≤ b.strikes)) →
    (∀ w, orderReady s w = true ↔ ready w)
    ∧ (first → arbiterChoice s = some .drain)
    ∧ (¬first → opened .pinFill → arbiterChoice s = some .pinFill)
    ∧ (¬first → ¬opened .pinFill → opened .heatFill → ¬opened .drain → arbiterChoice s = some .heatFill)
    ∧ (¬first → ¬opened .pinFill → ¬opened .heatFill → opened .drain → arbiterChoice s = some .drain)
    ∧ (¬first → ¬opened .pinFill → opened .heatFill → opened .drain →
        arbiterChoice s = some (if s.ou.lastServed = .heatFill then .drain else .heatFill))
    ∧ (¬first → ¬opened .pinFill → ¬opened .heatFill → ¬opened .drain → arbiterChoice s = none))
  ∧ (∀ s : State, s.mju.life ≠ .active ∨ s.psm.platter ≠ .ready ∨ s.policy.window ≤ s.ou.issued.length
      ∨ arbiterChoice s = none → exec .dispatch s = .next s)

/-- DISPATCH of the arbiter's order with blocks to copy (R100 to R103, R106, R117): the order leaves its queue and joins
the end of the issued set with the block set as it stands, a tag and the time; its binding gets the tag and an empty
overtaken or redirtied set; an ORDER frame waits; the marker, the direction and the retry count follow; the REST-given
flag clears (R136). A dispatch from the heat fill queue starts a picker run and one from the pin fill queue a refill
scan (R63, R148, log 4). Nothing else changes. -/
def Obligations.DispatchIssuesTheOrder : Prop :=
  ∀ (s : State) (q : QueueId) (w : Waiting) (b : Binding) (blocks : BlockSet), s.mju.life = .active →
    s.psm.platter = .ready → s.ou.issued.length < s.policy.window → arbiterChoice s = some q →
    (s.ou.queue q).waiting.find? (orderReady s) = some w → bindingAt s.bt.slots w.order.slot = some b →
    blocks = (if q = .drain then b.dirty else ~~~b.valid) → blocks ≠ 0#64 →
    ∃ t tag, exec .dispatch s = .next t
      ∧ tag = freeTag s.ou.issued s.ou.issued.length s.ou.tagCounter
      ∧ t.ou = { s.ou.setQueue q { s.ou.queue q with
            waiting := (s.ou.queue q).waiting.eraseP (orderReady s) } with
          issued := s.ou.issued ++ [⟨w.order, blocks, tag, s.seconds, false⟩]
          tagCounter := nextTag tag
          lastServed := (match q with | .pinFill => s.ou.lastServed | .heatFill => .heatFill | .drain => .drain)
          retryCount := if s.ou.lastKind = none ∨ s.ou.lastKind = some q.kind then s.ou.retryCount else 0
          lastKind := some q.kind }
      ∧ bindingAt t.bt.slots w.order.slot = some (if q = .drain then
            { b with tag := some tag, redirtied := some 0#64 }
          else { b with tag := some tag, overtaken := some 0#64 })
      ∧ (∀ k, k ≠ w.order.slot → tget t.bt.slots k = tget s.bt.slots k)
      ∧ t.lif = { s.lif with
          orderFrames := s.lif.orderFrames ++ [⟨tag, q.kind, w.order.slot, w.order.extent, blocks⟩] }
      ∧ t.psm = { s.psm with restGiven := false }
      ∧ t.au = { s.au with runsOwed := s.au.runsOwed + (if q = .heatFill then 1 else 0) }
      ∧ t.pu = { s.pu with scansOwed := s.pu.scansOwed + (if q = .pinFill then 1 else 0) }
      ∧ t = { s with
          ou := t.ou, bt := { s.bt with slots := t.bt.slots }, lif := t.lif, psm := t.psm, au := t.au, pu := t.pu }

/-- The tags of R104: the counter advances past the tags of issued orders, from 65535 to 1, to the first that is free,
which is the tag; the counter then advances once more (the clause on `t`). No tag is 0. -/
def Obligations.TagAllocation : Prop :=
  (∀ t : Tag, nextTag t = if t = 65535#16 then 1#16 else t + 1#16)
  ∧ (∀ (issued : List Issued) (counter : Tag), counter ≠ 0#16 → issued.length < 65535 →
    ∃ n, freeTag issued issued.length counter = nextTag^[n] counter
      ∧ (∀ m, m < n → ∃ o ∈ issued, o.tag = nextTag^[m] counter)
      ∧ (∀ o ∈ issued, o.tag ≠ freeTag issued issued.length counter)
      ∧ freeTag issued issued.length counter ≠ 0#16)
  ∧ (∀ (s t : State) (o : Issued), exec .dispatch s = .next t → t.ou.issued = s.ou.issued ++ [o] →
    o.tag = freeTag s.ou.issued s.ou.issued.length s.ou.tagCounter ∧ t.ou.tagCounter = nextTag o.tag)

/-- DISPATCH of the arbiter's order with no block to copy (R102, R10, R16): it ends at once, without a tag or a place in
the window. A binding that is not condemned comes to HELD with its sets as they are; a condemned clean one retires, its
owners alerted PINS-DROPPED, and its slot enters the log. The runs it starts are counted (R63, R148, log 4). -/
def Obligations.DispatchEndsAnEmptyOrder : Prop :=
  ∀ (s : State) (q : QueueId) (w : Waiting) (b : Binding), s.mju.life = .active →
    s.psm.platter = .ready → s.ou.issued.length < s.policy.window → arbiterChoice s = some q →
    (s.ou.queue q).waiting.find? (orderReady s) = some w → bindingAt s.bt.slots w.order.slot = some b →
    (if q = .drain then b.dirty else ~~~b.valid) = 0#64 →
    ∃ t, exec .dispatch s = .next t
      ∧ t.ou = s.ou.setQueue q { s.ou.queue q with waiting := (s.ou.queue q).waiting.eraseP (orderReady s) }
      ∧ (b.strikes < 2 →
          bindingAt t.bt.slots w.order.slot = some { b with
            state := .held, tag := none, overtaken := none, redirtied := none }
          ∧ t.mju = s.mju
          ∧ t.pu = { s.pu with scansOwed := s.pu.scansOwed + (if b.owners ≠ 0#4 ∨ q = .pinFill then 1 else 0) })
      ∧ (2 ≤ b.strikes → b.isDirty = false →
          tget t.bt.slots w.order.slot = some .retired
          ∧ inLog t.mju.log w.order.slot = true
          ∧ (∀ owner, owner ≤ 3 → t.pu.alert owner =
              if b.owners.getLsbD owner then some .pinsDropped else s.pu.alert owner))
      ∧ (∀ k, k ≠ w.order.slot → tget t.bt.slots k = tget s.bt.slots k)
      ∧ t.au = { s.au with runsOwed := s.au.runsOwed + (if q = .heatFill then 1 else 0) }
      ∧ t = { s with
          ou := t.ou, bt := { s.bt with slots := t.bt.slots }, au := t.au, pu := t.pu
          mju := { s.mju with log := t.mju.log }
          lif := { s.lif with deltaAsking := t.lif.deltaAsking, credit := t.lif.credit } }
      ∧ s.creditRule t

/-! ### Heat -/

/-- TAKE_ITEM (R27 to R33, R42 to R46): the oldest item leaves the intake, and a lapse ends if it leaves the intake
empty (R25). A READ updates the most recent matching tracker, or replaces the least recent, which becomes the most
recent (R28). A touched extent's contribution is w × (1 + ⌊(n − 1)/16⌋). One that is bound gains it up to 4095 (R30,
R31), and its idle age is taken modulo 8; so does one with a WATCHING row, which becomes eligible at the threshold;
one with a BARRED row drops it. One with no row takes the lowest EMPTY way of its set, or else replaces the coldest
WATCHING way that is no hotter than the contribution, or else counts as untracked (R42 to R44). A newly eligible row
starts one picker run (R63, log 4). Everything else stays. An item that runs beyond the drive is discarded: only the
intake and the lapse change. -/
def Obligations.TakeItemWarmsExtents : Prop :=
  (∀ (s : State) (item : AccessItem) (rest : List AccessItem), s.mju.life = .active →
    s.hu.intake = item :: rest → 64 * s.bt.e < item.start + item.count →
    exec .takeItem s = .next { s with
      hu := { s.hu with intake := rest, lapse := s.hu.lapse && decide (rest ≠ []) } })
  ∧ ∀ (s : State) (item : AccessItem) (rest : List AccessItem) (touched : Nat → Prop) (fresh : Nat → Prop),
    s.mju.life = .active → mapLaw s = true → s.ct.untracked ≤ 65535 →
    s.hu.intake = item :: rest → 0 < item.count → item.count ≤ 256 → item.start + item.count ≤ 64 * s.bt.e →
    (∀ x, touched x ↔ item.start / 64 ≤ x ∧ x ≤ (item.start + item.count - 1) / 64) →
    (∀ x, fresh x ↔ touched x ∧ residency s.bt.slots x = none ∧ findRow s.ct.rows x = none) →
    ∃ (t : State) (c : Nat → Nat) (lost : List Nat), exec .takeItem s = .next t
      ∧ t.hu.intake = rest ∧ t.hu.lapse = (s.hu.lapse && decide (rest ≠ []))
      ∧ (item.kind = .write → t.hu.trackers = s.hu.trackers)
      ∧ (item.kind = .read →
          (∃ before u behind, s.hu.trackers = before ++ u :: behind ∧ u.nextExpected = item.start
            ∧ (∀ v ∈ before, v.nextExpected ≠ item.start)
            ∧ t.hu.trackers = ⟨item.start + item.count, min 65535 (u.run + item.count)⟩ :: (before ++ behind))
          ∨ (∀ u ∈ s.hu.trackers, u.nextExpected ≠ item.start)
            ∧ t.hu.trackers = ⟨item.start + item.count, item.count⟩ :: s.hu.trackers.take 3)
      ∧ (∀ x, c x = (match item.kind with
          | .write => 4
          | .read =>
            if t.hu.trackers.head?.any (fun tr => decide (s.policy.streamThreshold ≤ tr.run)) then 1
            else match item.served with
              | .flash => 8
              | .platter => 16
              | .platterWoke => 64)
          * (1 + (min 64 (item.start + item.count - 64 * x) - (item.start - 64 * x) - 1) / 16))
      ∧ (∀ x k b, residency s.bt.slots x = some (k, b) →
          (touched x → bindingAt t.bt.slots k = some { b with heat := min 4095 (b.heat + c x), idle := b.idle % 8 })
          ∧ (¬touched x → bindingAt t.bt.slots k = some b))
      ∧ (∀ k, bindingAt s.bt.slots k = none → tget t.bt.slots k = tget s.bt.slots k)
      ∧ (∀ x i, touched x →
          (∀ w, findRow s.ct.rows x = some (i, .watching w) →
            tget t.ct.rows i = some (.watching { w with
              heat := min 4095 (w.heat + c x), idle := w.idle % 8
              eligible := w.eligible || decide (aEff s ≤ min 4095 (w.heat + c x)) }))
          ∧ (∀ u, findRow s.ct.rows x = some (i, .barred x u) → tget t.ct.rows i = some (.barred x u)))
      ∧ (∀ x i, fresh x → i / 8 = x % 1024 → tget s.ct.rows i = none →
          (∀ j, j / 8 = x % 1024 → j < i → tget s.ct.rows j ≠ none) →
          tget t.ct.rows i = some (.watching ⟨x, c x, 0, decide (aEff s ≤ c x), false⟩))
      ∧ (∀ x i w, fresh x → i / 8 = x % 1024 → tget s.ct.rows i = some (.watching w) →
          (∀ j, j / 8 = x % 1024 → tget s.ct.rows j ≠ none) →
          (∀ j u, j / 8 = x % 1024 → tget s.ct.rows j = some (.watching u) → j ≠ i →
            w.heat < u.heat ∨ w.heat = u.heat ∧ (u.idle < w.idle ∨ u.idle = w.idle ∧ i < j)) →
          tget t.ct.rows i =
            (if w.heat ≤ c x then some (.watching ⟨x, c x, 0, decide (aEff s ≤ c x), false⟩)
              else some (.watching w)))
      ∧ (∀ j, tget t.ct.rows j = tget s.ct.rows j
          ∨ ∃ w, tget t.ct.rows j = some (.watching w) ∧ touched w.extent ∧ residency s.bt.slots w.extent = none)
      ∧ lost.Nodup
      ∧ (∀ x, x ∈ lost ↔ fresh x ∧ ∀ j, j / 8 = x % 1024 →
          tget s.ct.rows j ≠ none ∧ ∀ w, tget s.ct.rows j = some (.watching w) → c x < w.heat)
      ∧ t.ct.untracked = min 65535 (s.ct.untracked + lost.length)
      ∧ ((∃ i w, tget t.ct.rows i = some (.watching w) ∧ touched w.extent ∧ w.eligible = true
            ∧ ∀ v, tget s.ct.rows i = some (.watching v) → v.extent = w.extent → v.eligible = false) →
          t.au.runsOwed = s.au.runsOwed + 1)
      ∧ ((∀ i w, tget t.ct.rows i = some (.watching w) → touched w.extent → w.eligible = true →
            ∃ v, tget s.ct.rows i = some (.watching v) ∧ v.extent = w.extent ∧ v.eligible = true) →
          t.au.runsOwed = s.au.runsOwed)
      ∧ t = { s with
          hu := { s.hu with intake := t.hu.intake, lapse := t.hu.lapse, trackers := t.hu.trackers }
          bt := { s.bt with slots := t.bt.slots }, ct := t.ct, au := { s.au with runsOwed := t.au.runsOwed } }

/-! ### The down lane -/

/-- A frame on the wire is read back (R168 to R170): of any kind, tag and body of at most 496 bytes, with any bytes
behind it, the hunting receiver finds exactly that frame and leaves those bytes. While it hunts, 0x3C is a pull
byte, 0xA7 begins a frame, and every other byte is discarded; after the sync byte it waits for the length, then for
the whole frame, and a length above 496 or a check that does not agree makes a bad frame, through whose bytes it
hunts again (R170). The bytes of a frame are those of R168, its check the CRC of R168: all ones to start, each byte
most significant bit first, the polynomial x^16 + x^12 + x^5 + 1, no final inversion, sent low byte first. Every
field of more than one byte is little-endian. A binding record is written by the fields of section 10.7, bit 7 of
the flags 0, and is read back as it was written; one received is read by its fields, with strikes of 3 taken as 2, a
heat above 4095 as 4095, and bit 7 of the flags ignored (R182). The record of a slot is its persisted form: FREE,
bound, or RETIRED, condemned with 2 strikes (R17). -/
def Obligations.FrameRoundTrip : Prop :=
  (∀ (f : Frame) (more : List Byte), f.body.length ≤ 496 → hunt (frameBytes f ++ more) = .frame f more)
  ∧ hunt [] = .quiet []
  ∧ (∀ more, hunt (0x3C#8 :: more) = .pull more)
  ∧ (∀ b more, b ≠ 0x3C#8 → b ≠ 0xA7#8 → hunt (b :: more) = hunt more)
  ∧ (∀ bytes : List Byte,
    (bytes.length < 5 ∨ fieldAt bytes 3 2 ≤ 496 ∧ bytes.length < 7 + fieldAt bytes 3 2 →
      hunt (0xA7#8 :: bytes) = .quiet (0xA7#8 :: bytes))
    ∧ (5 ≤ bytes.length → 496 < fieldAt bytes 3 2 → hunt (0xA7#8 :: bytes) = .bad bytes)
    ∧ (5 ≤ bytes.length → fieldAt bytes 3 2 ≤ 496 → 7 + fieldAt bytes 3 2 ≤ bytes.length →
      (crc16 (bytes.take (5 + fieldAt bytes 3 2))).toNat ≠ fieldAt bytes (5 + fieldAt bytes 3 2) 2 →
      hunt (0xA7#8 :: bytes) = .bad bytes))
  ∧ (∀ f : Frame, frameBytes f = [0xA7#8, f.kind] ++ leBytes 2 f.tag.toNat ++ leBytes 2 f.body.length ++ f.body
    ++ leBytes 2 (crc16 ([f.kind] ++ leBytes 2 f.tag.toNat ++ leBytes 2 f.body.length ++ f.body)).toNat)
  ∧ (∀ size v : Nat, leBytes size v = (List.range size).map fun i => BitVec.ofNat 8 (v / 256 ^ i))
  ∧ (∀ (bytes : List Byte) (offset size : Nat), fieldAt bytes offset size =
      ((List.range size).map fun i => (bytes[offset + i]?.getD 0#8).toNat * 256 ^ i).sum)
  ∧ (∀ shift : BitVec 16 → BitVec 16,
    (∀ c, shift c = if c.getLsbD 15 then (c <<< 1) ^^^ 0x1021#16 else c <<< 1) →
    crc16 [] = 0xFFFF#16
    ∧ ∀ (bytes : List Byte) (b : Byte),
      crc16 (bytes ++ [b]) = shift^[8] (crc16 bytes ^^^ (b.setWidth 16 <<< 8)))
  ∧ (∀ r : Record, r.slot < 65536 → r.pstate < 256 → r.extent < 4294967296 → r.strikes ≤ 2 → r.heat ≤ 4095 →
    (recordBytes r).length = 26 ∧ recordOfBytes (recordBytes r) = r
    ∧ recordBytes r = leBytes 2 r.slot ++ leBytes 4 r.extent ++ leBytes 1 r.pstate
        ++ leBytes 1 (r.owners.toNat + (if r.condemned then 16 else 0) + 32 * r.strikes)
        ++ leBytes 8 r.valid.toNat ++ leBytes 8 r.dirty.toNat ++ leBytes 2 r.heat)
  ∧ (∀ bytes : List Byte, recordOfBytes bytes =
    ⟨fieldAt bytes 0 2, fieldAt bytes 6 1, fieldAt bytes 2 4, BitVec.ofNat 4 (fieldAt bytes 7 1),
      (BitVec.ofNat 8 (fieldAt bytes 7 1)).getLsbD 4, min 2 (fieldAt bytes 7 1 / 32 % 4),
      BitVec.ofNat 64 (fieldAt bytes 8 8), BitVec.ofNat 64 (fieldAt bytes 16 8), min 4095 (fieldAt bytes 24 2)⟩)
  ∧ (∀ (slots : List (Nat × Slot)) (k : Nat), persisted slots k = match tget slots k with
    | none => ⟨k, 0, 0, 0#4, false, 0, 0#64, 0#64, 0⟩
    | some .retired => ⟨k, 2, 0, 0#4, true, 2, 0#64, 0#64, 0⟩
    | some (.bound b) => ⟨k, 1, b.extent, b.owners, decide (2 ≤ b.strikes), b.strikes, b.valid, b.dirty, b.heat⟩)

/-- The events of the receiver (R167, R169 to R171), where the bytes received make them (log 3). PULL_BYTE adds a pull up
to 16 while ATTN is asserted, else nothing; BAD_FRAME drops the frame, records LINK-CHECK and hunts on from the byte
after its sync byte; REQUEST_INTAKE puts a frame that is no notice at the end of the intake, or drops it with
LINK-OVERRUN when 8 are waiting. Nothing else changes. -/
def Obligations.DownLaneEvents : Prop :=
  ∀ (s : State) (bytes : List Byte),
    (∀ more, s.event bytes = .pull more →
      exec (.pullByte bytes) s = .next { s with lif := { s.lif with
        rx := more, credit := if attn s then min 16 (s.lif.credit + 1) else s.lif.credit } })
    ∧ (∀ more, s.event bytes = .bad more →
      exec (.badFrame bytes) s = .next { s with
        lif := { s.lif with rx := more }, cfu := (s.recordFault .linkCheck .none).cfu })
    ∧ (∀ f more, s.event bytes = .frame f more → f.kind ≠ 0x60#8 → f.kind ≠ 0x61#8 → f.kind ≠ 0x62#8 →
      (s.lif.intake.length < 8 →
        exec (.requestIntake bytes) s = .next { s with
          lif := { s.lif with rx := more, intake := s.lif.intake ++ [f] } })
      ∧ (8 ≤ s.lif.intake.length →
        exec (.requestIntake bytes) s = .next { s with
          lif := { s.lif with rx := more }, cfu := (s.recordFault .linkOverrun .none).cfu }))

/-- ACCESS (R22 to R26): outside ACTIVE a notice of a good length is discarded whole; a length that is no multiple of 8
in 8..64 is LINK-FORM. Each 8 bytes are an item: the start block, the count, the kind and the served value (section
10.7); it is malformed if its count is not 1..256, its kind neither READ nor WRITE, or its served value none of
FLASH, PLATTER and PLATTER-WOKE (R23). In ACTIVE the items of a well-formed notice join the intake in order as far
as there are places; the first that finds none starts a lapse and records INTAKE-LAPSE; every item discarded counts,
up to 65,535, and in lapse none joins. A malformed item makes the whole notice LINK-FORM. -/
def Obligations.AccessOffersItems : Prop :=
  ∀ (s : State) (bytes : List Byte) (f : Frame) (more : List Byte) (malformed : Nat → Prop)
    (stands : Nat → AccessItem → Prop), s.event bytes = .frame f more → f.kind = 0x60#8 →
    (∀ i, malformed i ↔ fieldAt f.body (8 * i + 4) 2 = 0 ∨ 256 < fieldAt f.body (8 * i + 4) 2
      ∨ 1 < fieldAt f.body (8 * i + 6) 1 ∨ 2 < fieldAt f.body (8 * i + 7) 1) →
    (∀ i item, stands i item ↔ item.start = fieldAt f.body (8 * i) 4 ∧ item.count = fieldAt f.body (8 * i + 4) 2
      ∧ fieldAt f.body (8 * i + 6) 1 = (match item.kind with | .read => 0 | .write => 1)
      ∧ fieldAt f.body (8 * i + 7) 1 = (match item.served with | .flash => 0 | .platter => 1 | .platterWoke => 2)) →
    (f.body.length < 8 ∨ 64 < f.body.length ∨ f.body.length % 8 ≠ 0 →
      exec (.access bytes) s = .next { s with
        lif := { s.lif with rx := more }, cfu := (s.recordFault .linkForm .none).cfu })
    ∧ (8 ≤ f.body.length → f.body.length ≤ 64 → f.body.length % 8 = 0 → s.mju.life ≠ .active →
      exec (.access bytes) s = .next { s with lif := { s.lif with rx := more } })
    ∧ (8 ≤ f.body.length → f.body.length ≤ 64 → f.body.length % 8 = 0 → s.mju.life = .active →
      (∃ i, 8 * i < f.body.length ∧ malformed i) →
      exec (.access bytes) s = .next { s with
        lif := { s.lif with rx := more }, cfu := (s.recordFault .linkForm .none).cfu })
    ∧ (∀ items : List AccessItem, 8 ≤ f.body.length → f.body.length ≤ 64 → f.body.length % 8 = 0 → s.mju.life = .active →
      (∀ i, 8 * i < f.body.length → ¬malformed i) → 8 * items.length = f.body.length →
      (∀ i item, items[i]? = some item → stands i item) → s.hu.lapseCount ≤ 65535 →
      (s.hu.lapse = false → s.hu.intake.length ≤ 64 →
        exec (.access bytes) s = .next { s with
          lif := { s.lif with rx := more }
          hu := { s.hu with
            intake := s.hu.intake ++ items.take (64 - s.hu.intake.length)
            lapse := decide (64 < s.hu.intake.length + items.length)
            lapseCount := min 65535 (s.hu.lapseCount + (s.hu.intake.length + items.length - 64)) }
          cfu := if 64 < s.hu.intake.length + items.length then (s.recordFault .intakeLapse .none).cfu else s.cfu })
      ∧ (s.hu.lapse = true →
        exec (.access bytes) s = .next { s with
          lif := { s.lif with rx := more }
          hu := { s.hu with lapseCount := min 65535 (s.hu.lapseCount + items.length) } }))

/-- PLATTER and SUPPLY (R122 to R124, R134, R136), in every lifecycle. A repeat changes nothing. Becoming READY in
ACTIVE ends both cadences, sets the rest reference, clears REST-given and starts a run of each picker (log 4);
leaving READY removes the rest reference and, at SOON or later, starts the spin-up cadence with an advice at once
(its step 1 at another stage than SOON is the model's choice, log 17); any other change is to the recorded state
alone. A notice with another state or supply, or with a body that is not one byte, is discarded and records
LINK-FORM (R122, R124, R171). -/
def Obligations.PlatterAndSupplyNotices : Prop :=
  (∀ (s : State) (bytes : List Byte) (f : Frame) (more : List Byte) (b : Byte), s.event bytes = .frame f more →
    f.kind = 0x61#8 → f.body = [b] →
    (4 < b.toNat → exec (.platter bytes) s = .next { s with
      lif := { s.lif with rx := more }, cfu := (s.recordFault .linkForm .none).cfu })
    ∧ (∀ p, platterOf b.toNat = some p →
      (p = s.psm.platter → exec (.platter bytes) s = .next { s with lif := { s.lif with rx := more } })
      ∧ (p ≠ s.psm.platter → s.mju.life ≠ .active ∨ p ≠ .ready ∧ s.psm.platter ≠ .ready →
        exec (.platter bytes) s = .next { s with
          lif := { s.lif with rx := more }, psm := { s.psm with platter := p } })
      ∧ (p ≠ s.psm.platter → s.mju.life = .active → p = .ready →
        exec (.platter bytes) s = .next { s with
          lif := { s.lif with rx := more }
          psm := { s.psm with
            platter := .ready, spinUp := none, mains := none, restRef := some s.seconds, restGiven := false
            drainRunsOwed := s.psm.drainRunsOwed + 1 }
          au := { s.au with runsOwed := s.au.runsOwed + 1 } })
      ∧ (p ≠ s.psm.platter → s.mju.life = .active → s.psm.platter = .ready →
        (holdStage s = .calm → exec (.platter bytes) s = .next { s with
          lif := { s.lif with rx := more }, psm := { s.psm with platter := p, restRef := none } })
        ∧ (holdStage s ≠ .calm → exec (.platter bytes) s = .next { s with
          lif := { s.lif with rx := more, advice := some (adviceOf s .spinUp (holdStage s)) }
          psm := { s.psm with
            platter := p, restRef := none, spinUp := some ⟨holdStage s, s.seconds + 15#32, 1⟩ } }))))
  ∧ (∀ (s : State) (bytes : List Byte) (f : Frame) (more : List Byte) (b : Byte), s.event bytes = .frame f more →
    f.kind = 0x62#8 → f.body = [b] →
    (1 < b.toNat → exec (.supply bytes) s = .next { s with
      lif := { s.lif with rx := more }, cfu := (s.recordFault .linkForm .none).cfu })
    ∧ (∀ v, supplyOf b.toNat = some v → exec (.supply bytes) s = .next { s with
      lif := { s.lif with rx := more }, psm := { s.psm with supply := v } }))
  ∧ (∀ (s : State) (bytes : List Byte) (f : Frame) (more : List Byte), s.event bytes = .frame f more →
    f.body.length ≠ 1 →
    (f.kind = 0x61#8 → exec (.platter bytes) s = .next { s with
      lif := { s.lif with rx := more }, cfu := (s.recordFault .linkForm .none).cfu })
    ∧ (f.kind = 0x62#8 → exec (.supply bytes) s = .next { s with
      lif := { s.lif with rx := more }, cfu := (s.recordFault .linkForm .none).cfu }))

/-! ### Requests in general -/

/-- When a request is taken, and what it is refused for. It is taken from the head of the intake when no SYNC waits and
no reply is waiting to be sent or being sent (R172); where it cannot be, its row changes nothing (log 12). Behind a
REPLY being sent it is taken once the REPLY's last byte is out, when ATTN may fall (R167). With pull credit a
waiting ORDER frame starts first, there and on an idle lane, so that it is served before the next reply (R175, log
2). Refused in this order: by the lifecycle (the table of R173); for the length of its body (section 10.7); LOOKUP,
PLAN-WRITE and DISCARD for their range (R73), the shortfall counting the blocks beyond the drive (R184); PIN and
UNPIN for the owner, the count, the owner's alert, which it clears, and the range of extents (R140, R142). A kind
code that is no request kind is refused UNKNOWN-KIND. A refusal changes nothing but the condition record (R183), or
an alert. -/
def Obligations.RequestsRefused : Prop :=
  (∀ (s : State) (row : RequestRow), s.mju.sync ≠ none ∨ s.lif.reply ≠ none ∨ s.lif.intake = [] →
    exec row.command s = .next s)
  ∧ (∀ (s : State) (f : Frame) (rest : List Frame) (row : RequestRow), s.lif.intake = f :: rest → requestRow f ≠ row →
    exec row.command s = .next s)
  ∧ (∀ (s : State) (f g : Frame) (rest : List Frame), s.lif.intake = f :: rest → s.mju.sync = none →
    s.lif.reply = none → s.lif.upLane = some g → g.kind = 0x80#8 →
    s.lif.credit = 0 ∨ s.lif.orderFrames = [] →
    exec (requestRow f).command s = exec (requestRow f).command { s with lif := { s.lif with
      upLane := none
      credit := if s.lif.orderFrames ≠ [] ∨ s.lif.advice ≠ none ∨ s.lif.deltaAsking = true ∨ s.mju.exporting ≠ none
        then s.lif.credit else 0 } })
  ∧ (∀ s : State, s.lif.upLane = none ∨ (∃ g, s.lif.upLane = some g ∧ g.kind = 0x80#8) →
    0 < s.lif.credit → s.lif.orderFrames ≠ [] → ∀ row : RequestRow, exec row.command s = .next s)
  ∧ (∀ (s : State) (f : Frame) (rest : List Frame) (code : CondCode), s.turn f.kind f rest →
    phaseRefusal (requestRow f) s.mju.life = some code →
    exec (requestRow f).command s = .next (s.refused rest f .phase code 0))
  ∧ (∀ (s : State) (f : Frame) (rest : List Frame), s.turn f.kind f rest →
    phaseRefusal (requestRow f) s.mju.life = none → lengthOk (requestRow f) f.body.length = false →
    exec (requestRow f).command s = .next (s.refused rest f .form .badLength f.body.length))
  ∧ (∀ (f : Frame) (life : Lifecycle),
    (f.kind ∈ [0x10#8, 0x11#8] → phaseRefusal (requestRow f) life = (match life with
      | .unbound => none | .importing => some .importing | .active => some .alreadyActive))
    ∧ (f.kind ∈ [0x12#8, 0x13#8] → phaseRefusal (requestRow f) life = (match life with
      | .unbound => some .noImport | .importing => none | .active => some .noImport))
    ∧ (f.kind ∈ [0x14#8, 0x15#8, 0x20#8, 0x21#8, 0x22#8, 0x30#8, 0x31#8, 0x40#8, 0x41#8, 0x42#8] →
      phaseRefusal (requestRow f) life = (match life with
        | .unbound => some .unbound | .importing => some .importing | .active => none))
    ∧ (f.kind ∈ [0x50#8, 0x51#8, 0x52#8, 0x53#8, 0x54#8, 0x5F#8] → phaseRefusal (requestRow f) life = none))
  ∧ (∀ f : Frame, lengthOk (requestRow f) f.body.length = true ↔
    (f.kind ∈ [0x10#8, 0x11#8] → f.body.length = 7)
    ∧ (f.kind = 0x12#8 → ∃ m, 1 ≤ m ∧ m ≤ 16 ∧ f.body.length = 26 * m)
    ∧ (f.kind = 0x13#8 → f.body.length = 4)
    ∧ (f.kind ∈ [0x14#8, 0x15#8, 0x42#8, 0x51#8, 0x52#8, 0x53#8, 0x54#8] → f.body.length = 0)
    ∧ (f.kind ∈ [0x20#8, 0x21#8, 0x22#8, 0x30#8, 0x31#8] → f.body.length = 6)
    ∧ (f.kind = 0x40#8 → f.body.length = 11)
    ∧ (f.kind = 0x41#8 → f.body.length = 2)
    ∧ (f.kind = 0x50#8 → ∃ m, m ≤ 16 ∧ f.body.length = 5 * m)
    ∧ (f.kind = 0x5F#8 → f.body.length = 1))
  ∧ (∀ (s : State) (f : Frame) (rest : List Frame) (start count : Nat), s.turn f.kind f rest → s.mju.life = .active →
    f.kind ∈ [0x20#8, 0x21#8, 0x22#8] → f.body.length = 6 → fieldAt f.body 0 4 = start → fieldAt f.body 4 2 = count →
    (count = 0 → exec (requestRow f).command s = .next (s.refused rest f .range .outOfRange 0))
    ∧ (0 < count → 64 * s.bt.e < start + count → exec (requestRow f).command s =
      .next (s.refused rest f .range .outOfRange (min 65535 (start + count - max start (64 * s.bt.e))))))
  ∧ (∀ (s : State) (f : Frame) (rest : List Frame) (owner first count : Nat), s.turn f.kind f rest →
    s.mju.life = .active → f.kind ∈ [0x30#8, 0x31#8] → f.body.length = 6 → fieldAt f.body 0 1 = owner →
    fieldAt f.body 1 4 = first → fieldAt f.body 5 1 = count →
    (3 < owner → exec (requestRow f).command s = .next (s.refused rest f .form .badField 0))
    ∧ (owner ≤ 3 → 64 < count → exec (requestRow f).command s = .next (s.refused rest f .form .badField 5))
    ∧ (∀ a, owner ≤ 3 → count ≤ 64 → s.pu.alert owner = some a →
      ∃ t, exec (requestRow f).command s = .next t ∧ t.pu.alert owner = none
        ∧ (∀ o, o ≠ owner → t.pu.alert o = s.pu.alert o) ∧ t.pu.scansOwed = s.pu.scansOwed
        ∧ t = { s with pu := t.pu }.refused rest f .lost
            (match a with
              | .pinsLost => .pinsLost
              | .mapReplaced => .mapReplaced
              | .pinsDropped => .pinsDropped) owner)
    ∧ (owner ≤ 3 → count ≤ 64 → s.pu.alert owner = none →
      (f.kind = 0x30#8 → count = 0 →
        exec (requestRow f).command s = .next (s.refused rest f .range .outOfRange 0))
      ∧ (0 < count → s.bt.e < first + count → exec (requestRow f).command s =
        .next (s.refused rest f .range .outOfRange (min 65535 (first + count - max first s.bt.e))))))
  ∧ (∀ (s : State) (f : Frame) (rest : List Frame), s.turn f.kind f rest →
    f.kind ∉ [0x10#8, 0x11#8, 0x12#8, 0x13#8, 0x14#8, 0x15#8, 0x20#8, 0x21#8, 0x22#8, 0x30#8, 0x31#8, 0x40#8, 0x41#8,
      0x42#8, 0x50#8, 0x51#8, 0x52#8, 0x53#8, 0x54#8, 0x5F#8] →
    exec .unknownKindRequest s = .next (s.refused rest f .form .unknownKind 0))

/-! ### Keeping the map -/

/-- ATTACH and IMPORT_BEGIN (R153, R162, R71, R136). In UNBOUND, in one change: N, E and W clamped and taken, N slots
FREE, S_lim N/8 and the pin limit N/4. ATTACH makes the part ACTIVE with a full allowance and journal-stale set,
starts the rest reference if the platter is READY, and carries N, E and W in its reply; IMPORT_BEGIN makes it
IMPORTING with both counts 0. Nothing else changes. In ACTIVE and IMPORTING both are refused, whatever their bodies. -/
def Obligations.AttachAndImportBegin : Prop :=
  (∀ (s : State) (f : Frame) (rest : List Frame) (n e w : Nat), s.mju.life = .unbound → f.body.length = 7 →
    n = max 1024 (min 32768 (fieldAt f.body 0 2)) → e = max 1 (min 4194304 (fieldAt f.body 2 4)) →
    w = max 1 (min 8 (fieldAt f.body 6 1)) →
    (s.turn 0x10#8 f rest →
      exec .attach s = .next ({ s with
        bt := ⟨n, e, []⟩
        policy := { s.policy with sLim := n / 8, pinLimit := n / 4, window := w }
        au := { s.au with tokens := s.policy.bMax, acc := 0 }
        mju := { s.mju with life := .active, stale := true }
        psm := if s.psm.platter = PlatterState.ready then { s.psm with restRef := some s.seconds, restGiven := false } else s.psm
        }.answered rest f.tag (.attach n e w)))
    ∧ (s.turn 0x11#8 f rest →
      exec .importBegin s = .next ({ s with
        bt := ⟨n, e, []⟩
        policy := { s.policy with sLim := n / 8, pinLimit := n / 4, window := w }
        mju := { s.mju with life := .importing, accepted := 0, rejected := 0 } }.answered rest f.tag .bare)))
  ∧ (∀ (s : State) (f : Frame) (rest : List Frame),
    (s.mju.life = .active →
      (s.turn 0x10#8 f rest → exec .attach s = .next (s.refused rest f .phase .alreadyActive 0))
      ∧ (s.turn 0x11#8 f rest → exec .importBegin s = .next (s.refused rest f .phase .alreadyActive 0)))
    ∧ (s.mju.life = .importing →
      (s.turn 0x10#8 f rest → exec .attach s = .next (s.refused rest f .phase .importing 0))
      ∧ (s.turn 0x11#8 f rest → exec .importBegin s = .next (s.refused rest f .phase .importing 0))))

/-- IMPORT_PUT (R163, R19, R139): every record of the request is counted once, as accepted or rejected, and the reply
carries the rejected ones. The records are taken one after another, in their order in the body: `slots`, `limit`,
`accepted` and `rejected` are the table, the pin limit and the counts after each, and each record sees what the
earlier ones have left. A rejected record changes nothing but its count; an accepted one makes its slot HELD with
the record's fields, RETIRED, or FREE, whatever stood there, leaves every other slot, and may raise the pin limit to
the pinned count. The same is said again of a request of one record. -/
def Obligations.ImportPutTakesRecords : Prop :=
  (∀ (s : State) (f : Frame) (rest : List Frame) (m : Nat), s.mju.life = .importing → s.turn 0x12#8 f rest →
    1 ≤ m → m ≤ 16 → f.body.length = 26 * m →
    ∃ t, exec .importPut s = .next t
      ∧ s.mju.accepted ≤ t.mju.accepted ∧ s.mju.rejected ≤ t.mju.rejected
      ∧ t.mju.accepted + t.mju.rejected = s.mju.accepted + s.mju.rejected + m
      ∧ t = { s with
          bt := { s.bt with slots := t.bt.slots }, policy := { s.policy with pinLimit := t.policy.pinLimit }
          mju := { s.mju with accepted := t.mju.accepted, rejected := t.mju.rejected }
          }.answered rest f.tag (.importPut (t.mju.rejected - s.mju.rejected)))
  ∧ (∀ (s : State) (f : Frame) (rest : List Frame) (m : Nat) (binds : Record → Prop)
      (bad : List (Nat × Slot) → Record → Prop), s.mju.life = .importing → s.turn 0x12#8 f rest →
    1 ≤ m → m ≤ 16 → f.body.length = 26 * m →
    (∀ r, binds r ↔ r.pstate = 1 ∧ ¬(r.valid = 0#64 ∧ r.dirty = 0#64 ∧ r.owners = 0#4)) →
    (∀ slots r, bad slots r ↔ s.bt.n ≤ r.slot ∨ 2 < r.pstate ∨ (r.pstate = 1 ∧ s.bt.e ≤ r.extent)
      ∨ r.dirty &&& r.valid ≠ r.dirty
      ∨ (binds r ∧ ∃ k b, residency slots r.extent = some (k, b) ∧ k ≠ r.slot)) →
    ∃ (t : State) (slots : Nat → List (Nat × Slot)) (limit accepted rejected : Nat → Nat),
      exec .importPut s = .next t
      ∧ slots 0 = s.bt.slots ∧ limit 0 = s.policy.pinLimit
      ∧ accepted 0 = s.mju.accepted ∧ rejected 0 = s.mju.rejected
      ∧ t.bt.slots = slots m ∧ t.policy.pinLimit = limit m
      ∧ t.mju.accepted = accepted m ∧ t.mju.rejected = rejected m
      ∧ ∀ i r, i < m → r = recordOfBytes ((f.body.drop (26 * i)).take 26) →
        (bad (slots i) r → slots (i + 1) = slots i ∧ limit (i + 1) = limit i
          ∧ accepted (i + 1) = accepted i ∧ rejected (i + 1) = rejected i + 1)
        ∧ (¬bad (slots i) r → accepted (i + 1) = accepted i + 1 ∧ rejected (i + 1) = rejected i
          ∧ (r.pstate = 2 → tget (slots (i + 1)) r.slot = some .retired)
          ∧ (binds r → bindingAt (slots (i + 1)) r.slot =
              some ⟨.held, r.extent, r.valid, r.dirty, none, none, r.owners, r.heat, 0, none,
                if r.condemned = true ∨ r.strikes = 2 then 2 else r.strikes, none⟩)
          ∧ (r.pstate ≠ 2 → ¬binds r → tget (slots (i + 1)) r.slot = none)
          ∧ (∀ k, k ≠ r.slot → tget (slots (i + 1)) k = tget (slots i) k)
          ∧ limit (i + 1) = max (limit i) (pinnedCount (slots (i + 1)))))
  ∧ (∀ (s : State) (f : Frame) (rest : List Frame) (r : Record) (bad : Prop), s.mju.life = .importing →
    s.turn 0x12#8 f rest → f.body.length = 26 → r = recordOfBytes f.body →
    (bad ↔ s.bt.n ≤ r.slot ∨ 2 < r.pstate ∨ (r.pstate = 1 ∧ s.bt.e ≤ r.extent) ∨ r.dirty &&& r.valid ≠ r.dirty
      ∨ (r.pstate = 1 ∧ ¬(r.valid = 0#64 ∧ r.dirty = 0#64 ∧ r.owners = 0#4)
        ∧ ∃ k b, residency s.bt.slots r.extent = some (k, b) ∧ k ≠ r.slot)) →
    (bad → exec .importPut s = .next ({ s with
      mju := { s.mju with rejected := s.mju.rejected + 1 } }.answered rest f.tag (.importPut 1)))
    ∧ (¬bad → ∃ t, exec .importPut s = .next t
      ∧ t.mju = { s.mju with accepted := s.mju.accepted + 1 }
      ∧ (r.pstate = 0 ∨ r.pstate = 1 ∧ r.valid = 0#64 ∧ r.dirty = 0#64 ∧ r.owners = 0#4 →
          tget t.bt.slots r.slot = none)
      ∧ (r.pstate = 2 → tget t.bt.slots r.slot = some .retired)
      ∧ (r.pstate = 1 → ¬(r.valid = 0#64 ∧ r.dirty = 0#64 ∧ r.owners = 0#4) →
          bindingAt t.bt.slots r.slot = some ⟨.held, r.extent, r.valid, r.dirty, none, none, r.owners, r.heat, 0, none,
            if r.condemned = true ∨ r.strikes = 2 then 2 else r.strikes, none⟩)
      ∧ (∀ k, k ≠ r.slot → tget t.bt.slots k = tget s.bt.slots k)
      ∧ t.policy.pinLimit = max s.policy.pinLimit (pinnedCount t.bt.slots)))

/-- IMPORT_END (R164, R71, R136, R141): when the counts differ the import is dropped, refused IMPORT-MISMATCH with the
difference; when they agree the part becomes ACTIVE with a full allowance, clean condemned bindings retire, dirty ones
take dirty-since now, every owner is alerted MAP-REPLACED, journal-stale is set if a record was rejected or a binding
retired, and a refill scan is started (log 4). -/
def Obligations.ImportEndCommitsOrDrops : Prop :=
  ∀ (s : State) (f : Frame) (rest : List Frame) (total : Nat), s.mju.life = .importing → s.turn 0x13#8 f rest →
    f.body.length = 4 → total = s.mju.accepted + s.mju.rejected →
    (fieldAt f.body 0 4 ≠ total →
      exec .importEnd s = .next ({ s with
        bt := ⟨0, s.bt.e, []⟩
        policy := { s.policy with sLim := 0, pinLimit := 0 }
        mju := { s.mju with life := .unbound } }.refused rest f .limit .importMismatch
          (min 65535 (max (fieldAt f.body 0 4) total - min (fieldAt f.body 0 4) total))))
    ∧ (fieldAt f.body 0 4 = total →
      ∃ t, exec .importEnd s = .next t
        ∧ (∀ k b, bindingAt s.bt.slots k = some b → 2 ≤ b.strikes → b.isDirty = false →
            tget t.bt.slots k = some .retired)
        ∧ (∀ k b, bindingAt s.bt.slots k = some b → b.strikes < 2 ∨ b.isDirty = true →
            bindingAt t.bt.slots k = some { b with
              dirtySince := if b.isDirty then some s.seconds else b.dirtySince })
        ∧ (∀ k, bindingAt s.bt.slots k = none → tget t.bt.slots k = tget s.bt.slots k)
        ∧ (t.mju.stale = true ↔ s.mju.stale = true ∨ 0 < s.mju.rejected
            ∨ ∃ kb ∈ bindingsOf s.bt.slots, 2 ≤ kb.2.strikes ∧ kb.2.isDirty = false)
        ∧ t = { s with
            bt := { s.bt with slots := t.bt.slots }
            au := { s.au with tokens := s.policy.bMax, acc := 0 }
            mju := { s.mju with life := .active, stale := t.mju.stale }
            psm := if s.psm.platter = PlatterState.ready then { s.psm with restRef := some s.seconds, restGiven := false }
              else s.psm
            pu := ⟨some .mapReplaced, some .mapReplaced, some .mapReplaced, some .mapReplaced, s.pu.scansOwed + 1⟩
            }.answered rest f.tag .bare)

/-- EXPORT starts at slot 0 with no record sent, or is answered RETRY while one runs (R159). SYNC is answered at once
when the log is empty, and else waits with the log's length for its mark, the MJU asking for the lane (R157, R158). -/
def Obligations.ExportAndSync : Prop :=
  ∀ (s : State) (f : Frame) (rest : List Frame), s.mju.life = .active → f.body = [] →
    (s.turn 0x14#8 f rest →
      (s.mju.exporting = none → exec .exportMap s = .next ({ s with
        mju := { s.mju with exporting := some ⟨0, 0⟩ } }.answered rest f.tag .bare))
      ∧ (s.mju.exporting ≠ none → exec .exportMap s = .next (s.replied rest f.tag .retry)))
    ∧ (s.turn 0x15#8 f rest →
      (s.mju.log = [] → exec .sync s = .next (s.answered rest f.tag .bare))
      ∧ (s.mju.log ≠ [] → exec .sync s = .next { s with
        mju := { s.mju with sync := some ⟨f.tag, s.mju.log.length⟩ }
        lif := { s.lif with intake := rest, deltaAsking := true } }))

/-! ### Serving reads and writes -/

/-- LOOKUP (R74 to R76, R185): the reply's runs, at most 16, are the blocks of the range from its start on, in order,
each at FLASH in the slot that holds its extent with the block valid, else at PLATTER; neighbouring runs have
different tiers (R75); the reply ends before the range only after 16 runs. It changes nothing else. -/
def Obligations.LookupAnswersTiers : Prop :=
  ∀ (s : State) (f : Frame) (rest : List Frame) (start count : Nat), s.mju.life = .active → s.turn 0x20#8 f rest →
    f.names s.bt.e start count →
    ∃ runs covered, exec .lookup s = .next (s.answered rest f.tag (.runs covered runs))
      ∧ runs.length ≤ 16 ∧ 0 < covered ∧ covered ≤ count ∧ (covered < count → runs.length = 16)
      ∧ (runs.map fun r => (List.range r.count).map fun i => (r.first + i, r.tier)).flatten
          = (List.range covered).map (fun i => (start + i,
              match residency s.bt.slots ((start + i) / 64) with
              | some (k, b) => if b.valid.getLsbD ((start + i) % 64) then Tier.flash k else Tier.platter
              | none => Tier.platter))
      ∧ (∀ i r r', runs[i]? = some r → runs[i + 1]? = some r' → r.tier ≠ r'.tier)

/-- PLAN_WRITE (R78 to R83, R88 to R91). To one bound extent: a write that meets dirty blocks, or to a binding that is
not HELD or not condemned, or while the platter is not READY, goes to FLASH in its slot: valid and dirty gain it,
overtaken gains it, redirtied gains what lies in the issued order's block set, and dirty-since is set if it was
clean; else it goes to PLATTER and leaves valid (and a set of an order, which R2 keeps within it, log 14). The log
has an entry for the slot if valid or dirty changed (R18), and stays otherwise. Over any range: NEEDS-PLATTER or
RETRY with nothing changed, or the plan is made whole: every touched extent by these rules, an unbound one left
unbound while the platter is READY and staged otherwise; the reply's runs, at most 5, are the blocks of the range in
order, at FLASH in their slot exactly where they are dirty after the plan. The touched extents are decided in
ascending order: `slots` and `rows` are the tables after each decision, each made on what the earlier ones have
left, and `n` of them can be decided. If one cannot, it is unbound, the platter is not READY, and the hold stage is
CLOSED, the dirty binding count with the plan's earlier extents is at S_lim, or no FREE slot and no victim is left,
touched extents apart: that is NEEDS-PLATTER, and nothing else is (R85, R86, R89). A staged extent takes the lowest
FREE slot that is left, or with none the victim of R67. If all are decided, the plan is made exactly where there is
room for its entries, `fresh`, and RETRY is answered exactly where there is none, 240 being the limit (R90, R155). -/
def Obligations.PlanWriteToABoundExtent : Prop :=
  (∀ (s : State) (f : Frame) (rest : List Frame) (start count x k : Nat) (b : Binding) (w : BlockSet),
    s.mju.life = .active → s.turn 0x21#8 f rest → f.names s.bt.e start count → x = start / 64 →
    (start + count - 1) / 64 = x → residency s.bt.slots x = some (k, b) → bindingAt s.bt.slots k = some b →
    w = BitVec.ofNat 64 (2 ^ (start + count - 64 * x) - 2 ^ (start - 64 * x)) → s.mju.log.length < 240 →
    (b.dirty &&& w ≠ 0#64 ∨ b.state ≠ .held ∨ b.strikes < 2 ∨ s.psm.platter ≠ .ready →
      ∃ t, exec .planWrite s = .next t
        ∧ bindingAt t.bt.slots k = some { b with
            valid := b.valid ||| w
            dirty := b.dirty ||| w
            overtaken := b.overtaken.map (· ||| w)
            redirtied := b.redirtied.map (· ||| (w &&& capturedBlocks s.ou.issued k))
            dirtySince := if b.dirty = 0#64 then some s.seconds else b.dirtySince }
        ∧ (∀ j, j ≠ k → tget t.bt.slots j = tget s.bt.slots j)
        ∧ (b.valid ||| w = b.valid → b.dirty ||| w = b.dirty → t.mju = s.mju)
        ∧ (b.valid ||| w ≠ b.valid ∨ b.dirty ||| w ≠ b.dirty → inLog t.mju.log k = true)
        ∧ t = { s with
            bt := { s.bt with slots := t.bt.slots }, mju := { s.mju with log := t.mju.log }
            lif := { s.lif with deltaAsking := t.lif.deltaAsking }
            }.answered rest f.tag (.runs count [⟨start, count, .flash k⟩]))
    ∧ (b.dirty &&& w = 0#64 → b.state = .held → 2 ≤ b.strikes → s.psm.platter = .ready →
      ∃ t, exec .planWrite s = .next t
        ∧ bindingAt t.bt.slots k = some { b with
            valid := b.valid &&& ~~~w
            overtaken := b.overtaken.map (· &&& ~~~w)
            redirtied := b.redirtied.map (· &&& ~~~w)
            dirtySince := if b.dirty = 0#64 then none else b.dirtySince }
        ∧ (∀ j, j ≠ k → tget t.bt.slots j = tget s.bt.slots j)
        ∧ (b.valid &&& w = 0#64 → t.mju = s.mju)
        ∧ (b.valid &&& w ≠ 0#64 → inLog t.mju.log k = true)
        ∧ t = { s with
            bt := { s.bt with slots := t.bt.slots }, mju := { s.mju with log := t.mju.log }
            lif := { s.lif with deltaAsking := t.lif.deltaAsking }
            }.answered rest f.tag (.runs count [⟨start, count, .platter⟩])))
  ∧ (∀ (s : State) (f : Frame) (rest : List Frame) (start count : Nat) (touched : Nat → Prop) (w : Nat → BlockSet),
    s.mju.life = .active → s.turn 0x21#8 f rest → f.names s.bt.e start count → mapLaw s = true →
    (∀ x, touched x ↔ start / 64 ≤ x ∧ x ≤ (start + count - 1) / 64) →
    (∀ x, w x = BlockSet.span (start - 64 * x) (min 64 (start + count - 64 * x))) →
    ∃ t, exec .planWrite s = .next t
      ∧ ((s.psm.platter ≠ .ready ∧ (∃ x, touched x ∧ residency s.bt.slots x = none)
            ∧ t = s.replied rest f.tag .needsPlatter)
        ∨ (235 < s.mju.log.length ∧ t = s.replied rest f.tag .retry)
        ∨ ∃ runs, runs.length ≤ 5
          ∧ (runs.map fun r => (List.range r.count).map fun i => (r.first + i, r.tier)).flatten
              = (List.range count).map (fun i => (start + i,
                  match residency t.bt.slots ((start + i) / 64) with
                  | some (k, b) => if b.dirty.getLsbD ((start + i) % 64) then Tier.flash k else Tier.platter
                  | none => Tier.platter))
          ∧ (∀ x k b, touched x → residency s.bt.slots x = some (k, b) →
              (b.dirty &&& w x ≠ 0#64 ∨ b.state ≠ .held ∨ b.strikes < 2 ∨ s.psm.platter ≠ .ready →
                bindingAt t.bt.slots k = some { b with
                  valid := b.valid ||| w x
                  dirty := b.dirty ||| w x
                  overtaken := b.overtaken.map (· ||| w x)
                  redirtied := b.redirtied.map (· ||| (w x &&& capturedBlocks s.ou.issued k))
                  dirtySince := if b.dirty = 0#64 then some s.seconds else b.dirtySince })
              ∧ (b.dirty &&& w x = 0#64 → b.state = .held → 2 ≤ b.strikes → s.psm.platter = .ready →
                bindingAt t.bt.slots k = some { b with
                  valid := b.valid &&& ~~~(w x)
                  overtaken := b.overtaken.map (· &&& ~~~(w x))
                  redirtied := b.redirtied.map (· &&& ~~~(w x))
                  dirtySince := if b.dirty = 0#64 then none else b.dirtySince }))
          ∧ (∀ x, touched x → residency s.bt.slots x = none →
              (s.psm.platter = .ready → residency t.bt.slots x = none)
              ∧ (s.psm.platter ≠ .ready → ∃ k strikes, bindingAt t.bt.slots k =
                  some ⟨.held, x, w x, w x, none, none, 0#4, rowHeat s.ct.rows x, 0, some s.seconds, strikes, none⟩
                ∧ (tget s.bt.slots k = none ∧ strikes = 0
                  ∨ ∃ v, bindingAt s.bt.slots k = some v ∧ v.victim = true ∧ ¬touched v.extent ∧ strikes = v.strikes)
                ∧ findRow t.ct.rows x = none))
          ∧ (∀ k b, bindingAt s.bt.slots k = some b → ¬touched b.extent →
              bindingAt t.bt.slots k = some b
              ∨ s.psm.platter ≠ .ready ∧ b.victim = true ∧ residency t.bt.slots b.extent = none)
          ∧ (∀ k, tget s.bt.slots k = some .retired → tget t.bt.slots k = some .retired)
          ∧ (∀ k, { persisted s.bt.slots k with heat := 0 } ≠ { persisted t.bt.slots k with heat := 0 } →
              inLog t.mju.log k = true)
          ∧ t = { s with
              bt := { s.bt with slots := t.bt.slots }, ct := { s.ct with rows := t.ct.rows }
              mju := { s.mju with log := t.mju.log }, lif := { s.lif with deltaAsking := t.lif.deltaAsking }
              }.answered rest f.tag (.runs count runs)))
  ∧ (∀ (s : State) (f : Frame) (rest : List Frame) (start count first extents : Nat) (touches : Nat → Bool)
      (w : Nat → BlockSet), s.mju.life = .active → s.turn 0x21#8 f rest → f.names s.bt.e start count →
    mapLaw s = true → first = start / 64 → extents = (start + count - 1) / 64 + 1 - first →
    (∀ x, touches x = decide (first ≤ x ∧ x < first + extents)) →
    (∀ x, w x = BlockSet.span (start - 64 * x) (min 64 (start + count - 64 * x))) →
    ∃ (t : State) (n : Nat) (slots : Nat → List (Nat × Slot)) (rows : Nat → List (Nat × Row)) (fresh : List Nat),
      exec .planWrite s = .next t ∧ n ≤ extents ∧ slots 0 = s.bt.slots ∧ rows 0 = s.ct.rows
      ∧ (∀ i x, i < n → x = first + i →
        (∀ k b, residency (slots i) x = some (k, b) →
          rows (i + 1) = rows i ∧ (∀ j, j ≠ k → tget (slots (i + 1)) j = tget (slots i) j)
          ∧ (b.dirty &&& w x ≠ 0#64 ∨ b.state ≠ .held ∨ b.strikes < 2 ∨ s.psm.platter ≠ .ready →
            bindingAt (slots (i + 1)) k = some { b with
              valid := b.valid ||| w x
              dirty := b.dirty ||| w x
              overtaken := b.overtaken.map (· ||| w x)
              redirtied := b.redirtied.map (· ||| (w x &&& capturedBlocks s.ou.issued k))
              dirtySince := if b.dirty = 0#64 then some s.seconds else b.dirtySince })
          ∧ (b.dirty &&& w x = 0#64 → b.state = .held → 2 ≤ b.strikes → s.psm.platter = .ready →
            bindingAt (slots (i + 1)) k = some { b with
              valid := b.valid &&& ~~~(w x)
              overtaken := b.overtaken.map (· &&& ~~~(w x))
              redirtied := b.redirtied.map (· &&& ~~~(w x))
              dirtySince := if b.dirty = 0#64 then none else b.dirtySince }))
        ∧ (residency (slots i) x = none →
          (s.psm.platter = .ready → slots (i + 1) = slots i ∧ rows (i + 1) = rows i)
          ∧ (s.psm.platter ≠ .ready → holdStage s ≠ .closed ∧ dirtyCount (slots i) < s.policy.sLim
            ∧ ∃ k strikes,
              (lowestFree { s.bt with slots := slots i } = some k ∧ strikes = 0
                ∨ lowestFree { s.bt with slots := slots i } = none
                  ∧ ∃ v, victimOf (slots i) touches = some (k, v) ∧ strikes = v.strikes)
              ∧ bindingAt (slots (i + 1)) k =
                  some ⟨.held, x, w x, w x, none, none, 0#4, rowHeat (rows i) x, 0, some s.seconds, strikes, none⟩
              ∧ (∀ j, j ≠ k → tget (slots (i + 1)) j = tget (slots i) j)
              ∧ rows (i + 1) = emptyRowOf (rows i) x)))
      ∧ (n < extents → residency (slots n) (first + n) = none ∧ s.psm.platter ≠ .ready
        ∧ (holdStage s = .closed ∨ s.policy.sLim ≤ dirtyCount (slots n)
          ∨ lowestFree { s.bt with slots := slots n } = none ∧ victimOf (slots n) touches = none)
        ∧ t = s.replied rest f.tag .needsPlatter)
      ∧ fresh.Nodup
      ∧ (∀ k, k ∈ fresh ↔ inLog s.mju.log k = false
        ∧ { persisted s.bt.slots k with heat := 0 } ≠ { persisted (slots n) k with heat := 0 })
      ∧ (n = extents → fresh ≠ [] → 240 < s.mju.log.length + fresh.length → t = s.replied rest f.tag .retry)
      ∧ (n = extents → fresh = [] ∨ s.mju.log.length + fresh.length ≤ 240 →
        t.bt.slots = slots n ∧ t.ct.rows = rows n
        ∧ (∃ runs, t.lif.reply = some ⟨f.tag, .ok (.runs count runs)⟩)
        ∧ ∀ k, inLog t.mju.log k = true ↔ inLog s.mju.log k = true ∨ k ∈ fresh))
  ∧ (∀ (s : State) (f : Frame) (rest : List Frame), s.mju.life = .active → s.turn 0x21#8 f rest → mapLaw s = true →
    s.roomRule 240 .planWrite f rest)

/-- PLAN_WRITE to an unbound extent (R84 to R89): with the platter READY it goes to PLATTER, and nothing changes but
that the MJU makes its test of R157 (log 11); else it is staged, while the hold stage is not CLOSED and the dirty
binding count is below S_lim, into the lowest FREE slot, or with none FREE into the slot of the victim (R67, R69),
whose extent becomes unbound: HELD with the written blocks valid and dirty, its row's heat (R52, R87) and the
strikes the slot holds. With the gate closed, or with neither a FREE slot nor a victim, it is answered NEEDS-PLATTER
and nothing changes. Premise: room for one entry (R90). -/
def Obligations.PlanWriteToAnUnboundExtent : Prop :=
  ∀ (s : State) (f : Frame) (rest : List Frame) (start count x : Nat) (w : BlockSet),
    s.mju.life = .active → s.turn 0x21#8 f rest → f.names s.bt.e start count → x = start / 64 →
    (start + count - 1) / 64 = x → residency s.bt.slots x = none →
    w = BitVec.ofNat 64 (2 ^ (start + count - 64 * x) - 2 ^ (start - 64 * x)) → s.mju.log.length < 240 →
    (s.psm.platter = .ready →
      exec .planWrite s = .next ({ s with lif := { s.lif with
        deltaAsking := deltaWanted s.seconds s.policy s.mju }
        }.answered rest f.tag (.runs count [⟨start, count, .platter⟩])))
    ∧ (s.psm.platter ≠ .ready → holdStage s = .closed ∨ s.policy.sLim ≤ dirtyCount s.bt.slots
        ∨ lowestFree s.bt = none ∧ victimOf s.bt.slots (· == x) = none →
      exec .planWrite s = .next (s.replied rest f.tag .needsPlatter))
    ∧ (∀ k, s.psm.platter ≠ .ready → holdStage s ≠ .closed → dirtyCount s.bt.slots < s.policy.sLim →
        lowestFree s.bt = some k →
      ∃ t, exec .planWrite s = .next t
        ∧ bindingAt t.bt.slots k = some ⟨.held, x, w, w, none, none, 0#4, rowHeat s.ct.rows x, 0, some s.seconds, 0,
            none⟩
        ∧ (∀ j, j ≠ k → tget t.bt.slots j = tget s.bt.slots j)
        ∧ t.ct.rows = emptyRowOf s.ct.rows x
        ∧ inLog t.mju.log k = true
        ∧ t = { s with
            bt := { s.bt with slots := t.bt.slots }, ct := { s.ct with rows := t.ct.rows }
            mju := { s.mju with log := t.mju.log }, lif := { s.lif with deltaAsking := t.lif.deltaAsking }
            }.answered rest f.tag (.runs count [⟨start, count, .flash k⟩]))
    ∧ (∀ k v, s.psm.platter ≠ .ready → holdStage s ≠ .closed → dirtyCount s.bt.slots < s.policy.sLim →
        lowestFree s.bt = none → victimOf s.bt.slots (· == x) = some (k, v) → mapLaw s = true →
      ∃ t, exec .planWrite s = .next t
        ∧ bindingAt t.bt.slots k = some ⟨.held, x, w, w, none, none, 0#4, rowHeat s.ct.rows x, 0, some s.seconds,
            v.strikes, none⟩
        ∧ residency t.bt.slots v.extent = none ∧ findRow t.ct.rows v.extent = none
        ∧ (∀ j, j ≠ k → tget t.bt.slots j = tget s.bt.slots j)
        ∧ t.ct.rows = emptyRowOf s.ct.rows x
        ∧ inLog t.mju.log k = true
        ∧ t = { s with
            bt := { s.bt with slots := t.bt.slots }, ct := { s.ct with rows := t.ct.rows }
            mju := { s.mju with log := t.mju.log }, lif := { s.lif with deltaAsking := t.lif.deltaAsking }
            }.answered rest f.tag (.runs count [⟨start, count, .flash k⟩]))

/-- DISCARD (R92 to R95): every binding of the range loses the range from its valid, dirty, overtaken and redirtied
sets, and its dirty-since with its last dirty block; a HELD one left with nothing valid is released, unless it is
pinned or condemned, and a condemned one left clean retires, its owners alerted PINS-DROPPED; every other slot
stays. The log has an entry for each slot so changed; a release starts a picker run (R63), and blocks lost from the
valid set of a pinned HELD binding a refill scan (R148), each kept as a count of runs (log 4); the drain-all flag
goes with the last dirty binding (R131). Premise: room for five entries, which no range of 256 blocks exceeds; RETRY
is answered for want of room for more than 240 entries alone (R95, R155). -/
def Obligations.DiscardRemovesTheRange : Prop :=
  (∀ (s : State) (f : Frame) (rest : List Frame) (start count : Nat) (touched : Nat → Prop) (r : Nat → BlockSet)
    (released : Binding → Prop),
    s.mju.life = .active → s.turn 0x22#8 f rest → f.names s.bt.e start count → mapLaw s = true →
    s.mju.log.length ≤ 235 →
    (∀ x, touched x ↔ start / 64 ≤ x ∧ x ≤ (start + count - 1) / 64) →
    (∀ x, r x = BlockSet.span (start - 64 * x) (min 64 (start + count - 64 * x))) →
    (∀ b : Binding, released b ↔ touched b.extent ∧ b.state = .held ∧ b.valid &&& ~~~(r b.extent) = 0#64
      ∧ b.owners = 0#4 ∧ b.strikes < 2) →
    ∃ t, exec .discard s = .next t
      ∧ (∀ k b, bindingAt s.bt.slots k = some b → ¬touched b.extent → bindingAt t.bt.slots k = some b)
      ∧ (∀ k b v d, bindingAt s.bt.slots k = some b → touched b.extent →
          v = b.valid &&& ~~~(r b.extent) → d = b.dirty &&& ~~~(r b.extent) →
          (b.state ≠ .held ∨ v ≠ 0#64 ∧ (b.strikes < 2 ∨ d ≠ 0#64) ∨ b.owners ≠ 0#4 ∧ b.strikes < 2 →
            bindingAt t.bt.slots k = some { b with
              valid := v
              dirty := d
              overtaken := b.overtaken.map (· &&& ~~~(r b.extent))
              redirtied := b.redirtied.map (· &&& ~~~(r b.extent))
              dirtySince := if d = 0#64 then none else b.dirtySince })
          ∧ (released b → tget t.bt.slots k = none)
          ∧ (b.state = .held → 2 ≤ b.strikes → d = 0#64 → tget t.bt.slots k = some .retired)
          ∧ (v ≠ b.valid ∨ d ≠ b.dirty ∨ released b → inLog t.mju.log k = true))
      ∧ (∀ k, bindingAt s.bt.slots k = none → tget t.bt.slots k = tget s.bt.slots k)
      ∧ ((∃ k b, bindingAt s.bt.slots k = some b ∧ released b) → t.au.runsOwed = s.au.runsOwed + 1)
      ∧ ((∀ k b, bindingAt s.bt.slots k = some b → ¬released b) → t.au.runsOwed = s.au.runsOwed)
      ∧ ((∃ k b, bindingAt s.bt.slots k = some b ∧ touched b.extent ∧ b.state = .held ∧ b.owners ≠ 0#4
            ∧ b.valid &&& ~~~(r b.extent) ≠ b.valid) → t.pu.scansOwed = s.pu.scansOwed + 1)
      ∧ ((∀ k b, bindingAt s.bt.slots k = some b → touched b.extent → b.state = .held → b.owners ≠ 0#4 →
            b.valid &&& ~~~(r b.extent) = b.valid) → t.pu.scansOwed = s.pu.scansOwed)
      ∧ (∀ owner, owner ≤ 3 →
          ((∃ k b, bindingAt s.bt.slots k = some b ∧ tget t.bt.slots k = some .retired
              ∧ b.owners.getLsbD owner = true) → t.pu.alert owner = some .pinsDropped)
          ∧ ((∀ k b, bindingAt s.bt.slots k = some b → tget t.bt.slots k = some .retired →
              b.owners.getLsbD owner = false) → t.pu.alert owner = s.pu.alert owner))
      ∧ t.psm = { s.psm with drainAll := s.psm.drainAll && decide (dirtyCount t.bt.slots ≠ 0) }
      ∧ t = { s with
          bt := { s.bt with slots := t.bt.slots }, au := { s.au with runsOwed := t.au.runsOwed }, pu := t.pu
          psm := t.psm, mju := { s.mju with log := t.mju.log }
          lif := { s.lif with deltaAsking := t.lif.deltaAsking } }.answered rest f.tag (.covered count))
  ∧ (∀ (s : State) (f : Frame) (rest : List Frame), s.mju.life = .active → s.turn 0x22#8 f rest → mapLaw s = true →
    s.roomRule 240 .discard f rest)

/-- No dirty block is served from the platter (R74, R79, R83): in a lawful state, a LOOKUP answers FLASH, and a made
PLAN-WRITE directs to FLASH, every block that is dirty when the request is taken. -/
def Obligations.NoDirtyBlockServedFromThePlatter : Prop :=
  ∀ (s t : State) (f : Frame) (rest : List Frame) (c : Instr) (covered : Nat) (runs : List Run),
    s.mju.life = .active → bindingLaw s = true → mapLaw s = true →
    (c = .lookup ∧ s.turn 0x20#8 f rest ∨ c = .planWrite ∧ s.turn 0x21#8 f rest) →
    exec c s = .next t → t.lif.reply = some ⟨f.tag, .ok (.runs covered runs)⟩ →
    ∀ r ∈ runs, ∀ i, i < r.count → ∀ k b, residency s.bt.slots ((r.first + i) / 64) = some (k, b) →
      b.dirty.getLsbD ((r.first + i) % 64) = true → r.tier = .flash k

/-! ### Pins -/

/-- PIN of one extent, and of a range (R140, R142 to R145). One extent: an owner with an alert is told of it, LOST, and
the alert clears; else a bound extent gains the owner, unless it is unpinned and the pinned count is at the limit;
an unbound one is bound, below the limit, to the lowest FREE slot, or with none FREE to the victim's (R67, R69),
whose extent becomes unbound: HELD and empty with the owner, its row's heat and the strikes the slot holds; with
neither, or at the limit, the shortfall is 1. A PIN made starts a refill scan (R148, log 4). A range of 1 to 64
extents is decided in ascending order: `slots`, `rows` and `missing` are the tables and the shortfall after each
decision, each made as for one extent on what the earlier ones have left, and no binding of the range's extents is a
victim (R144); the log has an entry exactly for the slots that had one or whose persisted form the PIN changes
(R18). Premise: room for the entries; RETRY is answered for want of room for more than 240 entries alone (R145,
R155). -/
def Obligations.PinOfOneExtent : Prop :=
  (∀ (s : State) (f : Frame) (rest : List Frame) (owner x : Nat), s.mju.life = .active → s.turn 0x30#8 f rest →
    f.body.length = 6 → fieldAt f.body 0 1 = owner → owner ≤ 3 → fieldAt f.body 1 4 = x → fieldAt f.body 5 1 = 1 →
    (∀ a, s.pu.alert owner = some a →
      ∃ t, exec .pin s = .next t ∧ t.pu.alert owner = none
        ∧ (∀ o, o ≠ owner → t.pu.alert o = s.pu.alert o) ∧ t.pu.scansOwed = s.pu.scansOwed
        ∧ t = { s with pu := t.pu }.refused rest f .lost
            (match a with
              | .pinsLost => .pinsLost
              | .mapReplaced => .mapReplaced
              | .pinsDropped => .pinsDropped) owner)
    ∧ (s.pu.alert owner = none → s.bt.e ≤ x →
      exec .pin s = .next (s.refused rest f .range .outOfRange 1))
    ∧ (s.pu.alert owner = none → x < s.bt.e → s.mju.log.length < 240 →
      ∃ t n, exec .pin s = .next t
        ∧ (∀ k b, residency s.bt.slots x = some (k, b) → bindingAt s.bt.slots k = some b →
            (b.owners.getLsbD owner = true ∨ b.owners ≠ 0#4 ∨ pinnedCount s.bt.slots < s.policy.pinLimit →
              n = 0 ∧ bindingAt t.bt.slots k = some { b with owners := b.owners ||| BitVec.ofNat 4 (2 ^ owner) }
              ∧ (b.owners.getLsbD owner = false → inLog t.mju.log k = true)
              ∧ (b.owners.getLsbD owner = true → t.mju = s.mju)
              ∧ ∀ j, j ≠ k → tget t.bt.slots j = tget s.bt.slots j)
            ∧ (b.owners = 0#4 → s.policy.pinLimit ≤ pinnedCount s.bt.slots → n = 1 ∧ t.bt = s.bt))
        ∧ (residency s.bt.slots x = none →
            (∀ k, lowestFree s.bt = some k → pinnedCount s.bt.slots < s.policy.pinLimit →
              n = 0 ∧ bindingAt t.bt.slots k = some ⟨.held, x, 0#64, 0#64, none, none, BitVec.ofNat 4 (2 ^ owner),
                rowHeat s.ct.rows x, 0, none, 0, none⟩
              ∧ (∀ j, j ≠ k → tget t.bt.slots j = tget s.bt.slots j)
              ∧ t.ct.rows = emptyRowOf s.ct.rows x ∧ inLog t.mju.log k = true)
            ∧ (s.policy.pinLimit ≤ pinnedCount s.bt.slots → n = 1 ∧ t.bt = s.bt ∧ t.ct = s.ct))
        ∧ t = { s with
            bt := { s.bt with slots := t.bt.slots }, ct := { s.ct with rows := t.ct.rows }
            pu := { s.pu with scansOwed := s.pu.scansOwed + 1 }
            mju := { s.mju with log := t.mju.log }, lif := { s.lif with deltaAsking := t.lif.deltaAsking }
            }.answered rest f.tag (.shortfall n))
    ∧ (s.pu.alert owner = none → x < s.bt.e → s.mju.log.length < 240 → residency s.bt.slots x = none →
      lowestFree s.bt = none → pinnedCount s.bt.slots < s.policy.pinLimit → mapLaw s = true →
      ∃ t n, exec .pin s = .next t ∧ t.lif.reply = some ⟨f.tag, .ok (.shortfall n)⟩ ∧ t.lif.intake = rest
        ∧ (victimOf s.bt.slots (· == x) = none → n = 1 ∧ t.bt = s.bt ∧ t.ct = s.ct)
        ∧ (∀ k v, victimOf s.bt.slots (· == x) = some (k, v) →
            n = 0 ∧ bindingAt t.bt.slots k = some ⟨.held, x, 0#64, 0#64, none, none, BitVec.ofNat 4 (2 ^ owner),
              rowHeat s.ct.rows x, 0, none, v.strikes, none⟩
            ∧ residency t.bt.slots v.extent = none ∧ findRow t.ct.rows v.extent = none
            ∧ (∀ j, j ≠ k → tget t.bt.slots j = tget s.bt.slots j)
            ∧ t.ct.rows = emptyRowOf s.ct.rows x ∧ inLog t.mju.log k = true)))
  ∧ (∀ (s : State) (f : Frame) (rest : List Frame) (owner first count : Nat), s.mju.life = .active →
    s.turn 0x30#8 f rest → f.body.length = 6 → mapLaw s = true → fieldAt f.body 0 1 = owner → owner ≤ 3 →
    fieldAt f.body 1 4 = first → fieldAt f.body 5 1 = count → 1 ≤ count → count ≤ 64 → first + count ≤ s.bt.e →
    s.pu.alert owner = none → s.mju.log.length ≤ 176 →
    ∃ (t : State) (slots : Nat → List (Nat × Slot)) (rows : Nat → List (Nat × Row)) (missing : Nat → Nat),
      exec .pin s = .next t
      ∧ slots 0 = s.bt.slots ∧ rows 0 = s.ct.rows ∧ missing 0 = 0
      ∧ slots count = t.bt.slots ∧ rows count = t.ct.rows
      ∧ (∀ i x, i < count → x = first + i →
        (∀ k b, residency (slots i) x = some (k, b) → rows (i + 1) = rows i
          ∧ (b.owners.getLsbD owner = true → slots (i + 1) = slots i ∧ missing (i + 1) = missing i)
          ∧ (b.owners.getLsbD owner = false → b.owners ≠ 0#4 ∨ pinnedCount (slots i) < s.policy.pinLimit →
              bindingAt (slots (i + 1)) k = some { b with owners := b.owners ||| BitVec.ofNat 4 (2 ^ owner) }
              ∧ (∀ j, j ≠ k → tget (slots (i + 1)) j = tget (slots i) j) ∧ missing (i + 1) = missing i)
          ∧ (b.owners = 0#4 → s.policy.pinLimit ≤ pinnedCount (slots i) →
              slots (i + 1) = slots i ∧ missing (i + 1) = missing i + 1))
        ∧ (residency (slots i) x = none →
          (∀ k strikes, pinnedCount (slots i) < s.policy.pinLimit →
              lowestFree { s.bt with slots := slots i } = some k ∧ strikes = 0
                ∨ lowestFree { s.bt with slots := slots i } = none
                  ∧ (∃ v, victimOf (slots i) (fun y => decide (first ≤ y ∧ y < first + count)) = some (k, v)
                    ∧ strikes = v.strikes) →
              bindingAt (slots (i + 1)) k = some ⟨.held, x, 0#64, 0#64, none, none, BitVec.ofNat 4 (2 ^ owner),
                rowHeat (rows i) x, 0, none, strikes, none⟩
              ∧ (∀ j, j ≠ k → tget (slots (i + 1)) j = tget (slots i) j)
              ∧ rows (i + 1) = emptyRowOf (rows i) x ∧ missing (i + 1) = missing i)
          ∧ (s.policy.pinLimit ≤ pinnedCount (slots i)
              ∨ lowestFree { s.bt with slots := slots i } = none
                ∧ victimOf (slots i) (fun y => decide (first ≤ y ∧ y < first + count)) = none →
              slots (i + 1) = slots i ∧ rows (i + 1) = rows i ∧ missing (i + 1) = missing i + 1)))
      ∧ (∀ k b, bindingAt s.bt.slots k = some b → first ≤ b.extent → b.extent < first + count →
          bindingAt t.bt.slots k = some b
          ∨ bindingAt t.bt.slots k = some { b with owners := b.owners ||| BitVec.ofNat 4 (2 ^ owner) })
      ∧ (∀ k, inLog t.mju.log k = true ↔ inLog s.mju.log k = true
          ∨ { persisted s.bt.slots k with heat := 0 } ≠ { persisted t.bt.slots k with heat := 0 })
      ∧ t = { s with
          bt := { s.bt with slots := t.bt.slots }, ct := { s.ct with rows := t.ct.rows }
          pu := { s.pu with scansOwed := s.pu.scansOwed + 1 }
          mju := { s.mju with log := t.mju.log }, lif := { s.lif with deltaAsking := t.lif.deltaAsking }
          }.answered rest f.tag (.shortfall (missing count)))
  ∧ (∀ (s : State) (f : Frame) (rest : List Frame), s.mju.life = .active → s.turn 0x30#8 f rest → mapLaw s = true →
    s.roomRule 240 .pin f rest)

/-- UNPIN of 1 to 64 extents and UNPIN_ALL (R146, R147): the owner leaves every owner set of the range, or all, and the
reply carries how many; a HELD binding left unpinned with nothing valid is released, a condemned one apart, and
every other slot stays. The log has an entry for each binding so changed (R18). A release starts one picker run, and
without one none is started (R63, log 4). Nothing else changes. Premise: an owner with no alert, and room for every
entry; RETRY is answered for want of room for more than 240 entries alone (R146, R155). -/
def Obligations.UnpinRemovesTheOwner : Prop :=
  (∀ (s : State) (f : Frame) (rest : List Frame) (owner first count : Nat) (c : Instr) (hit : Binding → Prop)
    (freed : Binding → Prop),
    s.mju.life = .active → s.turn 0x31#8 f rest → f.body.length = 6 → mapLaw s = true →
    fieldAt f.body 0 1 = owner → owner ≤ 3 → fieldAt f.body 1 4 = first → fieldAt f.body 5 1 = count →
    count ≤ 64 → s.pu.alert owner = none →
    (c = .unpin ∧ 1 ≤ count ∧ first + count ≤ s.bt.e ∧ s.mju.log.length ≤ 176
        ∧ (∀ b : Binding, hit b ↔ first ≤ b.extent ∧ b.extent < first + count ∧ b.owners.getLsbD owner = true)
      ∨ c = .unpinAll ∧ count = 0 ∧ s.mju.log.length + pinnedCount s.bt.slots ≤ 240
        ∧ ∀ b : Binding, hit b ↔ b.owners.getLsbD owner = true) →
    (∀ b : Binding, freed b ↔ hit b ∧ b.owners = BitVec.ofNat 4 (2 ^ owner) ∧ b.state = .held ∧ b.valid = 0#64
      ∧ b.strikes < 2) →
    ∃ (t : State) (ks : List Nat), exec c s = .next t
      ∧ ks.Nodup ∧ (∀ k, k ∈ ks ↔ ∃ b, bindingAt s.bt.slots k = some b ∧ hit b)
      ∧ (∀ k b, bindingAt s.bt.slots k = some b → ¬hit b → bindingAt t.bt.slots k = some b)
      ∧ (∀ k b left, bindingAt s.bt.slots k = some b → hit b → left = b.owners &&& ~~~(BitVec.ofNat 4 (2 ^ owner)) →
          inLog t.mju.log k = true
          ∧ (freed b → tget t.bt.slots k = none)
          ∧ (left ≠ 0#4 ∨ b.state ≠ .held ∨ b.valid ≠ 0#64 →
              bindingAt t.bt.slots k = some { b with owners := left }))
      ∧ (∀ k, bindingAt s.bt.slots k = none → tget t.bt.slots k = tget s.bt.slots k)
      ∧ ((∃ k b, bindingAt s.bt.slots k = some b ∧ freed b) → t.au.runsOwed = s.au.runsOwed + 1)
      ∧ ((∀ k b, bindingAt s.bt.slots k = some b → ¬freed b) → t.au.runsOwed = s.au.runsOwed)
      ∧ ((∀ k b, bindingAt s.bt.slots k = some b → hit b → b.strikes < 2) → t.pu = s.pu)
      ∧ t = { s with
          bt := { s.bt with slots := t.bt.slots }, au := { s.au with runsOwed := t.au.runsOwed }, pu := t.pu
          mju := { s.mju with log := t.mju.log }, lif := { s.lif with deltaAsking := t.lif.deltaAsking }
          }.answered rest f.tag (.released ks.length))
  ∧ (∀ (s : State) (f : Frame) (rest : List Frame) (c : Instr), s.mju.life = .active → s.turn 0x31#8 f rest →
    mapLaw s = true → c = .unpin ∨ c = .unpinAll → s.roomRule 240 c f rest)

/-! ### COMPLETE -/

/-- COMPLETE is refused BAD-FIELD for a code outside the seven, then LATE for a tag that no issued order has (R107, R116,
R184), and changes nothing but the condition record. -/
def Obligations.CompleteRefused : Prop :=
  ∀ (s : State) (f : Frame) (rest : List Frame), s.mju.life = .active → s.turn 0x40#8 f rest → f.body.length = 11 →
    (6 < fieldAt f.body 2 1 → exec .complete s = .next (s.refused rest f .form .badField 2))
    ∧ (fieldAt f.body 2 1 ≤ 6 → (∀ o ∈ s.ou.issued, o.tag.toNat ≠ fieldAt f.body 0 2) →
      exec .complete s = .next (s.refused rest f .order .late (fieldAt f.body 0 2)))

/-- A COMPLETE with code DONE for an issued order (R107 to R109, R4, R10, R136): the whole block set counts as copied. A
FILL adds it to valid, less the overtaken blocks; a DRAIN takes it from dirty, less the redirtied ones, and moves
dirty-since. The order ends; a slot that is not condemned comes to HELD, and a condemned one that is clean retires.
The order, its tag and an unsent frame go, and the drain-all flag with the last dirty binding (R131). A slot that
comes to HELD pinned starts a refill scan (R148, log 4), and every alert stays; the owners of one that retires are
alerted PINS-DROPPED (R16). Premise: room for an entry (R107). -/
def Obligations.CompleteDoneEndsTheOrder : Prop :=
  ∀ (s : State) (f : Frame) (rest : List Frame) (tag : Tag) (o : Issued) (b : Binding) (v d : BlockSet),
    s.mju.life = .active → s.turn 0x40#8 f rest → f.body.length = 11 → tag = BitVec.ofNat 16 (fieldAt f.body 0 2) →
    fieldAt f.body 2 1 = 0 → issuedWith s.ou.issued tag = some o → bindingAt s.bt.slots o.order.slot = some b →
    s.mju.log.length < 256 →
    v = (if o.order.queue = .drain then b.valid else b.valid ||| (o.blocks &&& ~~~(b.overtaken.getD 0#64))) →
    d = (if o.order.queue = .drain then b.dirty &&& ~~~(o.blocks &&& ~~~(b.redirtied.getD 0#64)) else b.dirty) →
    ∃ t, exec .complete s = .next t
      ∧ (b.strikes < 2 ∨ d ≠ 0#64 →
          bindingAt t.bt.slots o.order.slot = some { b with
            state := .held, valid := v, dirty := d, overtaken := none, redirtied := none, tag := none
            dirtySince := if o.order.queue = .drain then
                (if d = 0#64 then none else if d = b.dirty then b.dirtySince else some s.seconds)
              else b.dirtySince }
          ∧ t.pu = { s.pu with scansOwed := s.pu.scansOwed + (if b.owners ≠ 0#4 then 1 else 0) })
      ∧ (2 ≤ b.strikes → d = 0#64 →
          tget t.bt.slots o.order.slot = some .retired
          ∧ inLog t.mju.log o.order.slot = true ∧ t.pu.scansOwed = s.pu.scansOwed
          ∧ ∀ owner, owner ≤ 3 → t.pu.alert owner =
              if b.owners.getLsbD owner then some .pinsDropped else s.pu.alert owner)
      ∧ (∀ k, k ≠ o.order.slot → tget t.bt.slots k = tget s.bt.slots k)
      ∧ (v ≠ b.valid ∨ d ≠ b.dirty → inLog t.mju.log o.order.slot = true)
      ∧ t.ou = { s.ou with issued := s.ou.issued.filter fun p => p.tag ≠ tag }
      ∧ t.psm = { s.psm with
          restRef := if s.psm.platter = .ready then some s.seconds else s.psm.restRef
          drainAll := s.psm.drainAll && decide (dirtyCount t.bt.slots ≠ 0) }
      ∧ t = { s with
          bt := { s.bt with slots := t.bt.slots }, ou := t.ou, psm := t.psm, pu := t.pu
          mju := { s.mju with log := t.mju.log }
          lif := { s.lif with
            orderFrames := s.lif.orderFrames.filter fun p => p.tag ≠ tag, deltaAsking := t.lif.deltaAsking }
          }.answered rest f.tag .bare

/-- A COMPLETE of an issued order with a code other than DONE and FLASH-FAULT (R107 to R112, R117). The copied set
within the order's block set is merged as for DONE (R108, R109), and a PLATTER-FAULT is recorded. An order that this
finishes, a FILL with every block valid or a DRAIN with none dirty, ends. Any other goes back to the head of its
queue and the retry count rises: PARKED, REFUSED and ABORTED lose no attempt, PARTIAL and PLATTER-FAULT one; it is
ready, with backoff interval 0, or for REFUSED in backoff for 1 second, then doubled up to 60. One that loses its
last attempt is exhausted (R111): a heat fill's slot is released and its extent barred (R9, R50) if the binding is
clean and unpinned, else it comes to HELD, and a picker run is started (log 4); a pin fill or a drain leaves its
slot HELD and halts its queue. The order's tag and an unsent frame go, the rest reference moves (R136), and the
drain-all flag goes with the last dirty binding (R131). Premise: room for an entry, where one is needed (R107). -/
def Obligations.CompleteReturnsTheOrder : Prop :=
  ∀ (s : State) (f : Frame) (rest : List Frame) (tag : Tag) (o : Issued) (b held : Binding) (code interval : Nat)
    (copied v d : BlockSet) (faulted : State),
    s.mju.life = .active → s.turn 0x40#8 f rest → f.body.length = 11 → tag = BitVec.ofNat 16 (fieldAt f.body 0 2) →
    fieldAt f.body 2 1 = code → copied = BitVec.ofNat 64 (fieldAt f.body 3 8) &&& o.blocks →
    issuedWith s.ou.issued tag = some o → bindingAt s.bt.slots o.order.slot = some b →
    code = 1 ∨ code = 2 ∨ code = 3 ∨ code = 5 ∨ code = 6 →
    v = (if o.order.queue = .drain then b.valid else b.valid ||| (copied &&& ~~~(b.overtaken.getD 0#64))) →
    d = (if o.order.queue = .drain then b.dirty &&& ~~~(copied &&& ~~~(b.redirtied.getD 0#64)) else b.dirty) →
    held = { b with
      state := .held, valid := v, dirty := d, overtaken := none, redirtied := none, tag := none
      dirtySince := if o.order.queue = .drain then
          (if d = 0#64 then none else if d = b.dirty then b.dirtySince else some s.seconds)
        else b.dirtySince } →
    interval = (if code = 3 then if o.order.backoff = 0 then 1 else min 60 (2 * o.order.backoff) else 0) →
    faulted = (if code = 5 then s.recordFault .platterFault (.extent o.order.extent) else s) →
    s.mju.log.length < 256 ∨ v = b.valid ∧ d = b.dirty ∧ (code = 1 ∨ code = 5 → 2 ≤ o.order.attempts)
      ∧ (b.strikes < 2 ∨ d ≠ 0#64) →
    ∃ t, exec .complete s = .next t
      ∧ (∀ k, k ≠ o.order.slot → tget t.bt.slots k = tget s.bt.slots k)
      ∧ (v ≠ b.valid ∨ d ≠ b.dirty → inLog t.mju.log o.order.slot = true)
      ∧ t.psm = { s.psm with
          restRef := if s.psm.platter = .ready then some s.seconds else s.psm.restRef
          drainAll := s.psm.drainAll && decide (dirtyCount t.bt.slots ≠ 0) }
      ∧ t = { s with
          bt := { s.bt with slots := t.bt.slots }, ct := { s.ct with rows := t.ct.rows }, au := t.au, ou := t.ou
          psm := t.psm, pu := t.pu, cfu := t.cfu, mju := { s.mju with log := t.mju.log }
          lif := { s.lif with
            orderFrames := s.lif.orderFrames.filter fun p => p.tag ≠ tag, deltaAsking := t.lif.deltaAsking }
          }.answered rest f.tag .bare
      ∧ ((if o.order.queue = .drain then d = 0#64 else v = BitVec.allOnes 64 ∨ 2 ≤ b.strikes) →
        (b.strikes < 2 ∨ d ≠ 0#64 → bindingAt t.bt.slots o.order.slot = some held
          ∧ t.pu = { s.pu with scansOwed := s.pu.scansOwed + (if b.owners ≠ 0#4 then 1 else 0) })
        ∧ (2 ≤ b.strikes → d = 0#64 → tget t.bt.slots o.order.slot = some .retired
          ∧ inLog t.mju.log o.order.slot = true ∧ t.pu.scansOwed = s.pu.scansOwed
          ∧ ∀ owner, owner ≤ 3 → t.pu.alert owner =
              if b.owners.getLsbD owner then some .pinsDropped else s.pu.alert owner)
        ∧ t.ou = { s.ou with issued := s.ou.issued.filter fun p => p.tag ≠ tag }
        ∧ t.cfu = { faulted.cfu with cond := ⟨.none, .none, 0, 0#8, 0#16⟩ } ∧ t.ct = s.ct ∧ t.au = s.au)
      ∧ ((if o.order.queue = .drain then d ≠ 0#64 else v ≠ BitVec.allOnes 64 ∧ b.strikes < 2) →
        code ≠ 1 ∧ code ≠ 5 ∨ 2 ≤ o.order.attempts →
        bindingAt t.bt.slots o.order.slot = some { held with state := b.state }
        ∧ t.ou = { s.ou.setQueue o.order.queue { s.ou.queue o.order.queue with
              waiting := ⟨{ o.order with
                  attempts := if code = 1 ∨ code = 5 then o.order.attempts - 1 else o.order.attempts
                  backoff := interval },
                if code = 3 then some (s.seconds + BitVec.ofNat 32 interval) else none⟩
                :: (s.ou.queue o.order.queue).waiting } with
            issued := s.ou.issued.filter fun p => p.tag ≠ tag
            retryCount := min 65535 (s.ou.retryCount + 1) }
        ∧ (v = b.valid → d = b.dirty → t.mju = s.mju)
        ∧ t.cfu = { faulted.cfu with cond := ⟨.none, .none, 0, 0#8, 0#16⟩ }
        ∧ t.ct = s.ct ∧ t.au = s.au ∧ t.pu = s.pu)
      ∧ ((if o.order.queue = .drain then d ≠ 0#64 else v ≠ BitVec.allOnes 64 ∧ b.strikes < 2) →
        code = 1 ∨ code = 5 → o.order.attempts = 1 →
        t.cfu = { (faulted.recordFault .orderExhausted (.queue o.order.queue)).cfu with
          cond := ⟨.none, .none, 0, 0#8, 0#16⟩ }
        ∧ (o.order.queue = .heatFill → d = 0#64 → b.owners = 0#4 →
          tget t.bt.slots o.order.slot = none ∧ inLog t.mju.log o.order.slot = true
          ∧ t.pu = s.pu ∧ s.barRule b.extent t.ct.rows)
        ∧ (o.order.queue ≠ .heatFill ∨ d ≠ 0#64 ∨ b.owners ≠ 0#4 →
          bindingAt t.bt.slots o.order.slot = some held ∧ t.ct = s.ct
          ∧ t.pu = { s.pu with scansOwed := s.pu.scansOwed + (if b.owners ≠ 0#4 then 1 else 0) })
        ∧ (o.order.queue = .heatFill →
          t.au = { s.au with runsOwed := s.au.runsOwed + 1 }
          ∧ t.ou = { s.ou with issued := s.ou.issued.filter fun p => p.tag ≠ tag })
        ∧ (o.order.queue ≠ .heatFill →
          t.au = s.au
          ∧ t.ou = { s.ou.setQueue o.order.queue { s.ou.queue o.order.queue with halted := true } with
              issued := s.ou.issued.filter fun p => p.tag ≠ tag }))

/-- A FLASH-FAULT (R13, R14, R108 to R112, R117): the fault is recorded and a strike added, up to 2, and the copied set
within the order's block set is merged as for DONE. An order that this finishes ends: a DRAIN with none dirty, a
FILL with every block valid, or a FILL at its second strike, which is condemned and not exhausted; the slot comes to
HELD, or retires if it is condemned and clean. Any other with two attempts or more left goes back to the head of its
queue with one attempt less, a DRAIN whether or not its slot is now condemned; at the last attempt it is exhausted
(R111): a clean, unpinned heat fill's slot is released and its extent barred (R9, R50), another comes to HELD, a
picker run starts for a heat fill (log 4), and a pin fill or a drain halts its queue. The order's tag and an unsent
frame go, the rest reference moves (R136), and the drain-all flag goes with the last dirty binding (R131). Premise:
room for an entry (R107); COMPLETE is answered RETRY for want of room for more than 256 entries alone (R155). -/
def Obligations.FlashFaultStrikes : Prop :=
  (∀ (s : State) (f : Frame) (rest : List Frame) (tag : Tag) (o : Issued) (b held : Binding) (strikes : Nat)
    (copied v d : BlockSet) (faulted : State),
    s.mju.life = .active → s.turn 0x40#8 f rest → f.body.length = 11 → tag = BitVec.ofNat 16 (fieldAt f.body 0 2) →
    fieldAt f.body 2 1 = 4 → copied = BitVec.ofNat 64 (fieldAt f.body 3 8) &&& o.blocks →
    issuedWith s.ou.issued tag = some o → bindingAt s.bt.slots o.order.slot = some b → s.mju.log.length < 256 →
    strikes = min 2 (b.strikes + 1) →
    v = (if o.order.queue = .drain then b.valid else b.valid ||| (copied &&& ~~~(b.overtaken.getD 0#64))) →
    d = (if o.order.queue = .drain then b.dirty &&& ~~~(copied &&& ~~~(b.redirtied.getD 0#64)) else b.dirty) →
    held = { b with
      state := .held, valid := v, dirty := d, overtaken := none, redirtied := none, tag := none, strikes := strikes
      dirtySince := if o.order.queue = .drain then
          (if d = 0#64 then none else if d = b.dirty then b.dirtySince else some s.seconds)
        else b.dirtySince } →
    faulted = s.recordFault .flashFault (.slot o.order.slot) →
    ∃ t, exec .complete s = .next t
      ∧ (∀ k, k ≠ o.order.slot → tget t.bt.slots k = tget s.bt.slots k)
      ∧ (v ≠ b.valid ∨ d ≠ b.dirty ∨ strikes ≠ b.strikes → inLog t.mju.log o.order.slot = true)
      ∧ t.psm = { s.psm with
          restRef := if s.psm.platter = .ready then some s.seconds else s.psm.restRef
          drainAll := s.psm.drainAll && decide (dirtyCount t.bt.slots ≠ 0) }
      ∧ t = { s with
          bt := { s.bt with slots := t.bt.slots }, ct := { s.ct with rows := t.ct.rows }, au := t.au, ou := t.ou
          psm := t.psm, pu := t.pu, cfu := t.cfu, mju := { s.mju with log := t.mju.log }
          lif := { s.lif with
            orderFrames := s.lif.orderFrames.filter fun p => p.tag ≠ tag, deltaAsking := t.lif.deltaAsking }
          }.answered rest f.tag .bare
      ∧ ((if o.order.queue = .drain then d = 0#64 else v = BitVec.allOnes 64 ∨ 2 ≤ strikes) →
        (strikes < 2 ∨ d ≠ 0#64 → bindingAt t.bt.slots o.order.slot = some held
          ∧ t.pu = { s.pu with scansOwed := s.pu.scansOwed + (if b.owners ≠ 0#4 then 1 else 0) })
        ∧ (2 ≤ strikes → d = 0#64 → tget t.bt.slots o.order.slot = some .retired
          ∧ inLog t.mju.log o.order.slot = true ∧ t.pu.scansOwed = s.pu.scansOwed
          ∧ ∀ owner, owner ≤ 3 → t.pu.alert owner =
              if b.owners.getLsbD owner then some .pinsDropped else s.pu.alert owner)
        ∧ t.ou = { s.ou with issued := s.ou.issued.filter fun p => p.tag ≠ tag }
        ∧ t.cfu = { faulted.cfu with cond := ⟨.none, .none, 0, 0#8, 0#16⟩ } ∧ t.ct = s.ct ∧ t.au = s.au)
      ∧ ((if o.order.queue = .drain then d ≠ 0#64 else v ≠ BitVec.allOnes 64 ∧ strikes < 2) → 2 ≤ o.order.attempts →
        bindingAt t.bt.slots o.order.slot = some { held with state := b.state }
        ∧ t.ou = { s.ou.setQueue o.order.queue { s.ou.queue o.order.queue with
              waiting := ⟨{ o.order with attempts := o.order.attempts - 1, backoff := 0 }, none⟩
                :: (s.ou.queue o.order.queue).waiting } with
            issued := s.ou.issued.filter fun p => p.tag ≠ tag
            retryCount := min 65535 (s.ou.retryCount + 1) }
        ∧ t.cfu = { faulted.cfu with cond := ⟨.none, .none, 0, 0#8, 0#16⟩ }
        ∧ t.ct = s.ct ∧ t.au = s.au ∧ t.pu = s.pu)
      ∧ ((if o.order.queue = .drain then d ≠ 0#64 else v ≠ BitVec.allOnes 64 ∧ strikes < 2) → o.order.attempts = 1 →
        t.cfu = { (faulted.recordFault .orderExhausted (.queue o.order.queue)).cfu with
          cond := ⟨.none, .none, 0, 0#8, 0#16⟩ }
        ∧ (o.order.queue = .heatFill → d = 0#64 → b.owners = 0#4 →
          tget t.bt.slots o.order.slot = none ∧ inLog t.mju.log o.order.slot = true ∧ t.pu = s.pu
          ∧ s.barRule b.extent t.ct.rows)
        ∧ (o.order.queue ≠ .heatFill ∨ d ≠ 0#64 ∨ b.owners ≠ 0#4 →
          bindingAt t.bt.slots o.order.slot = some held ∧ t.ct = s.ct
          ∧ t.pu = { s.pu with scansOwed := s.pu.scansOwed + (if b.owners ≠ 0#4 then 1 else 0) })
        ∧ (o.order.queue = .heatFill →
          t.au = { s.au with runsOwed := s.au.runsOwed + 1 }
          ∧ t.ou = { s.ou with issued := s.ou.issued.filter fun p => p.tag ≠ tag })
        ∧ (o.order.queue ≠ .heatFill →
          t.au = s.au
          ∧ t.ou = { s.ou.setQueue o.order.queue { s.ou.queue o.order.queue with halted := true } with
              issued := s.ou.issued.filter fun p => p.tag ≠ tag })))
  ∧ (∀ (s : State) (f : Frame) (rest : List Frame), s.mju.life = .active → s.turn 0x40#8 f rest → mapLaw s = true →
    s.roomRule 256 .complete f rest)

/-! ### Queue control, DRAIN-ALL, POLICY, STATUS -/

/-- In ACTIVE, SKIP_ON and SKIP_OFF set and clear the named queue's skip flag, RESUME clears its halted flag and, for
pin fill, starts a refill scan (R118, R148; the scan is kept as a count of runs, log 4); a queue outside the three is
refused BAD-FIELD with shortfall 0, an action outside the three with 1 (R184; the model gives a frame with such an
action to SKIP_ON, log 10); outside ACTIVE every QUEUE-CONTROL is refused. DRAIN_ALL sets the drain-all flag and
starts a drain picker run (R131; a count of runs, log 4) when a binding is dirty; with none dirty the flag stays.
Nothing else changes. -/
def Obligations.QueueControlAndDrainAll : Prop :=
  (∀ (s : State) (f : Frame) (rest : List Frame), s.mju.life = .active → s.turn 0x41#8 f rest → f.body.length = 2 →
    (∀ q, queueOf (fieldAt f.body 0 1) = some q →
      (fieldAt f.body 1 1 = 0 → exec .skipOn s = .next ({ s with
        ou := s.ou.setQueue q { s.ou.queue q with skip := true } }.answered rest f.tag .bare))
      ∧ (fieldAt f.body 1 1 = 1 → exec .skipOff s = .next ({ s with
        ou := s.ou.setQueue q { s.ou.queue q with skip := false } }.answered rest f.tag .bare))
      ∧ (fieldAt f.body 1 1 = 2 → exec .resume s = .next ({ s with
        ou := s.ou.setQueue q { s.ou.queue q with halted := false }
        pu := { s.pu with scansOwed := s.pu.scansOwed + (if q = QueueId.pinFill then 1 else 0) }
        }.answered rest f.tag .bare))
      ∧ (2 < fieldAt f.body 1 1 → exec .skipOn s = .next (s.refused rest f .form .badField 1)))
    ∧ (2 < fieldAt f.body 0 1 → exec (requestRow f).command s = .next (s.refused rest f .form .badField 0)))
  ∧ (∀ (s : State) (f : Frame) (rest : List Frame), s.turn 0x41#8 f rest →
    (s.mju.life = .unbound → exec (requestRow f).command s = .next (s.refused rest f .phase .unbound 0))
    ∧ (s.mju.life = .importing → exec (requestRow f).command s = .next (s.refused rest f .phase .importing 0)))
  ∧ (∀ (s : State) (f : Frame) (rest : List Frame), s.mju.life = .active → s.turn 0x42#8 f rest → f.body = [] →
    (dirtyCount s.bt.slots ≠ 0 → exec .drainAll s = .next ({ s with
      psm := { s.psm with drainAll := true, drainRunsOwed := s.psm.drainRunsOwed + 1 } }.answered rest f.tag .bare))
    ∧ (dirtyCount s.bt.slots = 0 → exec .drainAll s = .next (s.answered rest f.tag .bare)))

/-- POLICY in any lifecycle, with a body of 0 to 16 pairs of an id and a value (R176, R177, R184). If an id is outside 1
to 18 the request is refused BAD-FIELD, naming the offset of the first such pair, and no pair is applied. Else each
parameter takes the value of the last pair with its id, clamped to its range, or stays, and the reply carries all 18
values. T is lowered to a new B_max (R60), pair by pair: the model's choice where a later pair overwrites it (log
18). Nothing else changes. -/
def Obligations.PolicyClamps : Prop :=
  ∀ (s : State) (f : Frame) (rest : List Frame) (m : Nat) (id value : Nat → Nat) (last : Nat → Option Nat),
    s.turn 0x50#8 f rest → f.body.length = 5 * m → m ≤ 16 →
    (∀ i, id i = fieldAt f.body (5 * i) 1) → (∀ i, value i = fieldAt f.body (5 * i + 1) 4) →
    (∀ a, last a = (((List.range m).filter fun i => id i == a).getLast?).map value) →
    (∀ i, i < m → id i = 0 ∨ 18 < id i → (∀ j, j < i → 1 ≤ id j ∧ id j ≤ 18) →
      exec .policy s = .next (s.refused rest f .form .badField (5 * i)))
    ∧ ((∀ i, i < m → 1 ≤ id i ∧ id i ≤ 18) → ∃ p : Policy,
      exec .policy s = .next ({ s with
        policy := p
        au := { s.au with tokens := (List.range m).foldl (fun tokens i =>
          if id i = 3 then min tokens (max 64 (min 16384 (value i))) else tokens) s.au.tokens } }.answered rest f.tag (.policy p))
      ∧ p = ⟨(last 1).elim s.policy.aBase fun v => max 16 (min 2048 v),
          (last 2).elim s.policy.hyst fun v => min 1024 v,
          (last 3).elim s.policy.bMax fun v => max 64 (min 16384 v),
          (last 4).elim s.policy.rate fun v => min 600 v,
          p.pc,
          p.pr,
          (last 7).elim s.policy.lifetime fun v => max 10 (min 1023 v),
          (last 8).elim s.policy.barPeriod fun v => max 60 (min 65535 v),
          (last 9).elim s.policy.streamThreshold fun v => max 16 (min 4096 v),
          (last 10).elim s.policy.sLim fun v => min s.bt.n v,
          (last 11).elim s.policy.hHold fun v => max 60 (min 3600 v),
          (last 12).elim s.policy.drainDelay fun v => min 600 v,
          (last 13).elim s.policy.pinLimit fun v => max (pinnedCount s.bt.slots) (min s.bt.n v),
          (last 14).elim s.policy.orderTimeout fun v => max 5 (min 255 v),
          (last 15).elim s.policy.flushCount fun v => max 1 (min 16 v),
          (last 16).elim s.policy.deltaDelay fun v => min 60 v,
          (last 17).elim s.policy.restDelay fun v => max 5 (min 600 v),
          (last 18).elim s.policy.window fun v => max 1 (min 8 v)⟩
      ∧ (last 5 = none → p.pc = s.policy.pc) ∧ (last 6 = none → p.pr = s.policy.pr)
      ∧ (∀ v q, last 5 = some v ∧ q = p.pc ∨ last 6 = some v ∧ q = p.pr →
          q ∈ [1, 2, 4, 8, 16, 32] ∧ (v = 0 → q = 1) ∧ (0 < v → q ≤ v) ∧ (v < 2 * q ∨ q = 32)))

/-- STATUS in any lifecycle (R178, R26, R44, R7, R61): the reply reports what the tables hold, the slots of each of the
five states counted over the N slots; the lapse count and the untracked count are zeroed. Nothing else changes.
Premise: the map law, for the five counts alone. -/
def Obligations.StatusReports : Prop :=
  ∀ (s : State) (f : Frame) (rest : List Frame), s.turn 0x51#8 f rest → f.body = [] →
    ∃ b : StatusBody, exec .status s = .next ({ s with
        hu := { s.hu with lapseCount := 0 }, ct := { s.ct with untracked := 0 } }.answered rest f.tag (.status b))
      ∧ (mapLaw s = true →
          b.free = (List.range s.bt.n).countP (fun k => decide (tget s.bt.slots k = none))
          ∧ b.filling = (List.range s.bt.n).countP (fun k =>
              (bindingAt s.bt.slots k).any fun c => decide (c.state = .filling))
          ∧ b.held = (List.range s.bt.n).countP (fun k =>
              (bindingAt s.bt.slots k).any fun c => decide (c.state = .held))
          ∧ b.draining = (List.range s.bt.n).countP (fun k =>
              (bindingAt s.bt.slots k).any fun c => decide (c.state = .draining))
          ∧ b.retired = (List.range s.bt.n).countP (fun k => decide (tget s.bt.slots k = some .retired))
          ∧ b.free + b.filling + b.held + b.draining + b.retired = b.n)
      ∧ b.life = s.mju.life ∧ b.n = s.bt.n ∧ b.e = s.bt.e ∧ b.window = s.policy.window
      ∧ b.dirtyCount = (bindingsOf s.bt.slots).countP (fun kb => decide (kb.2.dirty ≠ 0#64))
      ∧ b.pinnedCount = (bindingsOf s.bt.slots).countP (fun kb => decide (kb.2.owners ≠ 0#4))
      ∧ b.tokens = s.au.tokens
      ∧ b.aEff = s.policy.aBase + s.policy.aBase * (s.policy.bMax - s.au.tokens) / s.policy.bMax
      ∧ b.stage = holdStage s ∧ b.oldestAge = oldestDirtyAge s.seconds s.bt.slots
      ∧ b.platter = s.psm.platter ∧ b.supply = s.psm.supply
      ∧ b.pinQueue = s.ou.pinFill.waiting.length ∧ b.pinSkip = s.ou.pinFill.skip ∧ b.pinHalted = s.ou.pinFill.halted
      ∧ b.heatQueue = s.ou.heatFill.waiting.length ∧ b.heatSkip = s.ou.heatFill.skip
      ∧ b.heatHalted = s.ou.heatFill.halted
      ∧ b.drainQueue = s.ou.drain.waiting.length ∧ b.drainSkip = s.ou.drain.skip ∧ b.drainHalted = s.ou.drain.halted
      ∧ b.issued = s.ou.issued.length ∧ b.logLength = s.mju.log.length ∧ b.stale = s.mju.stale
      ∧ b.exporting = s.mju.exporting.isSome ∧ b.lapseCount = s.hu.lapseCount ∧ b.untracked = s.ct.untracked
      ∧ b.faultCount = s.cfu.faults.length ∧ b.seconds = s.seconds

/-- The hold stage (R125, R126): CALM with no dirty-since, else by the oldest dirty age against H_hold. The oldest dirty
age is the age of some dirty binding's dirty-since, no other is older, and it is 0 where there is none. -/
def Obligations.HoldStages : Prop :=
  ∀ (s : State) (a h : Nat), a = oldestDirtyAge s.seconds s.bt.slots → h = s.policy.hHold →
    (dirtyAges s.seconds s.bt.slots = [] → holdStage s = .calm ∧ a = 0)
    ∧ (dirtyAges s.seconds s.bt.slots ≠ [] →
      (∃ kb ∈ bindingsOf s.bt.slots, ∃ u, kb.2.dirty ≠ 0#64 ∧ kb.2.dirtySince = some u ∧ a = age s.seconds u)
      ∧ (a < h / 2 → holdStage s = .calm)
      ∧ (h / 2 ≤ a → a < 7 * h / 8 → holdStage s = .soon)
      ∧ (h / 2 ≤ a → 7 * h / 8 ≤ a → a < h → holdStage s = .urgent)
      ∧ (h ≤ a → holdStage s = .closed))
    ∧ (dirtyAges s.seconds s.bt.slots = [] ↔
      ∀ kb ∈ bindingsOf s.bt.slots, kb.2.dirty = 0#64 ∨ kb.2.dirtySince = none)
    ∧ (∀ kb ∈ bindingsOf s.bt.slots, ∀ u, kb.2.dirty ≠ 0#64 → kb.2.dirtySince = some u → age s.seconds u ≤ a)

/-! ### Conditions and faults -/

/-- CONDITION, FAULTS and FAULTS_CLEAR in any lifecycle (R186, R188). CONDITION's reply carries the record and the retry
count, and the record stays; FAULTS reports the overflow count and every entry and changes none; FAULTS_CLEAR
empties the table and zeroes the count. Each is refused BAD-LENGTH with a body, the record then naming the refused
request itself, and no entry changes. -/
def Obligations.ConditionAndFaultsReport : Prop :=
  ∀ (s : State) (f : Frame) (rest : List Frame),
    (s.turn 0x52#8 f rest →
      (f.body = [] →
        exec .condition s = .next (s.replied rest f.tag (.ok (.condition s.cfu.cond s.ou.retryCount))))
      ∧ (f.body ≠ [] → exec .condition s = .next (s.refused rest f .form .badLength f.body.length)
        ∧ (s.refused rest f .form .badLength f.body.length).cfu.cond = ⟨.form, .badLength, f.body.length, 0x52#8, f.tag⟩))
    ∧ (s.turn 0x53#8 f rest →
      (f.body = [] → exec .faults s = .next (s.answered rest f.tag (.faults s.cfu.overflow s.cfu.faults)))
      ∧ (f.body ≠ [] → exec .faults s = .next (s.refused rest f .form .badLength f.body.length)))
    ∧ (s.turn 0x54#8 f rest →
      (f.body = [] → exec .faultsClear s = .next ({ s with
        cfu := { s.cfu with faults := [], overflow := 0 } }.answered rest f.tag .bare))
      ∧ (f.body ≠ [] → exec .faultsClear s = .next (s.refused rest f .form .badLength f.body.length)))

/-- The recording of a fault (R187): an entry of its kind and subject folds it in its place, full table or not; else it
joins the end of a table of fewer than 8; else the overflow count rises. Nothing else changes, and a table with no two
entries of one kind and subject stays so. -/
def Obligations.FaultRecording : Prop :=
  ∀ (s : State) (kind : FaultKind) (subject : Subject),
    (∀ before e behind, s.cfu.faults = before ++ e :: behind → e.kind = kind → e.subject = subject →
      (∀ e' ∈ before, ¬(e'.kind = kind ∧ e'.subject = subject)) →
      s.recordFault kind subject = { s with cfu := { s.cfu with
        faults := before ++ { e with repeats := min 255 (e.repeats + 1), last := s.seconds } :: behind } })
    ∧ ((∀ e ∈ s.cfu.faults, ¬(e.kind = kind ∧ e.subject = subject)) →
      (s.cfu.faults.length < 8 → s.recordFault kind subject = { s with cfu := { s.cfu with
        faults := s.cfu.faults ++ [⟨kind, subject, s.seconds, s.seconds, 1⟩] } })
      ∧ (8 ≤ s.cfu.faults.length → s.recordFault kind subject = { s with cfu := { s.cfu with
        overflow := min 65535 (s.cfu.overflow + 1) } }))
    ∧ ((s.cfu.faults.map fun e => (e.kind, e.subject)).Nodup →
      ((s.recordFault kind subject).cfu.faults.map fun e => (e.kind, e.subject)).Nodup)

/-! ### Resets by request -/

/-- RESET_COLD in any lifecycle (R179, R20, R39, R54, R71, R120, R137, R150, R165, R177): every table emptied and every
unit at its values, the policy kept but S_lim and the pin limit, E, the clock and the fault table kept, and of the
link the receiver, the intake, the pull credit and the frame being sent. -/
def Obligations.ResetCold : Prop :=
  ∀ (s : State) (f : Frame) (rest : List Frame), s.turn 0x5F#8 f rest → f.body = [1#8] →
    exec .resetCold s = .next ({ s with
      policy := { s.policy with sLim := 0, pinLimit := 0 }
      bt := ⟨0, s.bt.e, []⟩
      hu := ⟨[], false, 0, [], 0⟩
      ct := ⟨[], 0⟩
      au := ⟨s.policy.bMax, 0, 0⟩
      ou := ⟨⟨[], false, false⟩, ⟨[], false, false⟩, ⟨[], false, false⟩, [], 1#16, .drain, none, 0⟩
      psm := ⟨.resting, .battery, false, none, none, none, false, 0, false, false, false⟩
      pu := ⟨some .pinsLost, some .pinsLost, some .pinsLost, some .pinsLost, 0⟩
      mju := ⟨.unbound, [], none, false, none, 0, 0⟩
      lif := { s.lif with orderFrames := [], advice := none, deltaAsking := false } }.answered rest f.tag .bare)

/-- RESET_WARM (R180, R21, R16, R40, R55, R72, R121, R138, R151, R166): refused outside ACTIVE, and for another reset
kind (the model gives such a frame to this row, log 10). In ACTIVE every order ends; a FILLING slot comes to HELD,
or is freed when it is empty and unpinned; a DRAINING one comes to HELD; a condemned binding left clean retires, its
owners alerted PINS-DROPPED, and every other alert stays (R16, R151); the log holds those retirements alone, made
now (R154), journal-stale is set and the export stopped; the intake of items is emptied; and a run of the promotion
picker and a refill scan are started (log 4). -/
def Obligations.ResetWarm : Prop :=
  ∀ (s : State) (f : Frame) (rest : List Frame) (byte : Byte), s.turn 0x5F#8 f rest → f.body = [byte] →
    (1 < byte.toNat → exec .resetWarm s = .next (s.refused rest f .form .badField 0))
    ∧ (byte = 0#8 → s.mju.life = .unbound → exec .resetWarm s = .next (s.refused rest f .phase .unbound 0))
    ∧ (byte = 0#8 → s.mju.life = .importing → exec .resetWarm s = .next (s.refused rest f .phase .importing 0))
    ∧ (byte = 0#8 → s.mju.life = .active → mapLaw s = true →
      ∃ t, exec .resetWarm s = .next t
        ∧ (∀ k b, bindingAt s.bt.slots k = some b →
            (b.state = .filling → b.valid = 0#64 → b.owners = 0#4 → tget t.bt.slots k = none)
            ∧ (b.state ≠ .filling ∨ b.valid ≠ 0#64 ∨ b.owners ≠ 0#4 →
                (2 ≤ b.strikes ∧ b.isDirty = false → tget t.bt.slots k = some .retired)
                ∧ (b.strikes < 2 ∨ b.isDirty = true → bindingAt t.bt.slots k = some { b with
                    state := .held, overtaken := none, redirtied := none, tag := none })))
        ∧ (∀ k, bindingAt s.bt.slots k = none → tget t.bt.slots k = tget s.bt.slots k)
        ∧ (∀ k, inLog t.mju.log k = true ↔ ∃ b, bindingAt s.bt.slots k = some b ∧ 2 ≤ b.strikes ∧ b.isDirty = false
            ∧ (b.state ≠ .filling ∨ b.valid ≠ 0#64 ∨ b.owners ≠ 0#4))
        ∧ (∀ e ∈ t.mju.log, e.time = s.seconds)
        ∧ t.ou = { s.ou with
            pinFill := ⟨[], false, false⟩, heatFill := ⟨[], false, false⟩, drain := ⟨[], false, false⟩, issued := [] }
                ∧ t.pu.scansOwed = s.pu.scansOwed + 1
        ∧ (∀ owner, owner ≤ 3 →
            ((∃ k b, bindingAt s.bt.slots k = some b ∧ tget t.bt.slots k = some .retired
                ∧ b.owners.getLsbD owner = true) → t.pu.alert owner = some .pinsDropped)
            ∧ ((∀ k b, bindingAt s.bt.slots k = some b → tget t.bt.slots k = some .retired →
                b.owners.getLsbD owner = false) → t.pu.alert owner = s.pu.alert owner))

        ∧ t = { s with
            bt := { s.bt with slots := t.bt.slots }, ou := t.ou, pu := t.pu
            hu := { s.hu with intake := [], lapse := false }
            au := { s.au with runsOwed := s.au.runsOwed + 1 }
            mju := { s.mju with log := t.mju.log, stale := true, exporting := none }
            lif := { s.lif with orderFrames := [], deltaAsking := t.lif.deltaAsking } }.answered rest f.tag .bare)

/-! ### The up lane -/

/-- SEND_REPLY, SEND_ORDER and SEND_ADVICE with pull credit, when no class ahead of theirs has anything waiting or
asking (R167, R174, R175, R106, R132): the waiting reply, the oldest ORDER frame or the ADVICE frame leaves its
place and is the frame being sent, its body laid out as section 10.7 has it, and one pull is taken; the body of a
REPLY is its status, then key and code for REFER, the fields of the request's kind for OK, and nothing for RETRY and
NEEDS-PLATTER (R174); started while a frame is being sent it follows that frame's last byte, and ATTN does not fall
(log 2). A row of the lane without credit, or out of its turn, starts nothing: where no frame can start, a frame
being sent reaches its last byte there, the lane idle and the credit 0 (R167, log 2); else nothing changes (log 12). -/
def Obligations.FramesAreSent : Prop :=
  (∀ (s : State) (r : Reply), s.laneFor .reply → s.lif.reply = some r →
    exec .sendReply s = .next { s with lif := { s.lif with
      reply := none, credit := s.lif.credit - 1, upLane := some ⟨0x80#8, r.tag, replyBytes r.body⟩ } })
  ∧ (∀ (s : State) (o : OrderFrame) (more : List OrderFrame), s.laneFor .order → s.lif.orderFrames = o :: more →
    exec .sendOrder s = .next { s with lif := { s.lif with
      orderFrames := more, credit := s.lif.credit - 1
      upLane := some ⟨0x81#8, o.tag, leBytes 1 (match o.kind with | .fill => 0 | .drain => 1) ++ leBytes 2 o.slot
        ++ leBytes 4 o.extent ++ leBytes 8 o.blocks.toNat⟩ } })
  ∧ (∀ (s : State) (a : Advice), s.laneFor .advice → s.lif.advice = some a →
    exec .sendAdvice s = .next { s with lif := { s.lif with
      advice := none, credit := s.lif.credit - 1
      upLane := some ⟨0x85#8, 0#16, leBytes 1 (match a.kind with | .spinUp => 0 | .rest => 1)
        ++ leBytes 1 (match a.urgency with | .calm => 0 | .soon => 1 | .urgent => 2 | .closed => 3)
        ++ leBytes 2 a.dirtyCount ++ leBytes 4 a.oldestAge ++ leBytes 2 a.queued⟩ } })
  ∧ replyBytes .retry = [2#8] ∧ replyBytes .needsPlatter = [3#8] ∧ replyBytes (.ok .bare) = [0#8]
  ∧ (∀ (key : CondKey) (code : CondCode), replyBytes (.refer key code) = [1#8]
      ++ leBytes 1 (match key with
          | .none => 0 | .form => 1 | .range => 2 | .phase => 3 | .lost => 4 | .limit => 5
          | .order => 6)
      ++ leBytes 1 (match code with
          | .none => 0 | .unknownKind => 1 | .badLength => 2 | .badField => 3 | .outOfRange => 4
          | .unbound => 5 | .importing => 6 | .alreadyActive => 7 | .noImport => 8 | .pinsLost => 9
          | .mapReplaced => 10 | .pinsDropped => 11 | .importMismatch => 13 | .late => 14))
  ∧ (∀ n e w : Nat, replyBytes (.ok (.attach n e w)) = [0#8] ++ leBytes 2 n ++ leBytes 4 e ++ leBytes 1 w)
  ∧ (∀ v : Nat, replyBytes (.ok (.importPut v)) = [0#8] ++ leBytes 1 v
      ∧ replyBytes (.ok (.shortfall v)) = [0#8] ++ leBytes 1 v
      ∧ replyBytes (.ok (.covered v)) = [0#8] ++ leBytes 2 v
      ∧ replyBytes (.ok (.released v)) = [0#8] ++ leBytes 2 v)
  ∧ (∀ (covered : Nat) (runs : List Run), replyBytes (.ok (.runs covered runs)) = [0#8] ++ leBytes 2 covered
      ++ leBytes 1 runs.length ++ (runs.map fun r => leBytes 4 r.first ++ leBytes 2 r.count
        ++ (match r.tier with | .flash k => 0#8 :: leBytes 2 k | .platter => [1#8, 0#8, 0#8])).flatten)
  ∧ (∀ p : Policy, replyBytes (.ok (.policy p)) = [0#8] ++ leBytes 4 p.aBase ++ leBytes 4 p.hyst ++ leBytes 4 p.bMax
      ++ leBytes 4 p.rate ++ leBytes 4 p.pc ++ leBytes 4 p.pr ++ leBytes 4 p.lifetime ++ leBytes 4 p.barPeriod
      ++ leBytes 4 p.streamThreshold ++ leBytes 4 p.sLim ++ leBytes 4 p.hHold ++ leBytes 4 p.drainDelay
      ++ leBytes 4 p.pinLimit ++ leBytes 4 p.orderTimeout ++ leBytes 4 p.flushCount ++ leBytes 4 p.deltaDelay
      ++ leBytes 4 p.restDelay ++ leBytes 4 p.window)
  ∧ (∀ b : StatusBody, replyBytes (.ok (.status b)) = [0#8]
      ++ leBytes 1 (match b.life with | .unbound => 0 | .importing => 1 | .active => 2)
      ++ leBytes 2 b.n ++ leBytes 4 b.e ++ leBytes 1 b.window ++ leBytes 2 b.free ++ leBytes 2 b.filling
      ++ leBytes 2 b.held ++ leBytes 2 b.draining ++ leBytes 2 b.retired ++ leBytes 2 b.dirtyCount
      ++ leBytes 2 b.pinnedCount ++ leBytes 2 b.tokens ++ leBytes 2 b.aEff
      ++ leBytes 1 (match b.stage with | .calm => 0 | .soon => 1 | .urgent => 2 | .closed => 3) ++ leBytes 4 b.oldestAge
      ++ leBytes 1 (match b.platter with | .resting => 0 | .waking => 1 | .ready => 2 | .parked => 3 | .slowing => 4)
      ++ leBytes 1 (match b.supply with | .mains => 0 | .battery => 1)
      ++ leBytes 1 b.pinQueue ++ leBytes 1 b.heatQueue ++ leBytes 1 b.drainQueue
      ++ leBytes 1 ((if b.pinSkip then 1 else 0) + (if b.heatSkip then 2 else 0) + (if b.drainSkip then 4 else 0)
        + (if b.pinHalted then 8 else 0) + (if b.heatHalted then 16 else 0) + (if b.drainHalted then 32 else 0))
      ++ leBytes 1 b.issued ++ leBytes 2 b.logLength
      ++ leBytes 1 ((if b.stale then 1 else 0) + (if b.exporting then 2 else 0))
      ++ leBytes 2 b.lapseCount ++ leBytes 2 b.untracked ++ leBytes 1 b.faultCount ++ leBytes 4 b.seconds.toNat)
  ∧ (∀ (c : Condition) (retries : Nat), replyBytes (.ok (.condition c retries)) = [0#8]
      ++ leBytes 1 (match c.key with
          | .none => 0 | .form => 1 | .range => 2 | .phase => 3 | .lost => 4 | .limit => 5
          | .order => 6)
      ++ leBytes 1 (match c.code with
          | .none => 0 | .unknownKind => 1 | .badLength => 2 | .badField => 3
          | .outOfRange => 4 | .unbound => 5 | .importing => 6 | .alreadyActive => 7 | .noImport => 8
          | .pinsLost => 9 | .mapReplaced => 10 | .pinsDropped => 11 | .importMismatch => 13 | .late => 14)
      ++ leBytes 2 c.shortfall ++ [c.kind] ++ leBytes 2 c.tag.toNat ++ leBytes 2 retries)
  ∧ (∀ (overflow : Nat) (entries : List FaultEntry), replyBytes (.ok (.faults overflow entries)) = [0#8]
      ++ leBytes 1 entries.length ++ leBytes 2 overflow ++ (entries.map fun e =>
        leBytes 1 (match e.kind with
            | .flashFault => 0 | .platterFault => 1 | .orderTimeout => 2 | .orderExhausted => 3
            | .linkCheck => 4 | .linkOverrun => 5 | .linkForm => 6 | .intakeLapse => 7)
        ++ (match e.subject with
          | .none => leBytes 1 0 ++ leBytes 4 0
          | .slot k => leBytes 1 1 ++ leBytes 4 k
          | .extent x => leBytes 1 2 ++ leBytes 4 x
          | .queue q => leBytes 1 3 ++ leBytes 4 (match q with | .pinFill => 0 | .heatFill => 1 | .drain => 2))
        ++ leBytes 4 e.first.toNat ++ leBytes 4 e.last.toNat ++ leBytes 1 e.repeats).flatten)
  ∧ (∀ (s : State) (c : Instr) (follows : Prop),
    (follows ↔ 0 < s.lif.credit ∧ (s.lif.reply ≠ none ∨ s.lif.orderFrames ≠ [] ∨ s.lif.deltaAsking = true
      ∨ s.mju.exporting ≠ none ∨ s.lif.advice ≠ none)) →
    c = .sendReply ∧ (¬s.laneFor .reply ∨ s.lif.reply = none)
      ∨ c = .sendOrder ∧ (¬s.laneFor .order ∨ s.lif.orderFrames = [])
      ∨ c = .delta ∧ (¬s.laneFor .delta ∨ s.lif.deltaAsking = false)
      ∨ (c = .exportData ∨ c = .exportEnd) ∧ (¬s.laneFor .exporting ∨ s.mju.exporting = none)
      ∨ c = .sendAdvice ∧ (¬s.laneFor .advice ∨ s.lif.advice = none) →
    (s.lif.upLane = none ∨ follows → exec c s = .next s)
    ∧ (s.lif.upLane ≠ none → ¬follows →
      exec c s = .next { s with lif := { s.lif with upLane := none, credit := 0 } }))

/-- DELTA at its grant (R157, R158): the frame carries the persisted forms, as they stand, of up to 16 entries from the
head of the log, which leave it; the mark of a waiting SYNC falls by their number, and at 0 its OK reply is made.
The MJU asks again while the conditions hold. Whatever command changes the log, the MJU asks for the lane after it
exactly while one of the conditions of R157 holds, by the flush count and the delta delay that stand (log 11). Every
command but DELTA and the resets keeps the entries of the log with their places and times; the entries it makes join
behind them, carry the seconds counter at the change, and are for slots that had none (R154). -/
def Obligations.DeltaSendsTheLog : Prop :=
  (∀ (s t : State) (c : Instr), exec c s = .next t → t.mju.log ≠ s.mju.log →
    (t.lif.deltaAsking = true ↔ ∃ e rest, t.mju.log = e :: rest ∧ (t.policy.flushCount ≤ t.mju.log.length
      ∨ t.policy.deltaDelay ≤ age t.seconds e.time ∨ t.mju.sync ≠ none)))
  ∧ (∀ (s t : State) (c : Instr), exec c s = .next t →
    c ∉ [Instr.delta, .powerOn, .resetLine, .resetWarm, .resetCold] →
    ∃ made, t.mju.log = s.mju.log ++ made ∧ (made.map LogEntry.slot).Nodup
      ∧ ∀ e ∈ made, e.time = s.seconds ∧ inLog s.mju.log e.slot = false)
  ∧ ∀ s : State, s.laneFor .delta → s.lif.deltaAsking = true → s.mju.log ≠ [] →
    ∃ t, exec .delta s = .next t
      ∧ t.mju.log = s.mju.log.drop 16
      ∧ t.lif.upLane = some ⟨0x82#8, 0#16,
          ((s.mju.log.take 16).map fun e => recordBytes (persisted s.bt.slots e.slot)).flatten⟩
      ∧ t.lif.credit = s.lif.credit - 1
      ∧ t.lif.deltaAsking = deltaWanted s.seconds s.policy t.mju
      ∧ (s.mju.sync = none → t.mju.sync = none ∧ t.cfu = s.cfu ∧ t.lif.reply = s.lif.reply)
      ∧ (∀ w, s.mju.sync = some w →
          (w.mark ≤ min 16 s.mju.log.length →
            t.mju.sync = none ∧ t.lif.reply = some ⟨w.tag, .ok .bare⟩
            ∧ t.cfu = { s.cfu with cond := ⟨.none, .none, 0, 0#8, 0#16⟩ })
          ∧ (min 16 s.mju.log.length < w.mark →
            t.mju.sync = some ⟨w.tag, w.mark - min 16 s.mju.log.length⟩ ∧ t.cfu = s.cfu
            ∧ t.lif.reply = s.lif.reply))
      ∧ t = { s with
          mju := { s.mju with log := t.mju.log, sync := t.mju.sync }, cfu := t.cfu
          lif := { s.lif with
            upLane := t.lif.upLane, credit := t.lif.credit, deltaAsking := t.lif.deltaAsking, reply := t.lif.reply } }

/-- EXPORT_DATA and EXPORT_END at their grants (R159, R160): a data frame carries, in ascending slot order, the persisted
forms of the next slots that are not FREE, up to 16, and the cursor goes behind the last, or past the end when fewer are
left; with none left, or the cursor past the end, EXPORT-END carries the count of records sent, the export stops and
journal-stale clears. -/
def Obligations.ExportFramesAreSent : Prop :=
  ∀ (s : State) (x : Exporting), s.laneFor .exporting → s.mju.exporting = some x → mapLaw s = true →
    (s.bt.n ≤ x.cursor → exec .exportEnd s = .next { s with
      mju := { s.mju with exporting := none, stale := false }
      lif := { s.lif with credit := s.lif.credit - 1, upLane := some ⟨0x84#8, 0#16, leBytes 2 x.sent⟩ } })
    ∧ (x.cursor < s.bt.n → (∀ k, x.cursor ≤ k → tget s.bt.slots k = none) → exec .exportData s = .next { s with
      mju := { s.mju with exporting := none, stale := false }
      lif := { s.lif with credit := s.lif.credit - 1, upLane := some ⟨0x84#8, 0#16, leBytes 2 x.sent⟩ } })
    ∧ (x.cursor < s.bt.n → (∃ k, x.cursor ≤ k ∧ tget s.bt.slots k ≠ none) →
      ∃ t y ks, exec .exportData s = .next t
        ∧ t = { s with
            mju := { s.mju with exporting := some y }
            lif := { s.lif with
              credit := s.lif.credit - 1
              upLane := some ⟨0x83#8, 0#16, (ks.map fun k => recordBytes (persisted s.bt.slots k)).flatten⟩ } }
        ∧ ks ≠ [] ∧ ks.length ≤ 16 ∧ y.sent = x.sent + ks.length ∧ ks.Pairwise (· < ·)
        ∧ (∀ k, k ∈ ks ↔ x.cursor ≤ k ∧ k < y.cursor ∧ tget s.bt.slots k ≠ none)
        ∧ (ks.length < 16 → y.cursor = s.bt.n))

/-! ### The laws that every step keeps -/

/-- Every binding stays lawful (R2, R4, R13, R31, R33): the set law, heat 0..4095, idle age 0..1023, strikes 0..2, and a
dirty-since exactly while it is dirty in ACTIVE; so do the heat and idle age of every row. -/
def Obligations.EveryStepKeepsTheBindingLaw : Prop :=
  ∀ s t : State, bindingLaw s = true → step s = .next t → bindingLaw t = true

/-- The Binding Table and the Candidate Table stay in order (R11, R41, R52, R54): no slot beyond N, no extent beyond E,
none bound twice or in two rows, no row outside its extent's set, none for a bound extent, none outside ACTIVE. -/
def Obligations.EveryStepKeepsTheMapLaw : Prop :=
  ∀ s t : State, mapLaw s = true → step s = .next t → mapLaw t = true

/-- Slots and orders stay matched (R6, R7, R14, R16, R97, R98, R104 to R106, R120): a slot is FILLING or DRAINING exactly
when one order names it, an issue tag stands on a binding exactly while its order is issued, the tags of issued orders
differ and are not 0, at most 8 are issued, and every ORDER frame waiting is an issued order's. Premise: the map law. -/
def Obligations.EveryStepKeepsTheOrderLaw : Prop :=
  ∀ s t : State, mapLaw s = true → orderLaw s = true → step s = .next t → orderLaw t = true

/-- The delta log never holds more than 256 entries, nor two for one slot (R154, R155). Premises: the laws of the map
and of orders. -/
def Obligations.EveryStepKeepsTheLogLaw : Prop :=
  ∀ s t : State, mapLaw s = true → orderLaw s = true → logLaw s = true → step s = .next t → logLaw t = true

/-- Pull credit is 0 while ATTN is deasserted and at most 16 (R167), at most 8 requests wait (R171), the MJU asks for the
lane only with entries in the log (R157), and while a SYNC waits its mark counts entries of the log and no reply waits
(R158, R172). -/
def Obligations.EveryStepKeepsTheLinkLaw : Prop :=
  ∀ s t : State, linkLaw s = true → step s = .next t → linkLaw t = true

/-- Every policy parameter stays in its range and the pinned count within the pin limit (R177, R139). Premise: the map
law. -/
def Obligations.EveryStepKeepsThePolicyLaw : Prop :=
  ∀ s t : State, mapLaw s = true → policyLaw s = true → step s = .next t → policyLaw t = true

/-- T stays in 0..B_max and the accumulator below 60 (R56), the intake of items at 64, the trackers at 4, the wheel at 31
(R22 to R34), the fault table at 8 entries, no two of one kind and subject (R187), and the counts that saturate at
65,535. Premise: the policy law. -/
def Obligations.EveryStepKeepsTheUnitLaws : Prop :=
  ∀ s t : State, policyLaw s = true → tokenLaw s = true → unitLaw s = true → step s = .next t →
    tokenLaw t = true ∧ unitLaw t = true

/-- After power-on every law holds. -/
def Obligations.EveryLawHoldsAtReset : Prop := allLaws State.reset = true

/-! ### Rules of the whole part -/

/-- The lifecycle changes in the ways of section 9.1 alone: ATTACH and IMPORT_BEGIN from UNBOUND, IMPORT_END from
IMPORTING, and the resets that empty every table. -/
def Obligations.LifecycleChanges : Prop :=
  ∀ (s t : State) (c : Instr), exec c s = .next t → t.mju.life ≠ s.mju.life →
    (c = .powerOn ∨ c = .resetLine ∨ c = .resetCold) ∧ t.mju.life = .unbound
    ∨ c = .attach ∧ s.mju.life = .unbound ∧ t.mju.life = .active
    ∨ c = .importBegin ∧ s.mju.life = .unbound ∧ t.mju.life = .importing
    ∨ c = .importEnd ∧ s.mju.life = .importing ∧ t.mju.life ≠ .importing

/-- No dirty block is lost (R9, R16, R67, R92, R109): in a lawful ACTIVE state a block that is dirty stays dirty in its
slot over every command but these: a power-on, the reset line, a RESET COLD; a DISCARD whose range has the block; a
COMPLETE of the slot's issued DRAIN that has copied it, if it was not redirtied since the dispatch. -/
def Obligations.NoDirtyBlockIsLost : Prop :=
  ∀ (s t : State) (c : Instr) (k x o : Nat), s.mju.life = .active → bindingLaw s = true → mapLaw s = true →
    exec c s = .next t → dirtyAt s k x o →
    (c ∉ [Instr.powerOn, .resetLine, .resetCold, .discard, .complete] → dirtyAt t k x o)
    ∧ (c = .discard → dirtyAt t k x o ∨ ∃ f rest, s.lif.intake = f :: rest
        ∧ fieldAt f.body 0 4 ≤ 64 * x + o ∧ 64 * x + o < fieldAt f.body 0 4 + min 256 (fieldAt f.body 4 2))
    ∧ (c = .complete → dirtyAt t k x o ∨ ∃ f rest i b, s.lif.intake = f :: rest
        ∧ issuedWith s.ou.issued (BitVec.ofNat 16 (fieldAt f.body 0 2)) = some i ∧ i.order.queue = .drain
        ∧ i.order.slot = k ∧ bindingAt s.bt.slots k = some b ∧ i.blocks.getLsbD o = true
        ∧ (b.redirtied.getD 0#64).getLsbD o = false
        ∧ (fieldAt f.body 2 1 = 0 ∨ (BitVec.ofNat 64 (fieldAt f.body 3 8)).getLsbD o = true))

end
end

