-- ==== Sys2Proof/Laws/State.lean ====
section
/-! SUPPORT. One lemma for each field and each named update of the state (Machine/Ops.lean, Machine/Link.lean), so that no
proof unfolds an update. -/

namespace Sys2Proof.Machine

variable (s : State)

/-! ### The queues of the Order Unit -/

@[simp] theorem OrderUnit.queue_pinFill (ou : OrderUnit) : ou.queue .pinFill = ou.pinFill := rfl
@[simp] theorem OrderUnit.queue_heatFill (ou : OrderUnit) : ou.queue .heatFill = ou.heatFill := rfl
@[simp] theorem OrderUnit.queue_drain (ou : OrderUnit) : ou.queue .drain = ou.drain := rfl
@[simp] theorem OrderUnit.setQueue_issued (ou : OrderUnit) (q : QueueId) (x : OrderQueue) :
    (ou.setQueue q x).issued = ou.issued := by cases q <;> rfl
@[simp] theorem OrderUnit.setQueue_tagCounter (ou : OrderUnit) (q : QueueId) (x : OrderQueue) :
    (ou.setQueue q x).tagCounter = ou.tagCounter := by cases q <;> rfl
@[simp] theorem OrderUnit.setQueue_lastServed (ou : OrderUnit) (q : QueueId) (x : OrderQueue) :
    (ou.setQueue q x).lastServed = ou.lastServed := by cases q <;> rfl
@[simp] theorem OrderUnit.setQueue_lastKind (ou : OrderUnit) (q : QueueId) (x : OrderQueue) :
    (ou.setQueue q x).lastKind = ou.lastKind := by cases q <;> rfl
@[simp] theorem OrderUnit.setQueue_retryCount (ou : OrderUnit) (q : QueueId) (x : OrderQueue) :
    (ou.setQueue q x).retryCount = ou.retryCount := by cases q <;> rfl
@[simp] theorem OrderUnit.queue_setQueue (ou : OrderUnit) (q : QueueId) (x : OrderQueue) :
    (ou.setQueue q x).queue q = x := by cases q <;> rfl
theorem OrderUnit.queue_setQueue_ne (ou : OrderUnit) {q p : QueueId} (x : OrderQueue) (h : p ≠ q) :
    (ou.setQueue q x).queue p = ou.queue p := by cases q <;> cases p <;> first | rfl | exact absurd rfl h

/-! ### withSlots -/

section
variable (slots : List (Nat × Slot))
@[simp] theorem State.withSlots_seconds : (s.withSlots slots).seconds = s.seconds := rfl
@[simp] theorem State.withSlots_policy : (s.withSlots slots).policy = s.policy := rfl
@[simp] theorem State.withSlots_bt :
    (s.withSlots slots).bt = { s.bt with slots := slots } := rfl
@[simp] theorem State.withSlots_hu : (s.withSlots slots).hu = s.hu := rfl
@[simp] theorem State.withSlots_ct : (s.withSlots slots).ct = s.ct := rfl
@[simp] theorem State.withSlots_au : (s.withSlots slots).au = s.au := rfl
@[simp] theorem State.withSlots_ou : (s.withSlots slots).ou = s.ou := rfl
@[simp] theorem State.withSlots_psm : (s.withSlots slots).psm = s.psm := rfl
@[simp] theorem State.withSlots_pu : (s.withSlots slots).pu = s.pu := rfl
@[simp] theorem State.withSlots_mju : (s.withSlots slots).mju = s.mju := rfl
@[simp] theorem State.withSlots_lif : (s.withSlots slots).lif = s.lif := rfl
@[simp] theorem State.withSlots_cfu : (s.withSlots slots).cfu = s.cfu := rfl
@[simp] theorem State.withSlots_choices : (s.withSlots slots).choices = s.choices := rfl
@[simp] theorem State.withSlots_pending : (s.withSlots slots).pending = s.pending := rfl
end

/-! ### withRows -/

section
variable (rows : List (Nat × Row))
@[simp] theorem State.withRows_seconds : (s.withRows rows).seconds = s.seconds := rfl
@[simp] theorem State.withRows_policy : (s.withRows rows).policy = s.policy := rfl
@[simp] theorem State.withRows_bt : (s.withRows rows).bt = s.bt := rfl
@[simp] theorem State.withRows_hu : (s.withRows rows).hu = s.hu := rfl
@[simp] theorem State.withRows_ct :
    (s.withRows rows).ct = { s.ct with rows := rows } := rfl
@[simp] theorem State.withRows_au : (s.withRows rows).au = s.au := rfl
@[simp] theorem State.withRows_ou : (s.withRows rows).ou = s.ou := rfl
@[simp] theorem State.withRows_psm : (s.withRows rows).psm = s.psm := rfl
@[simp] theorem State.withRows_pu : (s.withRows rows).pu = s.pu := rfl
@[simp] theorem State.withRows_mju : (s.withRows rows).mju = s.mju := rfl
@[simp] theorem State.withRows_lif : (s.withRows rows).lif = s.lif := rfl
@[simp] theorem State.withRows_cfu : (s.withRows rows).cfu = s.cfu := rfl
@[simp] theorem State.withRows_choices : (s.withRows rows).choices = s.choices := rfl
@[simp] theorem State.withRows_pending : (s.withRows rows).pending = s.pending := rfl
end

/-! ### withIntake -/

section
variable (intake : List Frame)
@[simp] theorem State.withIntake_seconds : (s.withIntake intake).seconds = s.seconds := rfl
@[simp] theorem State.withIntake_policy : (s.withIntake intake).policy = s.policy := rfl
@[simp] theorem State.withIntake_bt : (s.withIntake intake).bt = s.bt := rfl
@[simp] theorem State.withIntake_hu : (s.withIntake intake).hu = s.hu := rfl
@[simp] theorem State.withIntake_ct : (s.withIntake intake).ct = s.ct := rfl
@[simp] theorem State.withIntake_au : (s.withIntake intake).au = s.au := rfl
@[simp] theorem State.withIntake_ou : (s.withIntake intake).ou = s.ou := rfl
@[simp] theorem State.withIntake_psm : (s.withIntake intake).psm = s.psm := rfl
@[simp] theorem State.withIntake_pu : (s.withIntake intake).pu = s.pu := rfl
@[simp] theorem State.withIntake_mju : (s.withIntake intake).mju = s.mju := rfl
@[simp] theorem State.withIntake_lif :
    (s.withIntake intake).lif = { s.lif with intake := intake } := rfl
@[simp] theorem State.withIntake_cfu : (s.withIntake intake).cfu = s.cfu := rfl
@[simp] theorem State.withIntake_choices : (s.withIntake intake).choices = s.choices := rfl
@[simp] theorem State.withIntake_pending : (s.withIntake intake).pending = s.pending := rfl
end

/-! ### withRx -/

section
variable (rx : List Byte)
@[simp] theorem State.withRx_seconds : (s.withRx rx).seconds = s.seconds := rfl
@[simp] theorem State.withRx_policy : (s.withRx rx).policy = s.policy := rfl
@[simp] theorem State.withRx_bt : (s.withRx rx).bt = s.bt := rfl
@[simp] theorem State.withRx_hu : (s.withRx rx).hu = s.hu := rfl
@[simp] theorem State.withRx_ct : (s.withRx rx).ct = s.ct := rfl
@[simp] theorem State.withRx_au : (s.withRx rx).au = s.au := rfl
@[simp] theorem State.withRx_ou : (s.withRx rx).ou = s.ou := rfl
@[simp] theorem State.withRx_psm : (s.withRx rx).psm = s.psm := rfl
@[simp] theorem State.withRx_pu : (s.withRx rx).pu = s.pu := rfl
@[simp] theorem State.withRx_mju : (s.withRx rx).mju = s.mju := rfl
@[simp] theorem State.withRx_lif :
    (s.withRx rx).lif = { s.lif with rx := rx } := rfl
@[simp] theorem State.withRx_cfu : (s.withRx rx).cfu = s.cfu := rfl
@[simp] theorem State.withRx_choices : (s.withRx rx).choices = s.choices := rfl
@[simp] theorem State.withRx_pending : (s.withRx rx).pending = s.pending := rfl
end

/-! ### setBinding -/

section
variable (k : Nat) (b : Binding)
@[simp] theorem State.setBinding_seconds : (s.setBinding k b).seconds = s.seconds := rfl
@[simp] theorem State.setBinding_policy : (s.setBinding k b).policy = s.policy := rfl
@[simp] theorem State.setBinding_bt :
    (s.setBinding k b).bt = { s.bt with slots := tset s.bt.slots k (.bound b) } := rfl
@[simp] theorem State.setBinding_hu : (s.setBinding k b).hu = s.hu := rfl
@[simp] theorem State.setBinding_ct : (s.setBinding k b).ct = s.ct := rfl
@[simp] theorem State.setBinding_au : (s.setBinding k b).au = s.au := rfl
@[simp] theorem State.setBinding_ou : (s.setBinding k b).ou = s.ou := rfl
@[simp] theorem State.setBinding_psm : (s.setBinding k b).psm = s.psm := rfl
@[simp] theorem State.setBinding_pu : (s.setBinding k b).pu = s.pu := rfl
@[simp] theorem State.setBinding_mju : (s.setBinding k b).mju = s.mju := rfl
@[simp] theorem State.setBinding_lif : (s.setBinding k b).lif = s.lif := rfl
@[simp] theorem State.setBinding_cfu : (s.setBinding k b).cfu = s.cfu := rfl
@[simp] theorem State.setBinding_choices : (s.setBinding k b).choices = s.choices := rfl
@[simp] theorem State.setBinding_pending : (s.setBinding k b).pending = s.pending := rfl
end

/-! ### release -/

section
variable (k : Nat)
@[simp] theorem State.release_seconds : (s.release k).seconds = s.seconds := rfl
@[simp] theorem State.release_policy : (s.release k).policy = s.policy := rfl
@[simp] theorem State.release_bt :
    (s.release k).bt = { s.bt with slots := terase s.bt.slots k } := rfl
@[simp] theorem State.release_hu : (s.release k).hu = s.hu := rfl
@[simp] theorem State.release_ct : (s.release k).ct = s.ct := rfl
@[simp] theorem State.release_au : (s.release k).au = s.au := rfl
@[simp] theorem State.release_ou : (s.release k).ou = s.ou := rfl
@[simp] theorem State.release_psm : (s.release k).psm = s.psm := rfl
@[simp] theorem State.release_pu : (s.release k).pu = s.pu := rfl
@[simp] theorem State.release_mju : (s.release k).mju = s.mju := rfl
@[simp] theorem State.release_lif : (s.release k).lif = s.lif := rfl
@[simp] theorem State.release_cfu : (s.release k).cfu = s.cfu := rfl
@[simp] theorem State.release_choices : (s.release k).choices = s.choices := rfl
@[simp] theorem State.release_pending : (s.release k).pending = s.pending := rfl
end

/-! ### retire -/

section
variable (k : Nat) (b : Binding)
@[simp] theorem State.retire_seconds : (s.retire k b).seconds = s.seconds := rfl
@[simp] theorem State.retire_policy : (s.retire k b).policy = s.policy := rfl
@[simp] theorem State.retire_bt :
    (s.retire k b).bt = { s.bt with slots := tset s.bt.slots k .retired } := rfl
@[simp] theorem State.retire_hu : (s.retire k b).hu = s.hu := rfl
@[simp] theorem State.retire_ct : (s.retire k b).ct = s.ct := rfl
@[simp] theorem State.retire_au : (s.retire k b).au = s.au := rfl
@[simp] theorem State.retire_ou : (s.retire k b).ou = s.ou := rfl
@[simp] theorem State.retire_psm : (s.retire k b).psm = s.psm := rfl
@[simp] theorem State.retire_pu :
    (s.retire k b).pu = s.pu.raise b.owners .pinsDropped := rfl
@[simp] theorem State.retire_mju : (s.retire k b).mju = s.mju := rfl
@[simp] theorem State.retire_lif : (s.retire k b).lif = s.lif := rfl
@[simp] theorem State.retire_cfu : (s.retire k b).cfu = s.cfu := rfl
@[simp] theorem State.retire_choices : (s.retire k b).choices = s.choices := rfl
@[simp] theorem State.retire_pending : (s.retire k b).pending = s.pending := rfl
end

/-! ### startPicker -/

@[simp] theorem State.startPicker_seconds : s.startPicker.seconds = s.seconds := rfl
@[simp] theorem State.startPicker_policy : s.startPicker.policy = s.policy := rfl
@[simp] theorem State.startPicker_bt : s.startPicker.bt = s.bt := rfl
@[simp] theorem State.startPicker_hu : s.startPicker.hu = s.hu := rfl
@[simp] theorem State.startPicker_ct : s.startPicker.ct = s.ct := rfl
@[simp] theorem State.startPicker_au :
    s.startPicker.au = { s.au with runsOwed := s.au.runsOwed + 1 } := rfl
@[simp] theorem State.startPicker_ou : s.startPicker.ou = s.ou := rfl
@[simp] theorem State.startPicker_psm : s.startPicker.psm = s.psm := rfl
@[simp] theorem State.startPicker_pu : s.startPicker.pu = s.pu := rfl
@[simp] theorem State.startPicker_mju : s.startPicker.mju = s.mju := rfl
@[simp] theorem State.startPicker_lif : s.startPicker.lif = s.lif := rfl
@[simp] theorem State.startPicker_cfu : s.startPicker.cfu = s.cfu := rfl
@[simp] theorem State.startPicker_choices : s.startPicker.choices = s.choices := rfl
@[simp] theorem State.startPicker_pending : s.startPicker.pending = s.pending := rfl

/-! ### startScan -/

@[simp] theorem State.startScan_seconds : s.startScan.seconds = s.seconds := rfl
@[simp] theorem State.startScan_policy : s.startScan.policy = s.policy := rfl
@[simp] theorem State.startScan_bt : s.startScan.bt = s.bt := rfl
@[simp] theorem State.startScan_hu : s.startScan.hu = s.hu := rfl
@[simp] theorem State.startScan_ct : s.startScan.ct = s.ct := rfl
@[simp] theorem State.startScan_au : s.startScan.au = s.au := rfl
@[simp] theorem State.startScan_ou : s.startScan.ou = s.ou := rfl
@[simp] theorem State.startScan_psm : s.startScan.psm = s.psm := rfl
@[simp] theorem State.startScan_pu :
    s.startScan.pu = { s.pu with scansOwed := s.pu.scansOwed + 1 } := rfl
@[simp] theorem State.startScan_mju : s.startScan.mju = s.mju := rfl
@[simp] theorem State.startScan_lif : s.startScan.lif = s.lif := rfl
@[simp] theorem State.startScan_cfu : s.startScan.cfu = s.cfu := rfl
@[simp] theorem State.startScan_choices : s.startScan.choices = s.choices := rfl
@[simp] theorem State.startScan_pending : s.startScan.pending = s.pending := rfl

/-! ### startDrainPicker -/

@[simp] theorem State.startDrainPicker_seconds : s.startDrainPicker.seconds = s.seconds := rfl
@[simp] theorem State.startDrainPicker_policy : s.startDrainPicker.policy = s.policy := rfl
@[simp] theorem State.startDrainPicker_bt : s.startDrainPicker.bt = s.bt := rfl
@[simp] theorem State.startDrainPicker_hu : s.startDrainPicker.hu = s.hu := rfl
@[simp] theorem State.startDrainPicker_ct : s.startDrainPicker.ct = s.ct := rfl
@[simp] theorem State.startDrainPicker_au : s.startDrainPicker.au = s.au := rfl
@[simp] theorem State.startDrainPicker_ou : s.startDrainPicker.ou = s.ou := rfl
@[simp] theorem State.startDrainPicker_psm :
    s.startDrainPicker.psm = { s.psm with drainRunsOwed := s.psm.drainRunsOwed + 1 } := rfl
@[simp] theorem State.startDrainPicker_pu : s.startDrainPicker.pu = s.pu := rfl
@[simp] theorem State.startDrainPicker_mju : s.startDrainPicker.mju = s.mju := rfl
@[simp] theorem State.startDrainPicker_lif : s.startDrainPicker.lif = s.lif := rfl
@[simp] theorem State.startDrainPicker_cfu : s.startDrainPicker.cfu = s.cfu := rfl
@[simp] theorem State.startDrainPicker_choices : s.startDrainPicker.choices = s.choices := rfl
@[simp] theorem State.startDrainPicker_pending : s.startDrainPicker.pending = s.pending := rfl

/-! ### startPickerIf -/

section
variable (c : Bool)
@[simp] theorem State.startPickerIf_seconds : (s.startPickerIf c).seconds = s.seconds := by cases c <;> rfl
@[simp] theorem State.startPickerIf_policy : (s.startPickerIf c).policy = s.policy := by cases c <;> rfl
@[simp] theorem State.startPickerIf_bt : (s.startPickerIf c).bt = s.bt := by cases c <;> rfl
@[simp] theorem State.startPickerIf_hu : (s.startPickerIf c).hu = s.hu := by cases c <;> rfl
@[simp] theorem State.startPickerIf_ct : (s.startPickerIf c).ct = s.ct := by cases c <;> rfl
@[simp] theorem State.startPickerIf_au :
    (s.startPickerIf c).au = { s.au with runsOwed := s.au.runsOwed + if c then 1 else 0 } := by cases c <;> rfl
@[simp] theorem State.startPickerIf_ou : (s.startPickerIf c).ou = s.ou := by cases c <;> rfl
@[simp] theorem State.startPickerIf_psm : (s.startPickerIf c).psm = s.psm := by cases c <;> rfl
@[simp] theorem State.startPickerIf_pu : (s.startPickerIf c).pu = s.pu := by cases c <;> rfl
@[simp] theorem State.startPickerIf_mju : (s.startPickerIf c).mju = s.mju := by cases c <;> rfl
@[simp] theorem State.startPickerIf_lif : (s.startPickerIf c).lif = s.lif := by cases c <;> rfl
@[simp] theorem State.startPickerIf_cfu : (s.startPickerIf c).cfu = s.cfu := by cases c <;> rfl
@[simp] theorem State.startPickerIf_choices : (s.startPickerIf c).choices = s.choices := by cases c <;> rfl
@[simp] theorem State.startPickerIf_pending : (s.startPickerIf c).pending = s.pending := by cases c <;> rfl
end

/-! ### startScanIf -/

section
variable (c : Bool)
@[simp] theorem State.startScanIf_seconds : (s.startScanIf c).seconds = s.seconds := by cases c <;> rfl
@[simp] theorem State.startScanIf_policy : (s.startScanIf c).policy = s.policy := by cases c <;> rfl
@[simp] theorem State.startScanIf_bt : (s.startScanIf c).bt = s.bt := by cases c <;> rfl
@[simp] theorem State.startScanIf_hu : (s.startScanIf c).hu = s.hu := by cases c <;> rfl
@[simp] theorem State.startScanIf_ct : (s.startScanIf c).ct = s.ct := by cases c <;> rfl
@[simp] theorem State.startScanIf_au : (s.startScanIf c).au = s.au := by cases c <;> rfl
@[simp] theorem State.startScanIf_ou : (s.startScanIf c).ou = s.ou := by cases c <;> rfl
@[simp] theorem State.startScanIf_psm : (s.startScanIf c).psm = s.psm := by cases c <;> rfl
@[simp] theorem State.startScanIf_pu :
    (s.startScanIf c).pu = { s.pu with scansOwed := s.pu.scansOwed + if c then 1 else 0 } := by cases c <;> rfl
@[simp] theorem State.startScanIf_mju : (s.startScanIf c).mju = s.mju := by cases c <;> rfl
@[simp] theorem State.startScanIf_lif : (s.startScanIf c).lif = s.lif := by cases c <;> rfl
@[simp] theorem State.startScanIf_cfu : (s.startScanIf c).cfu = s.cfu := by cases c <;> rfl
@[simp] theorem State.startScanIf_choices : (s.startScanIf c).choices = s.choices := by cases c <;> rfl
@[simp] theorem State.startScanIf_pending : (s.startScanIf c).pending = s.pending := by cases c <;> rfl
end

/-! ### setWaiting -/

section
variable (q : QueueId) (ws : List Waiting)
@[simp] theorem State.setWaiting_seconds : (s.setWaiting q ws).seconds = s.seconds := rfl
@[simp] theorem State.setWaiting_policy : (s.setWaiting q ws).policy = s.policy := rfl
@[simp] theorem State.setWaiting_bt : (s.setWaiting q ws).bt = s.bt := rfl
@[simp] theorem State.setWaiting_hu : (s.setWaiting q ws).hu = s.hu := rfl
@[simp] theorem State.setWaiting_ct : (s.setWaiting q ws).ct = s.ct := rfl
@[simp] theorem State.setWaiting_au : (s.setWaiting q ws).au = s.au := rfl
@[simp] theorem State.setWaiting_ou :
    (s.setWaiting q ws).ou = s.ou.setQueue q { s.ou.queue q with waiting := ws } := rfl
@[simp] theorem State.setWaiting_psm : (s.setWaiting q ws).psm = s.psm := rfl
@[simp] theorem State.setWaiting_pu : (s.setWaiting q ws).pu = s.pu := rfl
@[simp] theorem State.setWaiting_mju : (s.setWaiting q ws).mju = s.mju := rfl
@[simp] theorem State.setWaiting_lif : (s.setWaiting q ws).lif = s.lif := rfl
@[simp] theorem State.setWaiting_cfu : (s.setWaiting q ws).cfu = s.cfu := rfl
@[simp] theorem State.setWaiting_choices : (s.setWaiting q ws).choices = s.choices := rfl
@[simp] theorem State.setWaiting_pending : (s.setWaiting q ws).pending = s.pending := rfl
end

/-! ### setHalted -/

section
variable (q : QueueId) (h : Bool)
@[simp] theorem State.setHalted_seconds : (s.setHalted q h).seconds = s.seconds := rfl
@[simp] theorem State.setHalted_policy : (s.setHalted q h).policy = s.policy := rfl
@[simp] theorem State.setHalted_bt : (s.setHalted q h).bt = s.bt := rfl
@[simp] theorem State.setHalted_hu : (s.setHalted q h).hu = s.hu := rfl
@[simp] theorem State.setHalted_ct : (s.setHalted q h).ct = s.ct := rfl
@[simp] theorem State.setHalted_au : (s.setHalted q h).au = s.au := rfl
@[simp] theorem State.setHalted_ou :
    (s.setHalted q h).ou = s.ou.setQueue q { s.ou.queue q with halted := h } := rfl
@[simp] theorem State.setHalted_psm : (s.setHalted q h).psm = s.psm := rfl
@[simp] theorem State.setHalted_pu : (s.setHalted q h).pu = s.pu := rfl
@[simp] theorem State.setHalted_mju : (s.setHalted q h).mju = s.mju := rfl
@[simp] theorem State.setHalted_lif : (s.setHalted q h).lif = s.lif := rfl
@[simp] theorem State.setHalted_cfu : (s.setHalted q h).cfu = s.cfu := rfl
@[simp] theorem State.setHalted_choices : (s.setHalted q h).choices = s.choices := rfl
@[simp] theorem State.setHalted_pending : (s.setHalted q h).pending = s.pending := rfl
end

/-! ### setSkip -/

section
variable (q : QueueId) (k : Bool)
@[simp] theorem State.setSkip_seconds : (s.setSkip q k).seconds = s.seconds := rfl
@[simp] theorem State.setSkip_policy : (s.setSkip q k).policy = s.policy := rfl
@[simp] theorem State.setSkip_bt : (s.setSkip q k).bt = s.bt := rfl
@[simp] theorem State.setSkip_hu : (s.setSkip q k).hu = s.hu := rfl
@[simp] theorem State.setSkip_ct : (s.setSkip q k).ct = s.ct := rfl
@[simp] theorem State.setSkip_au : (s.setSkip q k).au = s.au := rfl
@[simp] theorem State.setSkip_ou :
    (s.setSkip q k).ou = s.ou.setQueue q { s.ou.queue q with skip := k } := rfl
@[simp] theorem State.setSkip_psm : (s.setSkip q k).psm = s.psm := rfl
@[simp] theorem State.setSkip_pu : (s.setSkip q k).pu = s.pu := rfl
@[simp] theorem State.setSkip_mju : (s.setSkip q k).mju = s.mju := rfl
@[simp] theorem State.setSkip_lif : (s.setSkip q k).lif = s.lif := rfl
@[simp] theorem State.setSkip_cfu : (s.setSkip q k).cfu = s.cfu := rfl
@[simp] theorem State.setSkip_choices : (s.setSkip q k).choices = s.choices := rfl
@[simp] theorem State.setSkip_pending : (s.setSkip q k).pending = s.pending := rfl
end

/-! ### reply -/

section
variable (tag : Tag) (body : ReplyBody)
@[simp] theorem State.reply_seconds : (s.reply tag body).seconds = s.seconds := rfl
@[simp] theorem State.reply_policy : (s.reply tag body).policy = s.policy := rfl
@[simp] theorem State.reply_bt : (s.reply tag body).bt = s.bt := rfl
@[simp] theorem State.reply_hu : (s.reply tag body).hu = s.hu := rfl
@[simp] theorem State.reply_ct : (s.reply tag body).ct = s.ct := rfl
@[simp] theorem State.reply_au : (s.reply tag body).au = s.au := rfl
@[simp] theorem State.reply_ou : (s.reply tag body).ou = s.ou := rfl
@[simp] theorem State.reply_psm : (s.reply tag body).psm = s.psm := rfl
@[simp] theorem State.reply_pu : (s.reply tag body).pu = s.pu := rfl
@[simp] theorem State.reply_mju : (s.reply tag body).mju = s.mju := rfl
@[simp] theorem State.reply_lif :
    (s.reply tag body).lif = { s.lif with reply := some ⟨tag, body⟩ } := rfl
@[simp] theorem State.reply_cfu : (s.reply tag body).cfu = s.cfu := rfl
@[simp] theorem State.reply_choices : (s.reply tag body).choices = s.choices := rfl
@[simp] theorem State.reply_pending : (s.reply tag body).pending = s.pending := rfl
end

/-! ### clearCondition -/

@[simp] theorem State.clearCondition_seconds : s.clearCondition.seconds = s.seconds := rfl
@[simp] theorem State.clearCondition_policy : s.clearCondition.policy = s.policy := rfl
@[simp] theorem State.clearCondition_bt : s.clearCondition.bt = s.bt := rfl
@[simp] theorem State.clearCondition_hu : s.clearCondition.hu = s.hu := rfl
@[simp] theorem State.clearCondition_ct : s.clearCondition.ct = s.ct := rfl
@[simp] theorem State.clearCondition_au : s.clearCondition.au = s.au := rfl
@[simp] theorem State.clearCondition_ou : s.clearCondition.ou = s.ou := rfl
@[simp] theorem State.clearCondition_psm : s.clearCondition.psm = s.psm := rfl
@[simp] theorem State.clearCondition_pu : s.clearCondition.pu = s.pu := rfl
@[simp] theorem State.clearCondition_mju : s.clearCondition.mju = s.mju := rfl
@[simp] theorem State.clearCondition_lif : s.clearCondition.lif = s.lif := rfl
@[simp] theorem State.clearCondition_cfu :
    s.clearCondition.cfu = { s.cfu with cond := ⟨.none, .none, 0, 0#8, 0#16⟩ } := rfl
@[simp] theorem State.clearCondition_choices : s.clearCondition.choices = s.choices := rfl
@[simp] theorem State.clearCondition_pending : s.clearCondition.pending = s.pending := rfl

/-! ### answerOk -/

section
variable (tag : Tag) (b : OkBody)
@[simp] theorem State.answerOk_seconds : (s.answerOk tag b).seconds = s.seconds := rfl
@[simp] theorem State.answerOk_policy : (s.answerOk tag b).policy = s.policy := rfl
@[simp] theorem State.answerOk_bt : (s.answerOk tag b).bt = s.bt := rfl
@[simp] theorem State.answerOk_hu : (s.answerOk tag b).hu = s.hu := rfl
@[simp] theorem State.answerOk_ct : (s.answerOk tag b).ct = s.ct := rfl
@[simp] theorem State.answerOk_au : (s.answerOk tag b).au = s.au := rfl
@[simp] theorem State.answerOk_ou : (s.answerOk tag b).ou = s.ou := rfl
@[simp] theorem State.answerOk_psm : (s.answerOk tag b).psm = s.psm := rfl
@[simp] theorem State.answerOk_pu : (s.answerOk tag b).pu = s.pu := rfl
@[simp] theorem State.answerOk_mju : (s.answerOk tag b).mju = s.mju := rfl
@[simp] theorem State.answerOk_lif :
    (s.answerOk tag b).lif = { s.lif with reply := some ⟨tag, .ok b⟩ } := rfl
@[simp] theorem State.answerOk_cfu :
    (s.answerOk tag b).cfu = { s.cfu with cond := ⟨.none, .none, 0, 0#8, 0#16⟩ } := rfl
@[simp] theorem State.answerOk_choices : (s.answerOk tag b).choices = s.choices := rfl
@[simp] theorem State.answerOk_pending : (s.answerOk tag b).pending = s.pending := rfl
end

/-! ### refer -/

section
variable (f : Frame) (key : CondKey) (code : CondCode) (n : Nat)
@[simp] theorem State.refer_seconds : (s.refer f key code n).seconds = s.seconds := rfl
@[simp] theorem State.refer_policy : (s.refer f key code n).policy = s.policy := rfl
@[simp] theorem State.refer_bt : (s.refer f key code n).bt = s.bt := rfl
@[simp] theorem State.refer_hu : (s.refer f key code n).hu = s.hu := rfl
@[simp] theorem State.refer_ct : (s.refer f key code n).ct = s.ct := rfl
@[simp] theorem State.refer_au : (s.refer f key code n).au = s.au := rfl
@[simp] theorem State.refer_ou : (s.refer f key code n).ou = s.ou := rfl
@[simp] theorem State.refer_psm : (s.refer f key code n).psm = s.psm := rfl
@[simp] theorem State.refer_pu : (s.refer f key code n).pu = s.pu := rfl
@[simp] theorem State.refer_mju : (s.refer f key code n).mju = s.mju := rfl
@[simp] theorem State.refer_lif :
    (s.refer f key code n).lif = { s.lif with reply := some ⟨f.tag, .refer key code⟩ } := rfl
@[simp] theorem State.refer_cfu :
    (s.refer f key code n).cfu = { s.cfu with cond := ⟨key, code, n, f.kind, f.tag⟩ } := rfl
@[simp] theorem State.refer_choices : (s.refer f key code n).choices = s.choices := rfl
@[simp] theorem State.refer_pending : (s.refer f key code n).pending = s.pending := rfl
end

/-! ### askDelta -/

@[simp] theorem State.askDelta_seconds : s.askDelta.seconds = s.seconds := rfl
@[simp] theorem State.askDelta_policy : s.askDelta.policy = s.policy := rfl
@[simp] theorem State.askDelta_bt : s.askDelta.bt = s.bt := rfl
@[simp] theorem State.askDelta_hu : s.askDelta.hu = s.hu := rfl
@[simp] theorem State.askDelta_ct : s.askDelta.ct = s.ct := rfl
@[simp] theorem State.askDelta_au : s.askDelta.au = s.au := rfl
@[simp] theorem State.askDelta_ou : s.askDelta.ou = s.ou := rfl
@[simp] theorem State.askDelta_psm : s.askDelta.psm = s.psm := rfl
@[simp] theorem State.askDelta_pu : s.askDelta.pu = s.pu := rfl
@[simp] theorem State.askDelta_mju : s.askDelta.mju = s.mju := rfl
@[simp] theorem State.askDelta_lif :
    s.askDelta.lif = { s.lif with deltaAsking := deltaWanted s.seconds s.policy s.mju } := rfl
@[simp] theorem State.askDelta_cfu : s.askDelta.cfu = s.cfu := rfl
@[simp] theorem State.askDelta_choices : s.askDelta.choices = s.choices := rfl
@[simp] theorem State.askDelta_pending : s.askDelta.pending = s.pending := rfl

/-! ### logChange -/

section
variable (before : List (Nat × Slot)) (ks : List Nat)
@[simp] theorem State.logChange_seconds : (s.logChange before ks).seconds = s.seconds := rfl
@[simp] theorem State.logChange_policy : (s.logChange before ks).policy = s.policy := rfl
@[simp] theorem State.logChange_bt : (s.logChange before ks).bt = s.bt := rfl
@[simp] theorem State.logChange_hu : (s.logChange before ks).hu = s.hu := rfl
@[simp] theorem State.logChange_ct : (s.logChange before ks).ct = s.ct := rfl
@[simp] theorem State.logChange_au : (s.logChange before ks).au = s.au := rfl
@[simp] theorem State.logChange_ou : (s.logChange before ks).ou = s.ou := rfl
@[simp] theorem State.logChange_psm : (s.logChange before ks).psm = s.psm := rfl
@[simp] theorem State.logChange_pu : (s.logChange before ks).pu = s.pu := rfl
@[simp] theorem State.logChange_mju :
    (s.logChange before ks).mju = { s.mju with log := grownLog s.seconds before s.bt.slots s.mju.log ks } := rfl
@[simp] theorem State.logChange_lif :
    (s.logChange before ks).lif = { s.lif with
      deltaAsking := deltaWanted s.seconds s.policy
        { s.mju with log := grownLog s.seconds before s.bt.slots s.mju.log ks } } := rfl
@[simp] theorem State.logChange_cfu : (s.logChange before ks).cfu = s.cfu := rfl
@[simp] theorem State.logChange_choices : (s.logChange before ks).choices = s.choices := rfl
@[simp] theorem State.logChange_pending : (s.logChange before ks).pending = s.pending := rfl
end

/-! ### settleDrainAll -/

@[simp] theorem State.settleDrainAll_seconds : s.settleDrainAll.seconds = s.seconds := by unfold State.settleDrainAll; split <;> rfl
@[simp] theorem State.settleDrainAll_policy : s.settleDrainAll.policy = s.policy := by unfold State.settleDrainAll; split <;> rfl
@[simp] theorem State.settleDrainAll_bt : s.settleDrainAll.bt = s.bt := by unfold State.settleDrainAll; split <;> rfl
@[simp] theorem State.settleDrainAll_hu : s.settleDrainAll.hu = s.hu := by unfold State.settleDrainAll; split <;> rfl
@[simp] theorem State.settleDrainAll_ct : s.settleDrainAll.ct = s.ct := by unfold State.settleDrainAll; split <;> rfl
@[simp] theorem State.settleDrainAll_au : s.settleDrainAll.au = s.au := by unfold State.settleDrainAll; split <;> rfl
@[simp] theorem State.settleDrainAll_ou : s.settleDrainAll.ou = s.ou := by unfold State.settleDrainAll; split <;> rfl
@[simp] theorem State.settleDrainAll_psm :
    s.settleDrainAll.psm = { s.psm with drainAll := s.psm.drainAll && decide (dirtyCount s.bt.slots ≠ 0) } := by unfold State.settleDrainAll; split <;> simp_all
@[simp] theorem State.settleDrainAll_pu : s.settleDrainAll.pu = s.pu := by unfold State.settleDrainAll; split <;> rfl
@[simp] theorem State.settleDrainAll_mju : s.settleDrainAll.mju = s.mju := by unfold State.settleDrainAll; split <;> rfl
@[simp] theorem State.settleDrainAll_lif : s.settleDrainAll.lif = s.lif := by unfold State.settleDrainAll; split <;> rfl
@[simp] theorem State.settleDrainAll_cfu : s.settleDrainAll.cfu = s.cfu := by unfold State.settleDrainAll; split <;> rfl
@[simp] theorem State.settleDrainAll_choices : s.settleDrainAll.choices = s.choices := by unfold State.settleDrainAll; split <;> rfl
@[simp] theorem State.settleDrainAll_pending : s.settleDrainAll.pending = s.pending := by unfold State.settleDrainAll; split <;> rfl

/-! ### settleCredit -/

@[simp] theorem State.settleCredit_seconds : s.settleCredit.seconds = s.seconds := by unfold State.settleCredit; split <;> rfl
@[simp] theorem State.settleCredit_policy : s.settleCredit.policy = s.policy := by unfold State.settleCredit; split <;> rfl
@[simp] theorem State.settleCredit_bt : s.settleCredit.bt = s.bt := by unfold State.settleCredit; split <;> rfl
@[simp] theorem State.settleCredit_hu : s.settleCredit.hu = s.hu := by unfold State.settleCredit; split <;> rfl
@[simp] theorem State.settleCredit_ct : s.settleCredit.ct = s.ct := by unfold State.settleCredit; split <;> rfl
@[simp] theorem State.settleCredit_au : s.settleCredit.au = s.au := by unfold State.settleCredit; split <;> rfl
@[simp] theorem State.settleCredit_ou : s.settleCredit.ou = s.ou := by unfold State.settleCredit; split <;> rfl
@[simp] theorem State.settleCredit_psm : s.settleCredit.psm = s.psm := by unfold State.settleCredit; split <;> rfl
@[simp] theorem State.settleCredit_pu : s.settleCredit.pu = s.pu := by unfold State.settleCredit; split <;> rfl
@[simp] theorem State.settleCredit_mju : s.settleCredit.mju = s.mju := by unfold State.settleCredit; split <;> rfl
@[simp] theorem State.settleCredit_lif :
    s.settleCredit.lif = { s.lif with credit := if attn s then s.lif.credit else 0 } := by unfold State.settleCredit; split <;> simp_all
@[simp] theorem State.settleCredit_cfu : s.settleCredit.cfu = s.cfu := by unfold State.settleCredit; split <;> rfl
@[simp] theorem State.settleCredit_choices : s.settleCredit.choices = s.choices := by unfold State.settleCredit; split <;> rfl
@[simp] theorem State.settleCredit_pending : s.settleCredit.pending = s.pending := by unfold State.settleCredit; split <;> rfl

/-! ### dropIssued -/

section
variable (t : Tag)
@[simp] theorem State.dropIssued_seconds : (s.dropIssued t).seconds = s.seconds := rfl
@[simp] theorem State.dropIssued_policy : (s.dropIssued t).policy = s.policy := rfl
@[simp] theorem State.dropIssued_bt : (s.dropIssued t).bt = s.bt := rfl
@[simp] theorem State.dropIssued_hu : (s.dropIssued t).hu = s.hu := rfl
@[simp] theorem State.dropIssued_ct : (s.dropIssued t).ct = s.ct := rfl
@[simp] theorem State.dropIssued_au : (s.dropIssued t).au = s.au := rfl
@[simp] theorem State.dropIssued_ou :
    (s.dropIssued t).ou = { s.ou with issued := s.ou.issued.filter fun o => o.tag != t } := rfl
@[simp] theorem State.dropIssued_psm : (s.dropIssued t).psm = s.psm := rfl
@[simp] theorem State.dropIssued_pu : (s.dropIssued t).pu = s.pu := rfl
@[simp] theorem State.dropIssued_mju : (s.dropIssued t).mju = s.mju := rfl
@[simp] theorem State.dropIssued_lif :
    (s.dropIssued t).lif = { s.lif with orderFrames := s.lif.orderFrames.filter fun f => f.tag != t } := rfl
@[simp] theorem State.dropIssued_cfu : (s.dropIssued t).cfu = s.cfu := rfl
@[simp] theorem State.dropIssued_choices : (s.dropIssued t).choices = s.choices := rfl
@[simp] theorem State.dropIssued_pending : (s.dropIssued t).pending = s.pending := rfl
end

/-! ### returnOrder -/

section
variable (o : Order) (b : Binding) (u : Option Time)
@[simp] theorem State.returnOrder_seconds : (s.returnOrder o b u).seconds = s.seconds := rfl
@[simp] theorem State.returnOrder_policy : (s.returnOrder o b u).policy = s.policy := rfl
@[simp] theorem State.returnOrder_bt :
    (s.returnOrder o b u).bt = { s.bt with slots := tset s.bt.slots o.slot (.bound b.orderless) } := by rcases o with ⟨q, _, _, _, _⟩; cases q <;> rfl
@[simp] theorem State.returnOrder_hu : (s.returnOrder o b u).hu = s.hu := rfl
@[simp] theorem State.returnOrder_ct : (s.returnOrder o b u).ct = s.ct := rfl
@[simp] theorem State.returnOrder_au : (s.returnOrder o b u).au = s.au := rfl
@[simp] theorem State.returnOrder_ou :
    (s.returnOrder o b u).ou = { s.ou.setQueue o.queue { s.ou.queue o.queue with waiting := ⟨o, u⟩ :: (s.ou.queue o.queue).waiting } with
      retryCount := min 65535 (s.ou.retryCount + 1) } := by rcases o with ⟨q, _, _, _, _⟩; cases q <;> rfl
@[simp] theorem State.returnOrder_psm : (s.returnOrder o b u).psm = s.psm := rfl
@[simp] theorem State.returnOrder_pu : (s.returnOrder o b u).pu = s.pu := rfl
@[simp] theorem State.returnOrder_mju : (s.returnOrder o b u).mju = s.mju := rfl
@[simp] theorem State.returnOrder_lif : (s.returnOrder o b u).lif = s.lif := rfl
@[simp] theorem State.returnOrder_cfu : (s.returnOrder o b u).cfu = s.cfu := rfl
@[simp] theorem State.returnOrder_choices : (s.returnOrder o b u).choices = s.choices := rfl
@[simp] theorem State.returnOrder_pending : (s.returnOrder o b u).pending = s.pending := rfl
end

/-! ### advise -/

section
variable (kind : AdviceKind) (urgency : HoldStage)
@[simp] theorem State.advise_seconds : (s.advise kind urgency).seconds = s.seconds := rfl
@[simp] theorem State.advise_policy : (s.advise kind urgency).policy = s.policy := rfl
@[simp] theorem State.advise_bt : (s.advise kind urgency).bt = s.bt := rfl
@[simp] theorem State.advise_hu : (s.advise kind urgency).hu = s.hu := rfl
@[simp] theorem State.advise_ct : (s.advise kind urgency).ct = s.ct := rfl
@[simp] theorem State.advise_au : (s.advise kind urgency).au = s.au := rfl
@[simp] theorem State.advise_ou : (s.advise kind urgency).ou = s.ou := rfl
@[simp] theorem State.advise_psm : (s.advise kind urgency).psm = s.psm := rfl
@[simp] theorem State.advise_pu : (s.advise kind urgency).pu = s.pu := rfl
@[simp] theorem State.advise_mju : (s.advise kind urgency).mju = s.mju := rfl
@[simp] theorem State.advise_lif :
    (s.advise kind urgency).lif = { s.lif with
      advice := some ⟨kind, urgency, dirtyCount s.bt.slots, oldestDirtyAge s.seconds s.bt.slots, s.ou.queued⟩ } := rfl
@[simp] theorem State.advise_cfu : (s.advise kind urgency).cfu = s.cfu := rfl
@[simp] theorem State.advise_choices : (s.advise kind urgency).choices = s.choices := rfl
@[simp] theorem State.advise_pending : (s.advise kind urgency).pending = s.pending := rfl
end

/-! ### startSpinUp -/

section
variable (stage : HoldStage)
@[simp] theorem State.startSpinUp_seconds : (s.startSpinUp stage).seconds = s.seconds := rfl
@[simp] theorem State.startSpinUp_policy : (s.startSpinUp stage).policy = s.policy := rfl
@[simp] theorem State.startSpinUp_bt : (s.startSpinUp stage).bt = s.bt := rfl
@[simp] theorem State.startSpinUp_hu : (s.startSpinUp stage).hu = s.hu := rfl
@[simp] theorem State.startSpinUp_ct : (s.startSpinUp stage).ct = s.ct := rfl
@[simp] theorem State.startSpinUp_au : (s.startSpinUp stage).au = s.au := rfl
@[simp] theorem State.startSpinUp_ou : (s.startSpinUp stage).ou = s.ou := rfl
@[simp] theorem State.startSpinUp_psm :
    (s.startSpinUp stage).psm = { s.psm with spinUp := some ⟨stage, after s.seconds 15, 1⟩ } := rfl
@[simp] theorem State.startSpinUp_pu : (s.startSpinUp stage).pu = s.pu := rfl
@[simp] theorem State.startSpinUp_mju : (s.startSpinUp stage).mju = s.mju := rfl
@[simp] theorem State.startSpinUp_lif :
    (s.startSpinUp stage).lif = { s.lif with
      advice := some ⟨.spinUp, stage, dirtyCount s.bt.slots, oldestDirtyAge s.seconds s.bt.slots, s.ou.queued⟩ } := rfl
@[simp] theorem State.startSpinUp_cfu : (s.startSpinUp stage).cfu = s.cfu := rfl
@[simp] theorem State.startSpinUp_choices : (s.startSpinUp stage).choices = s.choices := rfl
@[simp] theorem State.startSpinUp_pending : (s.startSpinUp stage).pending = s.pending := rfl
end

/-! ### startFrame -/

section
variable (f : Frame)
@[simp] theorem State.startFrame_seconds : (s.startFrame f).seconds = s.seconds := rfl
@[simp] theorem State.startFrame_policy : (s.startFrame f).policy = s.policy := rfl
@[simp] theorem State.startFrame_bt : (s.startFrame f).bt = s.bt := rfl
@[simp] theorem State.startFrame_hu : (s.startFrame f).hu = s.hu := rfl
@[simp] theorem State.startFrame_ct : (s.startFrame f).ct = s.ct := rfl
@[simp] theorem State.startFrame_au : (s.startFrame f).au = s.au := rfl
@[simp] theorem State.startFrame_ou : (s.startFrame f).ou = s.ou := rfl
@[simp] theorem State.startFrame_psm : (s.startFrame f).psm = s.psm := rfl
@[simp] theorem State.startFrame_pu : (s.startFrame f).pu = s.pu := rfl
@[simp] theorem State.startFrame_mju : (s.startFrame f).mju = s.mju := rfl
@[simp] theorem State.startFrame_lif :
    (s.startFrame f).lif = { s.lif with credit := s.lif.credit - 1, upLane := some f } := rfl
@[simp] theorem State.startFrame_cfu : (s.startFrame f).cfu = s.cfu := rfl
@[simp] theorem State.startFrame_choices : (s.startFrame f).choices = s.choices := rfl
@[simp] theorem State.startFrame_pending : (s.startFrame f).pending = s.pending := rfl
end

end Sys2Proof.Machine
end

