-- ==== Sys2Proof/Laws/Table.lean ====
section
/-! SUPPORT. What the sparse tables keep and give back: read after write, the canonical form, and the views that search a
table (the residency index, the bound slots). -/

namespace Sys2Proof.Machine

variable {α : Type}

/-! ### Read after write -/

@[simp] theorem tget_tset_same (l : List (Nat × α)) (k : Nat) (a : α) : tget (tset l k a) k = some a := by
  induction l with
  | nil => simp [tset, tget]
  | cons p rest ih =>
    obtain ⟨i, b⟩ := p
    simp only [tset]
    split
    · simp [tget]
    · split
      · simp [tget]
      · simp [tget, ih]; omega

theorem tget_tset_ne (l : List (Nat × α)) {k j : Nat} (a : α) (h : j ≠ k) : tget (tset l k a) j = tget l j := by
  induction l with
  | nil => simp [tset, tget, h.symm]
  | cons p rest ih =>
    obtain ⟨i, b⟩ := p
    simp only [tset]
    split
    · simp [tget, h.symm]
    · split
      · subst_vars; simp [tget, h.symm]
      · simp [tget, ih]

@[simp] theorem tget_terase_same (l : List (Nat × α)) (k : Nat) : tget (terase l k) k = none := by
  induction l with
  | nil => rfl
  | cons p rest ih =>
    obtain ⟨i, b⟩ := p
    simp only [terase]
    split
    · exact ih
    · simp [tget, *]

theorem tget_terase_ne (l : List (Nat × α)) {k j : Nat} (h : j ≠ k) : tget (terase l k) j = tget l j := by
  induction l with
  | nil => rfl
  | cons p rest ih =>
    obtain ⟨i, b⟩ := p
    simp only [terase]
    split
    · subst_vars; simp [tget, ih, h.symm]
    · simp [tget, ih]

/-- A table mapped key by key. -/
theorem tget_map {β : Type} (l : List (Nat × α)) (f : Nat → α → β) (k : Nat) :
    tget (l.map fun p => (p.1, f p.1 p.2)) k = (tget l k).map (f k) := by
  induction l with
  | nil => rfl
  | cons p rest ih =>
    obtain ⟨i, b⟩ := p
    simp only [List.map_cons, tget]
    split <;> simp_all

/-! ### The canonical form -/

theorem tsorted_cons (i : Nat) (a : α) (rest : List (Nat × α)) :
    tsorted ((i, a) :: rest) = true ↔ (∀ p ∈ rest, i < p.1) ∧ tsorted rest = true := by simp [tsorted]

/-- Every key of a table after a write is the key written or one of before. -/
theorem mem_tset (l : List (Nat × α)) (k : Nat) (a : α) (p : Nat × α) (h : p ∈ tset l k a) : p = (k, a) ∨ p ∈ l := by
  induction l with
  | nil => simpa [tset] using h
  | cons q rest ih =>
    obtain ⟨i, b⟩ := q
    simp only [tset] at h
    split at h
    · simpa using h
    · split at h
      · simp only [List.mem_cons] at h ⊢; tauto
      · simp only [List.mem_cons] at h ⊢; tauto

theorem mem_terase (l : List (Nat × α)) (k : Nat) (p : Nat × α) : p ∈ terase l k ↔ p ∈ l ∧ p.1 ≠ k := by
  induction l with
  | nil => simp [terase]
  | cons q rest ih =>
    obtain ⟨i, b⟩ := q
    simp only [terase]
    split
    · rw [ih]; simp only [List.mem_cons]; constructor
      · rintro ⟨h1, h2⟩; exact ⟨.inr h1, h2⟩
      · rintro ⟨rfl | h1, h2⟩
        · exact absurd ‹i = k› h2
        · exact ⟨h1, h2⟩
    · simp only [List.mem_cons, ih]; constructor
      · rintro (rfl | ⟨h1, h2⟩)
        · exact ⟨.inl rfl, by assumption⟩
        · exact ⟨.inr h1, h2⟩
      · rintro ⟨rfl | h1, h2⟩
        · exact .inl rfl
        · exact .inr ⟨h1, h2⟩

theorem tsorted_tset (l : List (Nat × α)) (k : Nat) (a : α) (h : tsorted l = true) : tsorted (tset l k a) = true := by
  induction l with
  | nil => simp [tset, tsorted]
  | cons q rest ih =>
    obtain ⟨i, b⟩ := q
    rw [tsorted_cons] at h
    simp only [tset]
    split
    · rw [tsorted_cons, tsorted_cons]
      refine ⟨?_, h⟩
      intro p hp
      rcases List.mem_cons.mp hp with rfl | hp
      · assumption
      · exact lt_trans ‹k < i› (h.1 p hp)
    · split
      · subst_vars; rw [tsorted_cons]; exact h
      · rw [tsorted_cons]
        refine ⟨fun p hp => ?_, ih h.2⟩
        rcases mem_tset _ _ _ _ hp with rfl | hp
        · show i < k; omega
        · exact h.1 p hp

theorem tsorted_terase (l : List (Nat × α)) (k : Nat) (h : tsorted l = true) : tsorted (terase l k) = true := by
  induction l with
  | nil => rfl
  | cons q rest ih =>
    obtain ⟨i, b⟩ := q
    rw [tsorted_cons] at h
    simp only [terase]
    split
    · exact ih h.2
    · rw [tsorted_cons]
      exact ⟨fun p hp => h.1 p ((mem_terase _ _ _).mp hp).1, ih h.2⟩

/-- In a table in canonical form an entry is listed exactly where its key reads as it. -/
theorem tget_eq_some (l : List (Nat × α)) (h : tsorted l = true) (k : Nat) (a : α) :
    tget l k = some a ↔ (k, a) ∈ l := by
  induction l with
  | nil => simp [tget]
  | cons q rest ih =>
    obtain ⟨i, b⟩ := q
    rw [tsorted_cons] at h
    simp only [tget, List.mem_cons, Prod.mk.injEq]
    split
    · subst_vars
      constructor
      · rintro ⟨⟩; exact .inl ⟨rfl, rfl⟩
      · rintro (⟨_, rfl⟩ | h2)
        · rfl
        · exact absurd (h.1 _ h2) (by simp)
    · rw [ih h.2]
      constructor
      · exact .inr
      · rintro (⟨h3, _⟩ | h2)
        · exact absurd h3.symm ‹_›
        · exact h2

/-! ### Bindings -/

theorem bindingAt_eq_some (slots : List (Nat × Slot)) (k : Nat) (b : Binding) :
    bindingAt slots k = some b ↔ tget slots k = some (.bound b) := by
  unfold bindingAt
  cases h : tget slots k with
  | none => simp
  | some v => cases v <;> simp

@[simp] theorem bindingAt_tset_same (slots : List (Nat × Slot)) (k : Nat) (b : Binding) :
    bindingAt (tset slots k (.bound b)) k = some b := by simp [bindingAt]

theorem bindingAt_tset_ne (slots : List (Nat × Slot)) {k j : Nat} (v : Slot) (h : j ≠ k) :
    bindingAt (tset slots k v) j = bindingAt slots j := by simp [bindingAt, tget_tset_ne _ _ h]

@[simp] theorem bindingAt_retired (slots : List (Nat × Slot)) (k : Nat) :
    bindingAt (tset slots k .retired) k = none := by simp [bindingAt]

@[simp] theorem bindingAt_terase_same (slots : List (Nat × Slot)) (k : Nat) :
    bindingAt (terase slots k) k = none := by simp [bindingAt]

theorem bindingAt_terase_ne (slots : List (Nat × Slot)) {k j : Nat} (h : j ≠ k) :
    bindingAt (terase slots k) j = bindingAt slots j := by simp [bindingAt, tget_terase_ne _ h]

theorem mem_bindingsOf (slots : List (Nat × Slot)) (k : Nat) (b : Binding) :
    (k, b) ∈ bindingsOf slots ↔ (k, Slot.bound b) ∈ slots := by
  induction slots with
  | nil => simp [bindingsOf]
  | cons p rest ih => obtain ⟨i, v⟩ := p; cases v <;> simp [bindingsOf, ih]

/-- The bound slots are those that read as bindings. -/
theorem mem_bindingsOf_iff (slots : List (Nat × Slot)) (h : tsorted slots = true) (k : Nat) (b : Binding) :
    (k, b) ∈ bindingsOf slots ↔ bindingAt slots k = some b := by
  rw [mem_bindingsOf, bindingAt_eq_some, tget_eq_some _ h]

/-- The residency index finds a bound slot that holds the extent (R11). -/
theorem residency_some (slots : List (Nat × Slot)) (x k : Nat) (b : Binding) (h : residency slots x = some (k, b)) :
    (k, b) ∈ bindingsOf slots ∧ b.extent = x := by
  induction slots with
  | nil => simp [residency] at h
  | cons p rest ih =>
    obtain ⟨i, v⟩ := p
    cases v with
    | retired => simpa [bindingsOf] using ih (by simpa [residency] using h)
    | bound c =>
      simp only [residency] at h
      split at h
      · obtain ⟨rfl, rfl⟩ := Prod.mk.inj (Option.some.inj h); exact ⟨by simp [bindingsOf], by assumption⟩
      · exact ⟨by simp [bindingsOf, (ih h).1], (ih h).2⟩

/-- The residency index finds nothing exactly when no bound slot holds the extent. -/
theorem residency_none (slots : List (Nat × Slot)) (x : Nat) :
    residency slots x = none ↔ ∀ kb ∈ bindingsOf slots, kb.2.extent ≠ x := by
  induction slots with
  | nil => simp [residency, bindingsOf]
  | cons p rest ih =>
    obtain ⟨i, v⟩ := p
    cases v with
    | retired => simpa [bindingsOf, residency] using ih
    | bound c =>
      simp only [residency, bindingsOf]
      split
      · simp; intro h; exact absurd ‹_› h
      · simp [ih]; intro _; assumption

end Sys2Proof.Machine
end

