-- ==== Sys2Proof/Laws/Ops.lean ====
section
/-! SUPPORT. One lemma for each shared operation, saying once everything it can do: the taking of a request, the receiver,
faults, the ends of an order, the delta log, and the up lane. -/

namespace Sys2Proof.Machine

/-! ### The taking of a request (R172, R173) -/

/-- The state that a served request is served in: the frame has left the intake. -/
abbrev State.taken (s : State) (rest : List Frame) : State := s.withIntake rest

theorem handlerFree_iff (s : State) :
    handlerFree s = true ↔
      s.mju.sync = none ∧ s.lif.reply = none ∧ sendingReply s = false ∧ orderStarts s = false := by
  simp [handlerFree, Option.isNone_iff_eq_none, and_assoc]

/-- The last byte of a frame leaves the lane idle, and the credit as it is or 0: nothing else of the state changes. -/
theorem finishFrame_eq (s : State) :
    s.finishFrame = { s with lif := { s.lif with
      upLane := none
      credit := if attn { s with lif := { s.lif with upLane := none } } then s.lif.credit else 0 } } := by
  unfold State.finishFrame State.settleCredit
  split <;> simp [*]

section
variable (s : State)
@[simp] theorem State.finishFrame_bt : s.finishFrame.bt = s.bt := by rw [finishFrame_eq]
@[simp] theorem State.finishFrame_policy : s.finishFrame.policy = s.policy := by rw [finishFrame_eq]
@[simp] theorem State.finishFrame_mju : s.finishFrame.mju = s.mju := by rw [finishFrame_eq]
@[simp] theorem State.finishFrame_reply : s.finishFrame.lif.reply = s.lif.reply := by rw [finishFrame_eq]
@[simp] theorem State.finishFrame_intake : s.finishFrame.lif.intake = s.lif.intake := by rw [finishFrame_eq]
@[simp] theorem State.finishFrame_upLane : s.finishFrame.lif.upLane = none := by rw [finishFrame_eq]
@[simp] theorem State.finishFrame_sendingReply : sendingReply s.finishFrame = false := by simp [sendingReply]
end

theorem replySent_same (s : State) (h : sendingReply s = false) : s.replySent = s := by simp [State.replySent, h]

theorem replySent_finish (s : State) (h : sendingReply s = true) : s.replySent = s.finishFrame := by
  simp [State.replySent, h]

/-- The head of the intake, when it belongs to the row. -/
theorem takeHead_eq (row : RequestRow) (serve : Frame → State → State) (s : State) (f : Frame) (rest : List Frame)
    (hi : s.lif.intake = f :: rest) (hrow : requestRow f = row) :
    takeHead row serve s = some (match phaseRefusal row s.mju.life with
      | some code => (s.taken rest).refer f .phase code 0
      | none =>
        if lengthOk row f.body.length then serve f (s.taken rest)
        else (s.taken rest).refer f .form .badLength f.body.length) := by
  cases hp : phaseRefusal row s.mju.life with
  | some code => simp [takeHead, hi, hrow, hp]
  | none => cases hl : lengthOk row f.body.length <;> simp [takeHead, hi, hrow, hp, hl]

theorem takeRequest_eq (row : RequestRow) (serve : Frame → State → State) (s : State) (f : Frame) (rest : List Frame)
    (hs : s.mju.sync = none) (hr : s.lif.reply = none) (hl : sendingReply s = false) (ho : orderStarts s = false)
    (hi : s.lif.intake = f :: rest) (hrow : requestRow f = row) :
    takeRequest row serve s =
      match phaseRefusal row s.mju.life with
      | some code => (s.taken rest).refer f .phase code 0
      | none =>
        if lengthOk row f.body.length then serve f (s.taken rest)
        else (s.taken rest).refer f .form .badLength f.body.length := by
  unfold takeRequest
  rw [replySent_same s hl, if_pos ((handlerFree_iff s).mpr ⟨hs, hr, hl, ho⟩), takeHead_eq row serve s f rest hi hrow]
  rfl

/-- A request behind a REPLY that is being sent is taken once the REPLY has reached its last byte (R172), if no ORDER frame
starts there (R175). -/
theorem takeRequest_behindReply (row : RequestRow) (serve : Frame → State → State) (s : State) (f : Frame)
    (rest : List Frame) (hs : s.mju.sync = none) (hr : s.lif.reply = none) (hl : sendingReply s = true)
    (ho : orderStarts s.finishFrame = false) (hi : s.lif.intake = f :: rest) (hrow : requestRow f = row) :
    takeRequest row serve s = takeRequest row serve s.finishFrame := by
  have hf : handlerFree s.finishFrame = true := by simp [handlerFree_iff, hs, hr, ho]
  unfold takeRequest
  rw [replySent_finish s hl, replySent_same s.finishFrame (by simp), if_pos hf, if_pos hf,
    takeHead_eq row serve s.finishFrame f rest (by simpa using hi) hrow]
  rfl

/-- Where an ORDER frame starts next, on the idle lane or at the last byte of the REPLY being sent, no request is taken
before it (R175). -/
theorem takeRequest_orderFirst (row : RequestRow) (serve : Frame → State → State) (s : State)
    (hl : s.lif.upLane = none ∨ sendingReply s = true) (hc : 0 < s.lif.credit) (ho : s.lif.orderFrames ≠ []) :
    takeRequest row serve s = s := by
  have h : handlerFree s.replySent = false := by
    rcases hl with hl | hl
    · have hr : sendingReply s = false := by simp [sendingReply, hl]
      simp [replySent_same s hr, handlerFree, orderStarts, hl, hc, ho]
    · simp [replySent_finish s hl, finishFrame_eq, handlerFree, orderStarts, attn, hc, ho]
  simp [takeRequest, h]

/-- A request that passes the checks of R173 is served. -/
theorem takeRequest_served (row : RequestRow) (serve : Frame → State → State) (s : State) (f : Frame)
    (rest : List Frame) (hs : s.mju.sync = none) (hr : s.lif.reply = none) (hl : sendingReply s = false)
    (ho : orderStarts s = false) (hi : s.lif.intake = f :: rest) (hrow : requestRow f = row) (hp : phaseRefusal row s.mju.life = none)
    (hb : lengthOk row f.body.length = true) :
    takeRequest row serve s = serve f (s.taken rest) := by
  simp [takeRequest_eq row serve s f rest hs hr hl ho hi hrow, hp, hb]

/-- Everything the taking of a request can do, from the state `s.replySent` in which it is taken. -/
theorem takeRequest_cases (row : RequestRow) (serve : Frame → State → State) (s : State) :
    takeRequest row serve s = s
    ∨ ∃ u f rest, u = s.replySent ∧ handlerFree u = true ∧ u.lif.intake = f :: rest ∧ requestRow f = row
        ∧ ((∃ code, phaseRefusal row u.mju.life = some code
              ∧ takeRequest row serve s = (u.taken rest).refer f .phase code 0)
          ∨ (phaseRefusal row u.mju.life = none ∧ lengthOk row f.body.length = false
              ∧ takeRequest row serve s = (u.taken rest).refer f .form .badLength f.body.length)
          ∨ (phaseRefusal row u.mju.life = none ∧ lengthOk row f.body.length = true
              ∧ takeRequest row serve s = serve f (u.taken rest))) := by
  by_cases hf : handlerFree s.replySent = true
  · cases hi : s.replySent.lif.intake with
    | nil => left; simp [takeRequest, takeHead, hi]
    | cons f rest =>
      by_cases hrow : requestRow f = row
      · right
        refine ⟨_, f, rest, rfl, hf, hi, hrow, ?_⟩
        unfold takeRequest
        rw [if_pos hf, takeHead_eq row serve _ f rest hi hrow]
        cases hp : phaseRefusal row s.replySent.mju.life with
        | some code => left; exact ⟨code, rfl, rfl⟩
        | none =>
          cases hl : lengthOk row f.body.length with
          | false => right; left; exact ⟨rfl, rfl, by simp⟩
          | true => right; right; exact ⟨rfl, rfl, by simp⟩
      · left; simp [takeRequest, takeHead, hi, hrow]
  · left; simp [takeRequest, hf]

/-- The state in which a request is taken is the state itself, or that with the last REPLY sent. -/
theorem replySent_cases (s : State) : s.replySent = s ∨ sendingReply s = true ∧ s.replySent = s.finishFrame := by
  unfold State.replySent
  split
  · rename_i h; exact .inr ⟨by simp_all, rfl⟩
  · exact .inl rfl

/-- An answer to the request taken, in the terms of the claims. -/
theorem answerOk_taken (s : State) (rest : List Frame) (tag : Tag) (b : OkBody) :
    (s.taken rest).answerOk tag b = s.answered rest tag b := rfl

/-- A refusal of the request taken, in the terms of the claims. -/
theorem refer_taken (s : State) (rest : List Frame) (f : Frame) (key : CondKey) (code : CondCode) (n : Nat) :
    (s.taken rest).refer f key code n = s.refused rest f key code n := rfl

theorem reply_taken (s : State) (rest : List Frame) (tag : Tag) (body : ReplyBody) :
    (s.taken rest).reply tag body = s.replied rest tag body := rfl

/-! ### The receiver (R169 to R171) -/

/-- Everything a notice's row can do. -/
theorem receiveNotice_cases (kind : Byte) (serve : Frame → State → State) (bytes : List Byte) (s : State) :
    receiveNotice kind serve bytes s = s
    ∨ (∃ held, s.event bytes = .quiet held ∧ receiveNotice kind serve bytes s = s.withRx held)
    ∨ ∃ f rest, s.event bytes = .frame f rest ∧ f.kind = kind
        ∧ receiveNotice kind serve bytes s = serve f (s.withRx rest) := by
  unfold receiveNotice
  cases h : s.event bytes with
  | quiet held => exact .inr (.inl ⟨held, rfl, rfl⟩)
  | pull rest => exact .inl rfl
  | bad rest => exact .inl rfl
  | frame f rest =>
    by_cases hk : f.kind = kind
    · exact .inr (.inr ⟨f, rest, rfl, hk, by simp [hk]⟩)
    · exact .inl (by simp [hk])

/-! ### Faults (R187) -/

/-- A fault changes the fault table and the overflow count alone. -/
theorem recordFault_frame (s : State) (kind : FaultKind) (subject : Subject) :
    s.recordFault kind subject = { s with cfu := (s.recordFault kind subject).cfu }
      ∧ (s.recordFault kind subject).cfu.cond = s.cfu.cond := by
  unfold State.recordFault
  cases foldFault s.seconds kind subject s.cfu.faults with
  | some _ => exact ⟨rfl, rfl⟩
  | none => dsimp only; split <;> exact ⟨rfl, rfl⟩

section
variable (s : State) (kind : FaultKind) (subject : Subject)
@[simp] theorem State.recordFault_seconds : (s.recordFault kind subject).seconds = s.seconds := by
  rw [(recordFault_frame s kind subject).1]
@[simp] theorem State.recordFault_policy : (s.recordFault kind subject).policy = s.policy := by
  rw [(recordFault_frame s kind subject).1]
@[simp] theorem State.recordFault_bt : (s.recordFault kind subject).bt = s.bt := by
  rw [(recordFault_frame s kind subject).1]
@[simp] theorem State.recordFault_hu : (s.recordFault kind subject).hu = s.hu := by
  rw [(recordFault_frame s kind subject).1]
@[simp] theorem State.recordFault_ct : (s.recordFault kind subject).ct = s.ct := by
  rw [(recordFault_frame s kind subject).1]
@[simp] theorem State.recordFault_au : (s.recordFault kind subject).au = s.au := by
  rw [(recordFault_frame s kind subject).1]
@[simp] theorem State.recordFault_ou : (s.recordFault kind subject).ou = s.ou := by
  rw [(recordFault_frame s kind subject).1]
@[simp] theorem State.recordFault_psm : (s.recordFault kind subject).psm = s.psm := by
  rw [(recordFault_frame s kind subject).1]
@[simp] theorem State.recordFault_pu : (s.recordFault kind subject).pu = s.pu := by
  rw [(recordFault_frame s kind subject).1]
@[simp] theorem State.recordFault_mju : (s.recordFault kind subject).mju = s.mju := by
  rw [(recordFault_frame s kind subject).1]
@[simp] theorem State.recordFault_lif : (s.recordFault kind subject).lif = s.lif := by
  rw [(recordFault_frame s kind subject).1]
@[simp] theorem State.recordFault_choices : (s.recordFault kind subject).choices = s.choices := by
  rw [(recordFault_frame s kind subject).1]
@[simp] theorem State.recordFault_pending : (s.recordFault kind subject).pending = s.pending := by
  rw [(recordFault_frame s kind subject).1]
end

/-- What the fold of a fault answers. -/
theorem foldFault_some (now : Time) (kind : FaultKind) (subject : Subject) (es out : List FaultEntry) :
    foldFault now kind subject es = some out ↔
      ∃ before e behind, es = before ++ e :: behind ∧ e.kind = kind ∧ e.subject = subject
        ∧ (∀ e' ∈ before, ¬(e'.kind = kind ∧ e'.subject = subject))
        ∧ out = before ++ { e with repeats := min 255 (e.repeats + 1), last := now } :: behind := by
  induction es generalizing out with
  | nil => simp [foldFault]
  | cons e es ih =>
    by_cases h : e.kind = kind ∧ e.subject = subject
    · simp only [foldFault, h, and_self, if_true, Option.some.injEq]
      constructor
      · rintro rfl; exact ⟨[], e, es, rfl, h.1, h.2, by simp, by simp [h.1, h.2]⟩
      · rintro ⟨before, e', behind, h1, h2, h3, h4, rfl⟩
        cases before with
        | nil => simp only [List.nil_append, List.cons.injEq] at h1; obtain ⟨rfl, rfl⟩ := h1; simp [h.1, h.2]
        | cons a l =>
          simp only [List.cons_append, List.cons.injEq] at h1
          exact absurd (h1.1 ▸ h) (h4 a (by simp))
    · simp only [foldFault, h, if_false, Option.map_eq_some_iff]
      constructor
      · rintro ⟨out', h1, rfl⟩
        obtain ⟨before, e', behind, rfl, h2, h3, h4, rfl⟩ := (ih out').mp h1
        refine ⟨e :: before, e', behind, rfl, h2, h3, ?_, rfl⟩
        intro e2 he2
        rcases List.mem_cons.mp he2 with rfl | he2
        · exact h
        · exact h4 _ he2
      · rintro ⟨before, e', behind, h1, h2, h3, h4, rfl⟩
        cases before with
        | nil => simp only [List.nil_append, List.cons.injEq] at h1; obtain ⟨rfl, rfl⟩ := h1; exact absurd ⟨h2, h3⟩ h
        | cons a l =>
          simp only [List.cons_append, List.cons.injEq] at h1
          obtain ⟨rfl, rfl⟩ := h1
          exact ⟨_, (ih _).mpr ⟨l, e', behind, rfl, h2, h3, fun e2 he2 => h4 e2 (by simp [he2]), rfl⟩, rfl⟩

theorem foldFault_none (now : Time) (kind : FaultKind) (subject : Subject) (es : List FaultEntry) :
    foldFault now kind subject es = none ↔ ∀ e ∈ es, ¬(e.kind = kind ∧ e.subject = subject) := by
  induction es with
  | nil => simp [foldFault]
  | cons e es ih =>
    by_cases h : e.kind = kind ∧ e.subject = subject
    · simp [foldFault, h]
    · simp only [foldFault, if_neg h, Option.map_eq_none_iff, ih, List.forall_mem_cons]
      exact ⟨fun h2 => ⟨h, h2⟩, And.right⟩

/-! ### The ends of an order (R10, R16, R110, R111) -/

/-- Everything the end of an order can do to its slot: RETIRED, FREE, or HELD. -/
theorem leaveOrder_cases (s : State) (k : Nat) (b : Binding) (free : Bool) :
    ((2 ≤ b.strikes ∧ b.dirty = 0#64) ∧ s.leaveOrder k b free = s.retire k b)
    ∨ ((b.strikes < 2 ∧ free = true ∧ b.dirty = 0#64 ∧ b.owners = 0#4) ∧ s.leaveOrder k b free = s.release k)
    ∨ (((b.strikes < 2 ∨ b.dirty ≠ 0#64) ∧ (free = false ∨ b.dirty ≠ 0#64 ∨ b.owners ≠ 0#4))
        ∧ s.leaveOrder k b free = (s.setBinding k { b.orderless with state := .held }).startScanIf b.pinned) := by
  unfold State.leaveOrder
  by_cases hc : 2 ≤ b.strikes <;> by_cases hd : b.dirty = 0#64 <;> by_cases ho : b.owners = 0#4 <;> cases free <;>
    simp_all [Binding.condemned, Binding.isDirty, Binding.pinned, BlockSet.none]

/-- A counted failure returns the order with one attempt less, or exhausts it. -/
theorem countFailure_eq (s : State) (o : Order) (b : Binding) :
    s.countFailure o b =
      if o.attempts ≤ 1 then s.exhaust { o with attempts := 0, backoff := 0 } b
      else s.returnOrder { o with attempts := o.attempts - 1, backoff := 0 } b none := rfl

/-- The exhaustion of a pin fill or a drain halts its queue. -/
theorem exhaust_halts (s : State) (o : Order) (b : Binding) (h : o.queue ≠ .heatFill) :
    s.exhaust o b =
      ((s.recordFault .orderExhausted (.queue o.queue)).leaveOrder o.slot b false).setHalted o.queue true := by
  obtain ⟨q, k, x, a, i⟩ := o
  cases q
  · rfl
  · exact absurd rfl h
  · rfl

/-! ### The delta log (R18, R154) -/

/-- The log grows at its end alone. -/
theorem grownLog_prefix (now : Time) (before after : List (Nat × Slot)) (log : List LogEntry) (ks : List Nat) :
    log <+: grownLog now before after log ks := by
  induction ks generalizing log with
  | nil => exact List.prefix_refl log
  | cons k ks ih =>
    refine List.IsPrefix.trans ?_ (ih (addEntry now before after log k))
    unfold addEntry
    split
    · exact List.prefix_append _ _
    · exact List.prefix_refl _

/-- Where no slot's persisted form has changed, the log stays. -/
theorem grownLog_same (now : Time) (before after : List (Nat × Slot)) (log : List LogEntry) (ks : List Nat)
    (h : ∀ k ∈ ks, persistedChanged before after k = false) : grownLog now before after log ks = log := by
  induction ks generalizing log with
  | nil => rfl
  | cons k ks ih =>
    have h1 : addEntry now before after log k = log := by simp [addEntry, h k (by simp)]
    show grownLog now before after (addEntry now before after log k) ks = log
    rw [h1]; exact ih log fun j hj => h j (by simp [hj])

/-- One slot: the log grows by its entry, or stays. -/
theorem grownLog_single (now : Time) (before after : List (Nat × Slot)) (log : List LogEntry) (k : Nat) :
    grownLog now before after log [k] =
      if persistedChanged before after k = true ∧ inLog log k = false then log ++ [⟨k, now⟩] else log := by
  cases h1 : persistedChanged before after k <;> cases h2 : inLog log k <;> simp [grownLog, addEntry, h1, h2]

theorem inLog_append (log : List LogEntry) (e : LogEntry) (k : Nat) :
    inLog (log ++ [e]) k = (inLog log k || e.slot == k) := by simp [inLog]

/-- After a change the log has an entry for each slot whose persisted form changed, and keeps those it had. -/
theorem inLog_grownLog (now : Time) (before after : List (Nat × Slot)) (log : List LogEntry) (ks : List Nat) (j : Nat) :
    inLog (grownLog now before after log ks) j = true ↔
      inLog log j = true ∨ j ∈ ks ∧ persistedChanged before after j = true := by
  induction ks generalizing log with
  | nil => simp [grownLog]
  | cons k ks ih =>
    show inLog (grownLog now before after (addEntry now before after log k) ks) j = true ↔ _
    rw [ih]
    unfold addEntry
    cases h1 : persistedChanged before after k <;> cases h2 : inLog log k
    · simp; constructor
      · rintro (h | ⟨h, h3⟩) <;> tauto
      · rintro (h | ⟨rfl | h, h3⟩)
        · tauto
        · rw [h1] at h3; exact absurd h3 (by simp)
        · tauto
    · simp; constructor
      · rintro (h | ⟨h, h3⟩) <;> tauto
      · rintro (h | ⟨rfl | h, h3⟩)
        · tauto
        · rw [h1] at h3; exact absurd h3 (by simp)
        · tauto
    · simp only [Bool.true_and, Bool.not_false, if_true, inLog_append, Bool.or_eq_true, beq_iff_eq, List.mem_cons]
      constructor
      · rintro ((h | rfl) | ⟨h, h3⟩) <;> tauto
      · rintro (h | ⟨rfl | h, h3⟩) <;> tauto
    · simp only [Bool.not_true, Bool.and_false, if_false, Bool.false_eq_true, List.mem_cons]
      constructor
      · rintro (h | ⟨h, h3⟩) <;> tauto
      · rintro (h | ⟨rfl | h, h3⟩) <;> tauto

/-! ### The up lane (R167, R175) -/

/-- With the lane idle ATTN is asserted exactly while a frame waits or is asked for. -/
theorem attn_idle (s : State) (h : s.lif.upLane = none) : attn s = (upChoice s).isSome := by
  cases h1 : s.lif.reply <;> cases h2 : s.lif.orderFrames <;> cases h3 : s.lif.deltaAsking <;>
    cases h4 : s.mju.exporting <;> cases h5 : s.lif.advice <;> simp [attn, upChoice, *]

/-- A row of the lane that starts no frame ends the one being sent, if no frame can start behind it. -/
theorem frameEnd_eq (s : State) :
    s.frameEnd = if s.lif.upLane.isSome && !frameFollows s then
      { s with lif := { s.lif with upLane := none, credit := 0 } } else s := by
  unfold State.frameEnd
  split
  · rename_i h
    rw [finishFrame_eq, attn_idle _ rfl]
    have hu : upChoice { s with lif := { s.lif with upLane := none } } = upChoice s := rfl
    rw [hu]
    by_cases hc : s.lif.credit = 0
    · simp [hc]
    · have : (upChoice s).isSome = false := by simp_all [frameFollows]
      simp [this]
  · rfl

/-- The arbiter chooses a class exactly when the class has something and none ahead of it has. -/
theorem granted_reply (s : State) : granted s .reply = true ↔ s.laneFor .reply ∧ s.lif.reply ≠ none := by
  cases h : s.lif.reply <;> cases h2 : s.lif.orderFrames <;> cases h3 : s.lif.deltaAsking <;>
    cases h4 : s.mju.exporting <;> cases h5 : s.lif.advice <;> simp [granted, upChoice, State.laneFor, *]

theorem granted_order (s : State) : granted s .order = true ↔ s.laneFor .order ∧ s.lif.orderFrames ≠ [] := by
  cases h : s.lif.reply <;> cases h2 : s.lif.orderFrames <;> cases h3 : s.lif.deltaAsking <;>
    cases h4 : s.mju.exporting <;> cases h5 : s.lif.advice <;> simp [granted, upChoice, State.laneFor, *]

theorem granted_delta (s : State) : granted s .delta = true ↔ s.laneFor .delta ∧ s.lif.deltaAsking = true := by
  cases h : s.lif.reply <;> cases h2 : s.lif.orderFrames <;> cases h3 : s.lif.deltaAsking <;>
    cases h4 : s.mju.exporting <;> cases h5 : s.lif.advice <;> simp [granted, upChoice, State.laneFor, *]

theorem granted_exporting (s : State) :
    granted s .exporting = true ↔ s.laneFor .exporting ∧ s.mju.exporting ≠ none := by
  cases h : s.lif.reply <;> cases h2 : s.lif.orderFrames <;> cases h3 : s.lif.deltaAsking <;>
    cases h4 : s.mju.exporting <;> cases h5 : s.lif.advice <;> simp [granted, upChoice, State.laneFor, *]

theorem granted_advice (s : State) : granted s .advice = true ↔ s.laneFor .advice ∧ s.lif.advice ≠ none := by
  cases h : s.lif.reply <;> cases h2 : s.lif.orderFrames <;> cases h3 : s.lif.deltaAsking <;>
    cases h4 : s.mju.exporting <;> cases h5 : s.lif.advice <;> simp [granted, upChoice, State.laneFor, *]

end Sys2Proof.Machine
end

