-- ==== Sys2Proof/WellFormed.lean ====
section
/-! DEFINITION. Which commands are well formed: an operand that names a row, a slot or a tag names one that can be.
The rows of the down lane and the requests have no check here: any bytes can arrive, and the part itself checks
them (R169 to R173). -/

namespace Sys2Proof

/-- The well-formed commands: a row index 0..8191 (R41), a slot 0..32767 (N is at most 32,768), an issue tag
that is not 0 (R104). -/
def Instr.wf : Instr → Bool
  | .rowExpiry row => decide (row < Config.candidateSets * Config.candidateWays)
  | .barEnd row => decide (row < Config.candidateSets * Config.candidateWays)
  | .backoffEnd slot => decide (slot < 32768)
  | .orderTimeout tag => decide (tag ≠ 0#16)
  | .powerOn | .resetLine | .secondsAdvance | .deltaDelayExpiry | .spinUpCadence | .mainsCadence => true
  | .restAdvice | .drainPickerRun | .promotionPickerRun | .refillScan | .dispatch | .takeItem => true
  | .pullByte _ | .badFrame _ | .requestIntake _ | .access _ | .platter _ | .supply _ => true
  | .attach | .importBegin | .importPut | .importEnd | .exportMap | .sync => true
  | .lookup | .planWrite | .discard | .pin | .unpin | .unpinAll | .complete => true
  | .skipOn | .skipOff | .resume | .drainAll | .policy | .status | .condition => true
  | .faults | .faultsClear | .resetWarm | .resetCold | .unknownKindRequest => true
  | .sendReply | .sendOrder | .delta | .exportData | .exportEnd | .sendAdvice => true

end Sys2Proof
end

