-- ==== Sys2Proof/Tests/Slice0.lean ====
section
/-! SUPPORT. Our own tests: ill-formed commands, one step of each command against the manual's worked examples, and for
each statement with premises a state and operands that meet them. -/

namespace Sys2Proof.Tests

open Sys2Proof.Machine

-- One theorem at a time: many kernel evaluations at once want more threads than a small machine gives.
set_option Elab.async false

/-! ### Ill-formed commands -/

theorem test_wf_refuses_row_expiry : (Instr.rowExpiry 8192).wf = false := by decide
theorem test_wf_refuses_bar_end : (Instr.barEnd 8192).wf = false := by decide
theorem test_wf_refuses_backoff_end : (Instr.backoffEnd 32768).wf = false := by decide
theorem test_wf_refuses_order_timeout : (Instr.orderTimeout 0#16).wf = false := by decide
theorem test_wf_takes_the_last_row : (Instr.rowExpiry 8191).wf = true ∧ (Instr.orderTimeout 65535#16).wf = true := by decide
theorem test_no_word_spells_a_command : decodeTableWord 8 0xA7 = none := by decide

/-! ### Small states -/

/-- The next state of a command. -/
def run (c : Instr) (s : State) : Option State :=
  match exec c s with
  | .next t => some t
  | .fault _ => none
  | .refused _ => none

/-- An ACTIVE part with N 1,024 and E 20,000 at second 7,000, no alert set. -/
def lab (slots : List (Nat × Slot)) (rows : List (Nat × Row)) : State :=
  { State.reset with
    seconds := 7000#32
    policy := { Policy.default with sLim := 128, pinLimit := 256 }
    bt := ⟨1024, 20000, slots⟩
    ct := ⟨rows, 0⟩
    pu := ⟨none, none, none, none, 0⟩
    mju := { Journal.reset with life := .active } }

/-- `s` at a second. -/
def at' (s : State) (t : Time) : State := { s with seconds := t }

/-- `s` with the platter READY. -/
def spun (s : State) : State := { s with psm := { s.psm with platter := .ready } }

/-- `s` with a request of tag 7 waiting. -/
def ask (s : State) (kind : Byte) (body : List Byte) : State := { s with lif := { s.lif with intake := [⟨kind, 7#16, body⟩] } }

/-- The request of tag 7 that `ask` puts there. -/
def rangeFrame (kind : Byte) (body : List Byte) : Frame := ⟨kind, 7#16, body⟩

/-- `s` with `n` entries in the log, made at second `t`, for slots from `first` on. -/
def logged (s : State) (first n : Nat) (t : Time) : State :=
  { s with mju := { s.mju with log := (List.range n).map fun i => ⟨first + i, t⟩ } }

/-- `s` with pull credit. -/
def pulled (s : State) : State := { s with lif := { s.lif with credit := 3 } }

/-- A binding with no order, pin, strike or heat. -/
def bound (state : BindState) (x : Nat) (valid dirty : BlockSet) (since : Option Time) : Binding :=
  ⟨state, x, valid, dirty, none, none, 0#4, 0, 0, since, 0, none⟩

/-- The offsets `lo` to `hi - 1`. -/
def offs (lo hi : Nat) : BlockSet := BlockSet.span lo hi

def full : BlockSet := BlockSet.full

/-- The binding of a slot, after a command. -/
def slotAfter (c : Instr) (s : State) (k : Nat) : Option Binding := (run c s).bind fun t => bindingAt t.bt.slots k

/-- The reply made by a command. -/
def replyOf (c : Instr) (s : State) : Option ReplyBody := (run c s).bind fun t => t.lif.reply.map Reply.body

/-- The record of a command's condition. -/
def condOf (c : Instr) (s : State) : Option Condition := (run c s).map fun t => t.cfu.cond

/-- A waiting order. -/
def waits (q : QueueId) (k x attempts backoff : Nat) : Waiting := ⟨⟨q, k, x, attempts, backoff⟩, none⟩

/-! ### Reset and the clock -/

/-- R20, R104, R150. -/
theorem test_power_on : (run .powerOn (lab [(3, .retired)] [])).map (fun t => (t.bt.n, t.bt.slots, t.ou.tagCounter, t.pu.alert0))
    = some (0, [], 1#16, some .pinsLost) := by decide

/-- R165, R190. -/
theorem test_reset_line : (run .resetLine (lab [] [])).map (fun t => (t.mju.life, t.seconds)) = some (.unbound, 0#32) := by
  decide

/-- The table of R57: r 32, T 1,023, accumulator 32. -/
theorem test_refill : (run .secondsAdvance { lab [] [] with au := ⟨1023, 32, 0⟩ }).map (fun t => (t.au.tokens, t.au.acc))
    = some (1024, 4) := by decide

/-- R33 and the table of R35: heat 448 falls to 392 at a visit, and idle age 1,023 stays. -/
theorem test_decay :
    (slotAfter .secondsAdvance (lab [(5, .bound { bound .held 1 full 0#64 none with heat := 448, idle := 1023 })] []) 5).map
      (fun b => (b.heat, b.idle)) = some (392, 1023) := by decide

/-- R48. -/
theorem test_row_expiry : (run (.rowExpiry 8) (lab [] [(8, .watching ⟨1, 0, 300, false, true⟩)])).map (fun t => t.ct.rows)
    = some [] := by decide

/-- Event 5 of section 3.8: the bar of row 2,121 ends at second 8,000, and not before. -/
theorem test_bar_end :
    (run (.barEnd 2121) (at' (lab [] [(2121, .barred 19721 8000#32)]) 8000#32)).map (fun t => t.ct.rows) = some []
    ∧ (run (.barEnd 2121) (at' (lab [] [(2121, .barred 19721 8000#32)]) 7999#32)).map (fun t => t.ct.rows)
      = some [(2121, .barred 19721 8000#32)] := by decide

/-- The fill of section 6.8 in backoff until 1,022. -/
def backing : State :=
  let s := spun (at' (lab [(7, .bound (bound .filling 15625 (offs 0 24) 0#64 none))] []) 1022#32)
  s.setWaiting .heatFill [⟨⟨.heatFill, 7, 15625, 3, 1⟩, some 1022#32⟩]

/-- Event 6 of section 6.8: the backoff ends at second 1,022. -/
theorem test_backoff_end : (run (.backoffEnd 7) backing).map (fun t => t.ou.heatFill.waiting)
    = some [waits .heatFill 7 15625 3 1] := by decide

/-- The drain of section 6.9, tag 301, at second 2,034. -/
def timing : State :=
  let s := spun (at' (lab [(30, .bound { bound .draining 4000 full (offs 8 16) (some 2004#32) with
    tag := some 301#16, redirtied := some 0#64 })] []) 2034#32)
  { s with ou := { s.ou with
    issued := [⟨⟨.drain, 30, 4000, 2, 0⟩, offs 8 16, 301#16, 2004#32, true⟩], tagCounter := 302#16, retryCount := 1
    lastKind := some .drain } }

/-- Section 6.9 at 2,034: attempts 1, the order at the head, the retry count 2. -/
theorem test_order_timeout :
    (run (.orderTimeout 301#16) timing).map (fun t => (t.ou.drain.waiting, t.ou.issued, t.ou.retryCount))
      = some ([waits .drain 30 4000 1 0], [], 2)
    ∧ (slotAfter (.orderTimeout 301#16) timing 30).map (fun b => (b.state, b.dirty, b.tag))
      = some (.draining, offs 8 16, none) := by decide

/-- R157: with delta delay 2 an entry of second 3,999 asks at 4,001. -/
theorem test_delta_delay : (run .deltaDelayExpiry (at' (logged (lab [] []) 3 1 3999#32) 4001#32)).map
    (fun t => t.lif.deltaAsking) = some true := by decide

/-- The MJU asked at a flush count of 1 for the one entry of the log, made this second; the flush count is 16 again. -/
def stale (s : State) : State :=
  let u := logged s 3 1 s.seconds
  pulled { u with lif := { u.lif with deltaAsking := true } }

/-- R157, R167: at the next test, as the seconds pass or at a change that may enter the log, no condition holds: the MJU asks
no longer, ATTN falls, and the credit with it. -/
theorem test_delta_asks_no_longer :
    (run .deltaDelayExpiry (stale (lab [] []))).map (fun t => (t.lif.deltaAsking, attn t, t.lif.credit)) = some (false, false, 0)
    ∧ (run (.orderTimeout 301#16) (stale timing)).map (fun t => (t.lif.deltaAsking, attn t, t.lif.credit))
      = some (false, false, 0) := by decide

/-! ### Advice -/

/-- The dirty binding of section 7.5, at a second. -/
def staged (t : Time) : State :=
  let s := at' (lab [(5, .bound (bound .held 100 full full (some 10000#32)))] []) t
  { s with psm := { s.psm with spinUpDue := true, mainsDue := true, restDue := true } }

/-- `s` with this spin-up cadence. -/
def cadent (s : State) (c : SpinUp) : State := { s with psm := { s.psm with spinUp := some c } }

/-- Section 7.5 at 10,300, and at 10,345. -/
theorem test_spin_up :
    (run .spinUpCadence (staged 10300#32)).map (fun t => (t.psm.spinUp, t.lif.advice.map Advice.urgency))
      = some (some ⟨.soon, 10315#32, 1⟩, some .soon)
    ∧ (run .spinUpCadence (cadent (staged 10345#32) ⟨.soon, 10345#32, 2⟩)).map (fun t => t.psm.spinUp)
      = some (some ⟨.soon, 10405#32, 3⟩) := by decide

/-- Section 7.5 at 10,525: the stage has changed, and URGENT is advised in place of SOON. -/
theorem test_spin_up_stage :
    (run .spinUpCadence (cadent (staged 10525#32) ⟨.soon, 10525#32, 4⟩)).map
      (fun t => (t.psm.spinUp, t.lif.advice.map Advice.urgency)) = some (some ⟨.urgent, 10540#32, 1⟩, some .urgent) := by
  decide

/-- A pin fill waiting on MAINS. -/
def onMains : State :=
  let s := (lab [] []).setWaiting .pinFill [waits .pinFill 40 302 3 0]
  { s with psm := { s.psm with supply := .mains, mainsDue := true } }

/-- R135: the first advice at once, the next due 60 seconds on. -/
theorem test_mains_cadence : (run .mainsCadence onMains).map (fun t => (t.psm.mains, t.lif.advice.map Advice.urgency))
    = some (some 7060#32, some .soon) := by decide

/-- Quiet since second 6,980 with the platter READY on MAINS. -/
def quiet (t : Time) : State :=
  let s := spun (at' (lab [] []) t)
  { s with psm := { s.psm with supply := .mains, restDue := true, restRef := some 6980#32 } }

/-- R136: REST after the rest delay of 20 seconds, not after 19. -/
theorem test_rest_advice :
    (run .restAdvice (quiet 7000#32)).map (fun t => (t.psm.restGiven, t.lif.advice.map Advice.kind)) = some (true, some .rest)
    ∧ (run .restAdvice (quiet 6999#32)).map (fun t => t.lif.advice) = some none := by decide

/-! ### Runs and dispatch -/

/-- Section 6.9 at second 2,000. -/
def toDrain : State :=
  let s := spun (at' (lab [(30, .bound (bound .held 4000 full (offs 0 16) (some 1970#32)))] []) 2000#32)
  { s with psm := { s.psm with drainRunsOwed := 1 } }

theorem test_drain_picker : (run .drainPickerRun toDrain).map (fun t => t.ou.drain.waiting) = some [waits .drain 30 4000 3 0]
    ∧ (slotAfter .drainPickerRun toDrain 30).map Binding.state = some .draining := by decide

/-- A condemned drain and another wait; slot 12 is condemned and slot 31 older than slot 30. -/
def toDrainMore : State :=
  let s := spun (lab [(10, .bound { bound .draining 10 full 1#64 (some 6000#32) with strikes := 2 }),
    (11, .bound (bound .draining 11 full 1#64 (some 6000#32))),
    (12, .bound { bound .held 12 full 1#64 (some 6999#32) with strikes := 2 }),
    (30, .bound (bound .held 30 full 1#64 (some 6960#32))), (31, .bound (bound .held 31 full 1#64 (some 6950#32))),
    (32, .bound (bound .held 32 full 1#64 (some 6999#32)))] [])
  let t := s.setWaiting .drain [waits .drain 10 10 2 0, waits .drain 11 11 3 0]
  { t with policy := { t.policy with hHold := 3600 }, psm := { t.psm with drainRunsOwed := 1 } }

/-- R98, R128, R129: the condemned drain stands behind the one that waited, the rest at the tail by their age; the age of
slot 32 is below the drain delay. -/
theorem test_drain_picker_order : (run .drainPickerRun toDrainMore).map (fun t => t.ou.drain.waiting.map fun w => w.order.slot)
    = some [10, 12, 11, 31, 30] := by decide +kernel

/-- A part of three slots, the eligible rows of section 4.6 at T 4, and B_max 64. -/
def toPromote : State :=
  let s := spun (lab [(0, .retired)] [(7, .watching ⟨3072, 480, 0, true, false⟩), (41, .watching ⟨5125, 503, 0, true, false⟩),
    (82, .watching ⟨1034, 600, 0, true, false⟩), (300, .watching ⟨2085, 506, 0, true, false⟩)])
  { s with bt := { s.bt with n := 3 }, policy := { s.policy with bMax := 64 }, au := ⟨4, 0, 1⟩ }

/-- Section 4.6: 1,034 and 2,085 are promoted in that order, the other two flags are cleared, T is 2. -/
theorem test_promotion_picker :
    (run .promotionPickerRun toPromote).map (fun t => (t.ou.heatFill.waiting, t.au.tokens, eligibleRows t.ct.rows, t.ct.rows.length))
      = some ([waits .heatFill 1 1034 3 0, waits .heatFill 2 2085 3 0], 2, [], 2) := by decide

/-- A victim of heat 500, a RETIRED slot and no other, and two eligible rows of heat 601 and 700. -/
def fullHouse (tokens : Nat) : State :=
  let s := spun (lab [(0, .bound { bound .held 9 full 0#64 none with heat := 500, strikes := 1 }), (1, .retired)]
    [(8, .watching ⟨1, 601, 0, true, false⟩), (16, .watching ⟨2, 700, 0, true, false⟩)])
  { s with bt := { s.bt with n := 2 }, au := ⟨tokens, 0, 1⟩ }

/-- The HELD bindings of section 4.6. -/
def victims : List (Nat × Slot) :=
  [(2, .bound { bound .held 2 full 0#64 none with heat := 251, idle := 900 }),
   (4, .bound { bound .held 4 full 0#64 none with heat := 250, idle := 30 }),
   (9, .bound { bound .held 9 full 0#64 none with heat := 250, idle := 80 }),
   (11, .bound { bound .held 11 full 8#64 (some 0#32) with heat := 12, idle := 400 }),
   (17, .bound { bound .held 17 full 0#64 none with heat := 0, idle := 1023, owners := 2#4 }),
   (23, .bound { bound .held 23 full 0#64 none with heat := 5, idle := 700, strikes := 2 })]

/-- Section 4.6: the victim is slot 9. -/
theorem test_victim : (victimOf victims fun _ => false).map Prod.fst = some 9 := by decide

/-- Slots 21 and 40 of section 8.10 at event 5. -/
def toRefill : State :=
  let s := lab [(21, .bound { bound .held 301 (offs 10 64) 0#64 none with owners := 3#4 }),
    (40, .bound { bound .held 302 0#64 0#64 none with owners := 2#4 })] []
  { s with au := ⟨900, 0, 0⟩, pu := { s.pu with scansOwed := 1 } }

/-- Event 5 of section 8.10: slot 21, then slot 40, and two tokens. -/
theorem test_refill_scan : (run .refillScan toRefill).map (fun t => (t.ou.pinFill.waiting, t.au.tokens))
    = some ([waits .pinFill 21 301 3 0, waits .pinFill 40 302 3 0], 898) := by decide

/-- The fill of section 6.8 waiting, at second 1,000, with these valid blocks. -/
def toDispatch (valid : BlockSet) : State :=
  let s := (spun (at' (lab [(7, .bound (bound .filling 15625 valid 0#64 none))] []) 1000#32)).setWaiting .heatFill
    [waits .heatFill 7 15625 3 0]
  { s with ou := { s.ou with tagCounter := 212#16, lastKind := some .fill } }

/-- Event 1 of section 6.8. -/
theorem test_dispatch : (run .dispatch (toDispatch 0#64)).map (fun t => (t.ou.issued, t.ou.tagCounter, t.ou.heatFill.waiting))
    = some ([⟨⟨.heatFill, 7, 15625, 3, 0⟩, full, 212#16, 1000#32, false⟩], 213#16, []) := by decide

/-- The example of R104: 65,535 and 1 are held, and 2 is taken. -/
theorem test_tags : freeTag [⟨⟨.drain, 1, 1, 3, 0⟩, 1#64, 65535#16, 0#32, false⟩, ⟨⟨.drain, 2, 2, 3, 0⟩, 1#64, 1#16, 0#32, false⟩]
    2 65535#16 = 2#16 := by decide

/-! ### Heat -/

/-- The READ of section 2.9, T 1,024 and A_eff 448. -/
def toHeat : State :=
  let s := lab [] [(2120, .watching ⟨15625, 330, 212, false, false⟩)]
  { s with au := ⟨1024, 0, 0⟩, hu := { s.hu with intake := [⟨1000037, 40, .read, .platterWoke⟩] } }

/-- Section 2.9: the row of 15,625 comes to heat 458, age 4, eligible; 15,626 gets a row with heat 64. -/
theorem test_take_item : (run .takeItem toHeat).map (fun t => (t.ct.rows, t.hu.trackers, t.hu.intake)) =
    some ([(2120, .watching ⟨15625, 458, 4, true, false⟩), (2128, .watching ⟨15626, 64, 0, false, false⟩)],
      [⟨1000077, 40⟩], []) := by decide

/-- One block of extent 8,458 is written, and its set, 266, is full of rows with this heat. -/
def crowded (heat : Nat) : State :=
  let s := lab [] ((List.range 8).map fun j => (2128 + j, .watching ⟨266 + 1024 * j, heat, if j = 5 then 9 else 3, false, false⟩))
  { s with hu := { s.hu with intake := [⟨64 * 8458, 1, .write, .flash⟩] } }

/-- R42 to R44: heat 4 gives way to the contribution 4 of a write, here in the row of the highest idle age; heat 5 does not,
and the extent goes untracked. -/
theorem test_take_item_replaces :
    (run .takeItem (crowded 4)).map (fun t => (tget t.ct.rows 2133, t.ct.untracked))
      = some (some (.watching ⟨8458, 4, 0, false, false⟩), 0)
    ∧ (run .takeItem (crowded 5)).map (fun t => (t.ct.rows, t.ct.untracked)) = some ((crowded 5).ct.rows, 1) := by decide +kernel

/-! ### The down lane -/

/-- R167: a pull byte counts while ATTN is asserted, here by a reply waiting. -/
theorem test_pull_byte :
    (run (.pullByte [0x3C#8]) ((lab [] []).reply 1#16 .retry)).map (fun t => t.lif.credit) = some 1
    ∧ (run (.pullByte [0x3C#8]) (lab [] [])).map (fun t => t.lif.credit) = some 0 := by decide

/-- The example of R170: a length of 512 makes a bad frame; what follows its sync byte is hunted through. -/
theorem test_bad_frame :
    (run (.badFrame [0xA7#8, 0x51#8, 1#8, 0#8, 0#8, 2#8]) (lab [] [])).map (fun t => (t.lif.rx, t.cfu.faults))
      = some ([0x51#8, 1#8, 0#8, 0#8, 2#8], [⟨.linkCheck, .none, 7000#32, 7000#32, 1⟩]) := by decide

/-- R168: this CRC of the bytes "123456789" is 0x29B1, the check value published for it (from outside the manual). -/
theorem test_crc : crc16 [0x31#8, 0x32#8, 0x33#8, 0x34#8, 0x35#8, 0x36#8, 0x37#8, 0x38#8, 0x39#8] = 0x29B1#16 := by decide +kernel

/-- A STATUS request with tag 1, as the example of R170 has it undisturbed. -/
def statusFrame : Frame := ⟨0x51#8, 1#16, []⟩

theorem test_request_intake : (run (.requestIntake (frameBytes statusFrame)) (lab [] [])).map (fun t => t.lif.intake)
    = some [statusFrame] ∧ (frameBytes statusFrame).take 6 = [0xA7#8, 0x51#8, 1#8, 0#8, 0#8, 0#8] := by decide +kernel

/-- The item of section 2.9 in the bytes of section 10.7. -/
def accessFrame : Frame := ⟨0x60#8, 0#16, [0x65#8, 0x42#8, 0x0F#8, 0#8, 40#8, 0#8, 0#8, 2#8]⟩

theorem test_access : (run (.access (frameBytes accessFrame)) (lab [] [])).map (fun t => t.hu.intake)
    = some [⟨1000037, 40, .read, .platterWoke⟩] := by decide +kernel

def platterFrame (v : Byte) : Frame := ⟨0x61#8, 0#16, [v]⟩

def supplyFrame (v : Byte) : Frame := ⟨0x62#8, 0#16, [v]⟩

/-- Section 7.5 at 10,610: the cadence ends. -/
theorem test_platter : (run (.platter (frameBytes (platterFrame 2#8))) (cadent (staged 10610#32) ⟨.closed, 10615#32, 1⟩)).map
    (fun t => (t.psm.platter, t.psm.spinUp, t.psm.restRef)) = some (.ready, none, some 10610#32) := by decide +kernel

theorem test_supply : (run (.supply (frameBytes (supplyFrame 0#8))) (lab [] [])).map (fun t => t.psm.supply) = some .mains := by
  decide +kernel

/-! ### Keeping the map -/

/-- R153: N 500 is taken as 1,024, E 0 as 1, W 9 as 8. -/
theorem test_attach :
    (run .attach (ask State.reset 0x10#8 [0xF4#8, 1#8, 0#8, 0#8, 0#8, 0#8, 9#8])).map
      (fun t => (t.bt, t.policy.sLim, t.policy.pinLimit, t.policy.window, t.mju.life))
    = some (⟨1024, 1, []⟩, 128, 256, 8, .active)
    ∧ replyOf .attach (ask State.reset 0x10#8 [0xF4#8, 1#8, 0#8, 0#8, 0#8, 0#8, 9#8]) = some (.ok (.attach 1024 1 8)) := by
  decide

/-- R162. -/
def importing : State := { (lab [] []) with mju := { Journal.reset with life := .importing } }

theorem test_import_begin :
    (run .importBegin (ask State.reset 0x11#8 [0#8, 4#8, 0x20#8, 0x4E#8, 0#8, 0#8, 4#8])).map (fun t => (t.mju.life, t.bt))
    = some (.importing, ⟨1024, 20000, []⟩) := by decide

/-- The record of slot 3, extent 5, HELD, owner 1, strikes 1, valid 0..7, dirty 0, heat 300, in the bytes of 10.7. -/
def recordBody : List Byte :=
  [3#8, 0#8, 5#8, 0#8, 0#8, 0#8, 1#8, 0x22#8, 0xFF#8, 0#8, 0#8, 0#8, 0#8, 0#8, 0#8, 0#8,
   1#8, 0#8, 0#8, 0#8, 0#8, 0#8, 0#8, 0#8, 0x2C#8, 1#8]

theorem test_import_put :
    slotAfter .importPut (ask importing 0x12#8 recordBody) 3
      = some ⟨.held, 5, offs 0 8, 1#64, none, none, 2#4, 300, 0, none, 1, none⟩ := by decide

/-- R163: a second record that holds the extent elsewhere is rejected. -/
theorem test_import_put_rejects :
    replyOf .importPut (ask { importing with bt := ⟨1024, 20000, [(9, .bound (bound .held 5 full 0#64 none))]⟩ } 0x12#8 recordBody)
      = some (.ok (.importPut 1)) := by decide

/-- A clean HELD record of a slot and an extent, in the bytes of 10.7. -/
def cleanRecord (slot extent : Nat) : List Byte := recordBytes ⟨slot, 1, extent, 0#4, false, 0, 1#64, 0#64, 0⟩

/-- The four records of the example of section 9.5. -/
def fourRecords : List Byte := cleanRecord 5 700 ++ cleanRecord 6 700 ++ cleanRecord 2000 10 ++ cleanRecord 5 900

/-- The example of section 9.5: the second and the third are rejected, and slot 5 holds 900. -/
theorem test_import_put_in_turn :
    replyOf .importPut (ask importing 0x12#8 fourRecords) = some (.ok (.importPut 2))
    ∧ (run .importPut (ask importing 0x12#8 fourRecords)).map (fun t => (t.mju.accepted, t.mju.rejected,
        (boundExtents t.bt.slots), (residency t.bt.slots 900).map Prod.fst)) = some (2, 2, [900], some 5) := by decide +kernel

/-- R164: the counts differ by 3. -/
theorem test_import_end :
    condOf .importEnd (ask { importing with mju := { importing.mju with accepted := 2 } } 0x13#8 [5#8, 0#8, 0#8, 0#8])
      = some ⟨.limit, .importMismatch, 3, 0x13#8, 7#16⟩
    ∧ (run .importEnd (ask { importing with mju := { importing.mju with accepted := 5 } } 0x13#8 [5#8, 0#8, 0#8, 0#8])).map
        (fun t => (t.mju.life, t.pu.alert2)) = some (.active, some .mapReplaced) := by decide

/-- R159. -/
theorem test_export : (run .exportMap (ask (lab [] []) 0x14#8 [])).map (fun t => t.mju.exporting) = some (some ⟨0, 0⟩) := by
  decide

/-- Event 2 of section 9.7: the mark is 20. -/
theorem test_sync : (run .sync (ask (logged (lab [] []) 3 20 4000#32) 0x15#8 [])).map (fun t => (t.mju.sync, t.lif.reply))
    = some (some ⟨7#16, 20⟩, none) := by decide

/-! ### Serving -/

/-- The bindings of the LOOKUP of section 5.2. -/
def lookedUp : List (Nat × Slot) :=
  [(2, .bound (bound .filling 103 32#64 0#64 none)),
   (5, .bound (bound .held 100 (offs 0 10 ||| offs 20 30 ||| offs 40 64) 0#64 none)),
   (9, .bound (bound .held 102 full 0#64 none))]

/-- Section 5.2: the ten runs. -/
theorem test_lookup : replyOf .lookup (ask (lab lookedUp []) 0x20#8 [0#8, 0x19#8, 0#8, 0#8, 0#8, 1#8]) =
    some (.ok (.runs 256 [⟨6400, 10, .flash 5⟩, ⟨6410, 10, .platter⟩, ⟨6420, 10, .flash 5⟩, ⟨6430, 10, .platter⟩,
      ⟨6440, 24, .flash 5⟩, ⟨6464, 64, .platter⟩, ⟨6528, 64, .flash 9⟩, ⟨6592, 5, .platter⟩, ⟨6597, 1, .flash 2⟩,
      ⟨6598, 58, .platter⟩])) := by decide +kernel

/-- The bindings of the PLAN-WRITE of section 5.3, slot 11 being the lowest FREE slot. -/
def planned : List (Nat × Slot) :=
  [(0, .retired), (1, .retired), (2, .retired), (3, .retired), (4, .retired), (5, .bound (bound .held 100 full 0#64 none)),
   (6, .retired), (7, .retired), (8, .retired), (9, .bound (bound .held 102 full 8#64 (some 6900#32))), (10, .retired)]

def toPlan : State := ask (lab planned [(808, .watching ⟨101, 40, 0, false, false⟩)]) 0x21#8 [0x28#8, 0x19#8, 0#8, 0#8, 100#8, 0#8]

/-- Section 5.3 with the platter RESTING. -/
theorem test_plan_write :
    replyOf .planWrite toPlan = some (.ok (.runs 100 [⟨6440, 24, .flash 5⟩, ⟨6464, 64, .flash 11⟩, ⟨6528, 12, .flash 9⟩]))
    ∧ (slotAfter .planWrite toPlan 11).map (fun b => (b.valid, b.dirty, b.heat, b.dirtySince))
      = some (full, full, 40, some 7000#32) := by decide +kernel

/-- The condemned slot of section 5.3: the first write, with the platter READY. -/
theorem test_plan_write_condemned :
    (slotAfter .planWrite (ask (spun (lab [(23, .bound { bound .held 500 full (offs 10 13) (some 7000#32) with strikes := 2 })] []))
      0x21#8 [0#8, 0x7D#8, 0#8, 0#8, 8#8, 0#8]) 23).map (fun b => (b.valid, b.dirty)) = some (offs 8 64, offs 10 13) := by
  decide +kernel

/-- The first discard of section 5.4: slot 5 becomes FREE and a picker run starts. -/
theorem test_discard :
    (run .discard (ask (lab [(5, .bound (bound .held 100 full (offs 40 64) (some 7000#32)))] []) 0x22#8
      [0#8, 0x19#8, 0#8, 0#8, 64#8, 0#8])).map (fun t => (t.bt.slots, t.au.runsOwed)) = some ([], 1) := by decide +kernel

/-- The third: the condemned slot 23 retires. -/
theorem test_discard_retires :
    (run .discard (ask (lab [(23, .bound { bound .held 500 (offs 8 64) (offs 8 20) (some 7000#32) with strikes := 2 })] []) 0x22#8
      [8#8, 0x7D#8, 0#8, 0#8, 12#8, 0#8])).map (fun t => t.bt.slots) = some [(23, .retired)] := by decide +kernel

/-! ### Pins -/

/-- The extents of section 8.9 in small: slot 1 and slot 2 held, slot 0 FREE, two pins below the limit of 4. -/
def toPin : State :=
  let s := lab [(1, .bound (bound .held 300 full 0#64 none)), (2, .bound { bound .held 301 full 0#64 none with owners := 1#4 })]
    [(2416, .watching ⟨302, 120, 0, false, false⟩)]
  ask { s with policy := { s.policy with pinLimit := 3 } } 0x30#8 [1#8, 0x2C#8, 1#8, 0#8, 0#8, 4#8]

/-- Section 8.9: owner 1 is added to 300 and 301, 302 is bound with heat 120, and the limit stops 303. -/
theorem test_pin :
    replyOf .pin toPin = some (.ok (.shortfall 1))
    ∧ (slotAfter .pin toPin 0).map (fun b => (b.extent, b.owners, b.heat, b.valid)) = some (302, 2#4, 120, 0#64)
    ∧ (slotAfter .pin toPin 2).map Binding.owners = some 3#4 := by decide +kernel

/-- Request 1 of section 11.3: two extents beyond. -/
theorem test_pin_range :
    condOf .pin (ask { lab [] [] with bt := ⟨1024, 1000, []⟩ } 0x30#8 [1#8, 0xE6#8, 3#8, 0#8, 0#8, 4#8])
      = some ⟨.range, .outOfRange, 2, 0x30#8, 7#16⟩ := by decide

/-- R146: the last owner goes, and the empty slot is released. -/
theorem test_unpin :
    (run .unpin (ask (lab [(40, .bound { bound .held 302 0#64 0#64 none with owners := 2#4 })] []) 0x31#8
      [1#8, 0x2E#8, 1#8, 0#8, 0#8, 1#8])).map (fun t => (t.bt.slots, t.lif.reply.map Reply.body))
      = some ([], some (.ok (.released 1))) := by decide +kernel

/-- Events 1 and 2 of section 8.10. -/
theorem test_unpin_all :
    condOf .unpinAll (ask { lab [] [] with pu := ⟨none, none, some .mapReplaced, none, 0⟩ } 0x31#8 [2#8, 0#8, 0#8, 0#8, 0#8, 0#8])
      = some ⟨.lost, .mapReplaced, 2, 0x31#8, 7#16⟩
    ∧ replyOf .unpinAll (ask (lab [] []) 0x31#8 [2#8, 0#8, 0#8, 0#8, 0#8, 0#8]) = some (.ok (.released 0)) := by decide

/-! ### Orders -/

/-- The fill of section 6.8, issued with tag 212. -/
def filling : State :=
  let s := at' (lab [(7, .bound { bound .filling 15625 0#64 0#64 none with tag := some 212#16, overtaken := some 0#64 })] []) 1005#32
  { s with ou := { s.ou with
    issued := [⟨⟨.heatFill, 7, 15625, 3, 0⟩, full, 212#16, 1000#32, false⟩], tagCounter := 213#16, lastKind := some .fill } }

/-- Event 3 of section 6.8: PARKED with 0..23 copied. -/
def toComplete (s : State) (tagLow tagHigh code : Byte) (copied : List Byte) : State :=
  ask s 0x40#8 ([tagLow, tagHigh, code] ++ copied)

theorem test_complete :
    (run .complete (toComplete filling 212#8 0#8 2#8 [255#8, 255#8, 255#8, 0#8, 0#8, 0#8, 0#8, 0#8])).map
        (fun t => (t.ou.heatFill.waiting, t.ou.retryCount, t.ou.issued)) = some ([waits .heatFill 7 15625 3 0], 1, [])
    ∧ (slotAfter .complete (toComplete filling 212#8 0#8 2#8 [255#8, 255#8, 255#8, 0#8, 0#8, 0#8, 0#8, 0#8]) 7).map
        (fun b => (b.state, b.valid, b.overtaken)) = some (.filling, offs 0 24, none) := by decide +kernel

/-- Request 3 of section 11.3: tag 513 is late. -/
theorem test_complete_late :
    condOf .complete (toComplete (lab [] []) 1#8 2#8 0#8 [0#8, 0#8, 0#8, 0#8, 0#8, 0#8, 0#8, 0#8])
      = some ⟨.order, .late, 513, 0x40#8, 7#16⟩ := by decide

theorem test_skip_on : (run .skipOn (ask (lab [] []) 0x41#8 [2#8, 0#8])).map (fun t => t.ou.drain.skip) = some true := by decide

theorem test_skip_off :
    (run .skipOff (ask ((lab [] []).setSkip .drain true) 0x41#8 [2#8, 1#8])).map (fun t => t.ou.drain.skip) = some false := by
  decide

/-- Event 5 of section 8.10: the halt clears and a scan starts. -/
theorem test_resume :
    (run .resume (ask ((lab [] []).setHalted .pinFill true) 0x41#8 [0#8, 2#8])).map (fun t => (t.ou.pinFill.halted, t.pu.scansOwed))
      = some (false, 1) := by decide

/-- R131. -/
theorem test_drain_all :
    (run .drainAll (ask (staged 10300#32) 0x42#8 [])).map (fun t => (t.psm.drainAll, t.psm.drainRunsOwed)) = some (true, 1)
    ∧ (run .drainAll (ask (lab [] []) 0x42#8 [])).map (fun t => t.psm.drainAll) = some false := by decide

/-! ### Requests of the link -/

/-- The example of R177 with N 4,096: P_c 12 then 40, pin limit 9,000, A_base 5. -/
theorem test_policy :
    (run .policy (ask { lab [] [] with bt := ⟨4096, 20000, []⟩ } 0x50#8
      [5#8, 12#8, 0#8, 0#8, 0#8, 13#8, 0x28#8, 0x23#8, 0#8, 0#8, 1#8, 5#8, 0#8, 0#8, 0#8, 5#8, 40#8, 0#8, 0#8, 0#8])).map
      (fun t => (t.policy.pc, t.policy.pinLimit, t.policy.aBase)) = some (32, 4096, 16) := by decide

/-- R26, R178: the lapse count is reported and zeroed. -/
theorem test_status :
    (run .status (ask { lab [] [] with hu := { HeatUnit.reset with lapseCount := 9 } } 0x51#8 [])).map (fun t =>
      (t.hu.lapseCount, t.lif.reply.map fun r => match r.body with | .ok (.status b) => b.lapseCount | _ => 0)) = some (0, some 9) := by
  decide

/-- STATUS waits behind a REPLY that is being sent, with two pulls granted. -/
def behind : State :=
  let s := ask (lab [] []) 0x51#8 []
  { s with lif := { s.lif with upLane := some ⟨0x80#8, 1#16, [2#8]⟩, credit := 2 } }

/-- R167, R172: the request is taken once the REPLY is sent; ATTN falls there, and with it the credit, so that the next reply
waits for a pull. -/
theorem test_status_behind_a_reply :
    (run .status behind).map (fun t => (t.lif.upLane, t.lif.credit, t.lif.intake, t.lif.reply.isSome, attn t))
      = some (none, 0, [], true, true)
    ∧ ((run .status behind).bind (run .sendReply)).map (fun t => t.lif.upLane) = some none := by decide

/-- Requests 2 and 5 of section 11.3. -/
theorem test_condition :
    let s := { lab [] [] with cfu := { FaultUnit.reset with cond := ⟨.range, .outOfRange, 2, 0x30#8, 70#16⟩ } }
    let s4 := ask { s with ou := { s.ou with retryCount := 4 } } 0x52#8 []
    replyOf .condition s4 = some (.ok (.condition ⟨.range, .outOfRange, 2, 0x30#8, 70#16⟩ 4))
    ∧ condOf .condition s4 = some ⟨.range, .outOfRange, 2, 0x30#8, 70#16⟩ := by decide

/-- The table of the example of R187 after its third entry. -/
def faulty : State := ((lab [] []).recordFault .orderTimeout (.slot 30)).recordFault .orderTimeout (.slot 30)

theorem test_faults : replyOf .faults (ask faulty 0x53#8 [])
    = some (.ok (.faults 0 [⟨.orderTimeout, .slot 30, 7000#32, 7000#32, 2⟩])) := by decide

theorem test_faults_clear : (run .faultsClear (ask faulty 0x54#8 [])).map (fun t => t.cfu.faults) = some [] := by decide

/-- R21: an empty unpinned FILLING slot is freed, a DRAINING one comes to HELD. -/
theorem test_reset_warm :
    (run .resetWarm (ask { filling with bt := { filling.bt with slots := filling.bt.slots ++ timing.bt.slots } } 0x5F#8 [0#8])).map
      (fun t => (t.bt.slots, t.ou.issued, t.mju.stale))
      = some ([(30, .bound (bound .held 4000 full (offs 8 16) (some 2004#32)))], [], true) := by decide

/-- R179, R177: A_base is kept, the pin limit is not. -/
theorem test_reset_cold :
    (run .resetCold (ask { filling with policy := { filling.policy with aBase := 99 } } 0x5F#8 [1#8])).map
      (fun t => (t.bt, t.policy.aBase, t.policy.pinLimit, t.mju.life, t.seconds))
      = some (⟨0, 20000, []⟩, 99, 0, .unbound, 1005#32) := by decide

/-- R173: 0x99 is no request kind. -/
theorem test_unknown_kind : condOf .unknownKindRequest (ask (lab [] []) 0x99#8 [])
    = some ⟨.form, .unknownKind, 0, 0x99#8, 7#16⟩ := by decide

/-! ### The up lane -/

/-- R174: a RETRY reply of tag 1. -/
theorem test_send_reply : (run .sendReply (pulled ((lab [] []).reply 1#16 .retry))).map (fun t => (t.lif.upLane, t.lif.credit))
    = some (some ⟨0x80#8, 1#16, [2#8]⟩, 2) := by decide

/-- The order of event 1 of section 6.8 in the bytes of section 10.7. -/
def ordered : State := pulled { filling with lif := { filling.lif with orderFrames := [⟨212#16, .fill, 7, 15625, full⟩] } }

theorem test_send_order : (run .sendOrder ordered).map (fun t => t.lif.upLane) =
    some (some ⟨0x81#8, 212#16, [0#8, 7#8, 0#8, 9#8, 0x3D#8, 0#8, 0#8, 255#8, 255#8, 255#8, 255#8, 255#8, 255#8, 255#8, 255#8]⟩) := by
  decide

/-- R175: an ORDER frame that waits, with a pull granted, goes between two replies: the request behind it is not taken yet,
at the reply's last byte or with the lane idle after it. -/
def behindOrder : State := { behind with lif := { behind.lif with orderFrames := ordered.lif.orderFrames } }

theorem test_send_order_between_replies : run .status behindOrder = some behindOrder
    ∧ run .status behindOrder.finishFrame = some behindOrder.finishFrame
    ∧ (run .sendOrder behindOrder.finishFrame).map (fun t => (t.lif.upLane.map Frame.kind, t.lif.credit))
      = some (some 0x81#8, 1) := by decide

/-- The log of section 9.7 with its SYNC, the MJU asking. -/
def syncing : State :=
  let s := logged (lab [] []) 3 20 4000#32
  pulled { s with mju := { s.mju with sync := some ⟨7#16, 20⟩ }, lif := { s.lif with deltaAsking := true } }

/-- Event 3 of section 9.7: 16 records sent, 4 entries and a mark of 4 left. -/
theorem test_delta :
    (run .delta syncing).map (fun t => (t.mju.log.length, t.mju.sync, t.lif.upLane.map fun f => f.body.length))
      = some (4, some ⟨7#16, 4⟩, some 416) := by decide +kernel

/-- The map of section 9.8 at event 4. -/
def exporting (cursor sent : Nat) : State :=
  let s := lab [(16, .bound (bound .held 900 full full (some 0#32))), (30, .bound (bound .held 30 full 0#64 none))] []
  pulled { s with mju := { s.mju with exporting := some ⟨cursor, sent⟩, stale := true } }

/-- Event 4 of section 9.8: two records, the cursor past the end, the count 18. -/
theorem test_export_data :
    (run .exportData (exporting 16 16)).map (fun t => (t.mju.exporting, t.lif.upLane.map fun f => f.body.length))
      = some (some ⟨1024, 18⟩, some 52) := by decide +kernel

/-- Event 5 of section 9.8. -/
theorem test_export_end : (run .exportEnd (exporting 1024 18)).map (fun t => (t.mju.exporting, t.mju.stale, t.lif.upLane))
    = some (none, false, some ⟨0x84#8, 0#16, [18#8, 0#8]⟩) := by decide

/-- R132: the SPIN-UP/SOON advice of section 7.5 at 10,300. -/
theorem test_send_advice :
    (run .sendAdvice (pulled ((staged 10300#32).advise .spinUp .soon))).map (fun t => t.lif.upLane)
      = some (some ⟨0x85#8, 0#16, [0#8, 1#8, 1#8, 0#8, 0x2C#8, 1#8, 0#8, 0#8, 0#8, 0#8]⟩) := by decide

/-! ### The premises of the statements are met

One theorem for each statement that has premises: a state and operands that meet them all, at the boundaries of their
clauses. -/

theorem met_StepRunsTheFrontCommand :
    (lab [] []).pending = [] ∧ (lab [] []).lif.upLane = none ∧ (∃ f, ((lab [] []).startFrame statusFrame).lif.upLane = some f)
    ∧ attn ((lab [] []).startFrame statusFrame).finishFrame = false
    ∧ attn (((lab [] []).reply 1#16 .retry).startFrame statusFrame).finishFrame = true :=
  ⟨rfl, rfl, ⟨_, rfl⟩, by decide, by decide⟩

theorem met_AdvanceRefillsTokens :
    (lab [] []).mju.life = .active ∧ (lab [] []).au.tokens = (lab [] []).policy.bMax
    ∧ ({ lab [] [] with au := ⟨4095, 59, 0⟩ } : State).au.tokens < (lab [] []).policy.bMax
    ∧ State.reset.mju.life ≠ .active := by decide

theorem met_AdvanceVisitsAndAges : (lab victims [(8, .watching ⟨1, 16, 1023, true, false⟩)]).mju.life = .active
    ∧ bindingAt (lab victims []).bt.slots 17 ≠ none ∧ bindingAt (lab victims []).bt.slots 3 = none := by decide

theorem met_RowsExpireAndBarsEnd :
    let s := at' (lab [] [(8, .watching ⟨1, 0, 300, false, true⟩), (2121, .barred 19721 8000#32)]) 8000#32
    s.mju.life = .active ∧ tget s.ct.rows 8 = some (.watching ⟨1, 0, 300, false, true⟩)
    ∧ tget s.ct.rows 2121 = some (.barred 19721 8000#32) ∧ age s.seconds 8000#32 < 2147483648
    ∧ tget (lab [] [(8, .watching ⟨1, 1, 300, false, true⟩)]).ct.rows 8 = some (.watching ⟨1, 1, 300, false, true⟩)
    ∧ tget (lab [] [(8, .watching ⟨1, 0, 299, false, false⟩)]).ct.rows 8 = some (.watching ⟨1, 0, 299, false, false⟩)
    ∧ tget s.ct.rows 9 = none ∧ 2147483648 ≤ age 7999#32 8000#32 ∧ State.reset.mju.life ≠ .active := by decide

theorem met_BackoffEndsAndDeltaDelayAsks :
    backing.mju.life = .active ∧ age backing.seconds 1022#32 < 2147483648
    ∧ (logged backing 3 1 1020#32).mju.log = [⟨3, 1020#32⟩] ∧ age backing.seconds 1020#32 = backing.policy.deltaDelay
    ∧ (stale backing).mju.life = .active ∧ (stale backing).mju.log = [⟨3, 1022#32⟩]
    ∧ age backing.seconds 1022#32 < backing.policy.deltaDelay ∧ 1 < backing.policy.flushCount := by decide

theorem met_OrderTimeoutReturnsTheOrder :
    timing.mju.life = .active ∧ issuedWith timing.ou.issued 301#16 = some ⟨⟨.drain, 30, 4000, 2, 0⟩, offs 8 16, 301#16, 2004#32, true⟩
    ∧ bindingAt timing.bt.slots 30 ≠ none := by decide

/-- A last attempt of an order of this queue on slot 7, whose binding is `b`. -/
def lastAttempt (q : QueueId) (b : Binding) : State :=
  let s := lab [(7, .bound { b with tag := some 5#16 })] []
  { s with ou := { s.ou with issued := [⟨⟨q, 7, 15625, 1, 0⟩, full, 5#16, 6970#32, true⟩] } }

def lastFill : State := lastAttempt .heatFill { bound .filling 15625 (offs 0 24) 0#64 none with overtaken := some 0#64 }

def lastDrain : State := lastAttempt .drain { bound .draining 15625 full full (some 0#32) with redirtied := some 0#64 }

/-- The last attempt of a drain whose condemned slot a DISCARD has emptied. -/
def lastRetired : State :=
  lastAttempt .drain { bound .draining 15625 full 0#64 none with strikes := 2, owners := 5#4, redirtied := some 0#64 }

theorem met_OrderTimeoutExhausts :
    lastFill.mju.life = .active ∧ lastDrain.mju.life = .active
    ∧ issuedWith lastFill.ou.issued 5#16 = some ⟨⟨.heatFill, 7, 15625, 1, 0⟩, full, 5#16, 6970#32, true⟩
    ∧ issuedWith lastDrain.ou.issued 5#16 = some ⟨⟨.drain, 7, 15625, 1, 0⟩, full, 5#16, 6970#32, true⟩
    ∧ (bindingAt lastFill.bt.slots 7).map (fun b => (b.isDirty, b.owners, b.strikes)) = some (false, 0#4, 0)
    ∧ (logged lastFill 100 255 0#32).mju.log.length < 256 ∧ 256 ≤ (logged lastFill 100 256 0#32).mju.log.length
    ∧ inLog (logged lastFill 100 256 0#32).mju.log 7 = false
    ∧ (bindingAt lastDrain.bt.slots 7).map Binding.isDirty = some true
    ∧ issuedWith lastRetired.ou.issued 5#16 = some ⟨⟨.drain, 7, 15625, 1, 0⟩, full, 5#16, 6970#32, true⟩
    ∧ (bindingAt lastRetired.bt.slots 7).map (fun b => (b.strikes, b.isDirty)) = some (2, false)
    ∧ tget lastFill.ct.rows 2120 = none ∧ 2120 / 8 = 15625 % 1024
    ∧ tsorted (crowded 4).ct.rows = true ∧ 2133 / 8 = 8458 % 1024
    ∧ tget (crowded 4).ct.rows 2133 = some (.watching ⟨5386, 4, 9, false, false⟩) := by decide +kernel

theorem met_SpinUpCadence :
    let s := staged 10300#32
    s.mju.life = .active ∧ s.psm.spinUpDue = true ∧ s.psm.platter ≠ .ready ∧ holdStage s = .soon ∧ s.psm.spinUp = none
    ∧ holdStage (staged 10299#32) = .calm
    ∧ holdStage (cadent s ⟨.soon, 10300#32, 1⟩) = .soon ∧ age s.seconds 10300#32 < 2147483648
    ∧ 2147483648 ≤ age s.seconds 10301#32 := by decide

theorem met_MainsCadenceAndRestAdvice :
    onMains.mju.life = .active ∧ onMains.psm.mainsDue = true ∧ onMains.psm.supply = .mains ∧ onMains.ou.pinFill.waiting ≠ []
    ∧ onMains.psm.platter ≠ .ready ∧ onMains.psm.spinUp = none ∧ onMains.psm.mains = none
    ∧ age onMains.seconds 7000#32 < 2147483648 ∧ 2147483648 ≤ age onMains.seconds 7001#32
    ∧ (staged 7000#32).psm.mainsDue = true ∧ (staged 7000#32).psm.supply = .battery
    ∧ (quiet 7000#32).psm.restRef = some 6980#32 ∧ (quiet 7000#32).psm.restDue = true ∧ (quiet 7000#32).ou.orders = []
    ∧ dirtyCount (quiet 7000#32).bt.slots = 0 ∧ (quiet 7000#32).psm.platter = .ready ∧ (quiet 7000#32).psm.restGiven = false
    ∧ (quiet 7000#32).policy.restDelay ≤ age 7000#32 6980#32 ∧ age 6999#32 6980#32 < (quiet 6999#32).policy.restDelay
    ∧ (staged 7000#32).psm.restDue = true ∧ dirtyCount (staged 7000#32).bt.slots ≠ 0 := by decide

theorem met_ChoicesOfTheRuns : mapLaw (lab victims toPromote.ct.rows) = true := by decide +kernel

theorem met_DrainPickerRun : toDrain.mju.life = .active ∧ 0 < toDrain.psm.drainRunsOwed ∧ toDrain.psm.platter = .ready
    ∧ mapLaw toDrain = true ∧ ({ toDrain with psm := { toDrain.psm with platter := .parked } } : State).psm.platter ≠ .ready
    ∧ mapLaw toDrainMore = true ∧ toDrainMore.psm.platter = .ready ∧ 0 < toDrainMore.psm.drainRunsOwed := by decide +kernel

theorem met_PromotionPickerRun : toPromote.mju.life = .active ∧ 0 < toPromote.au.runsOwed ∧ mapLaw toPromote = true
    ∧ lowestFree (fullHouse 3).bt = none ∧ mapLaw (fullHouse 3) = true ∧ 0 < (fullHouse 3).au.runsOwed := by
  decide +kernel

theorem met_RefillScan : toRefill.mju.life = .active ∧ 0 < toRefill.pu.scansOwed ∧ mapLaw toRefill = true
    ∧ (toRefill.setHalted .pinFill true).ou.pinFill.halted = true
    ∧ (toRefill.setHalted .pinFill true).pu.scansOwed = 1 := by decide +kernel

/-- The drain of a condemned slot 7 whose dirty set a DISCARD has emptied. -/
def emptied : State :=
  (spun (lab [(7, .bound { bound .draining 15625 full 0#64 none with strikes := 2, owners := 5#4 })] [])).setWaiting .drain
    [waits .drain 7 15625 3 0]

/-- Section 6.10: one pin fill, one heat fill and one drain wait; heat fill was served last. -/
def arbiting (last : Marker) : State :=
  let s := spun (lab [(1, .bound { bound .filling 1 0#64 0#64 none with owners := 1#4 }), (2, .bound (bound .filling 2 0#64 0#64 none)),
    (3, .bound (bound .draining 3 full full (some 7000#32)))] [])
  let t := ((s.setWaiting .pinFill [waits .pinFill 1 1 3 0]).setWaiting .heatFill [waits .heatFill 2 2 3 0]).setWaiting .drain
    [waits .drain 3 3 3 0]
  { t with ou := { t.ou with lastServed := last } }

/-- Each choice of the arbiter is met: section 6.10, and the drain queue first at URGENT. -/
theorem met_DispatchArbiter :
    arbiterChoice (arbiting .heatFill) = some .pinFill
    ∧ arbiterChoice ((arbiting .heatFill).setSkip .pinFill true) = some .drain
    ∧ arbiterChoice ((arbiting .drain).setSkip .pinFill true) = some .heatFill
    ∧ arbiterChoice (((arbiting .heatFill).setSkip .pinFill true).setHalted .drain true) = some .heatFill
    ∧ arbiterChoice (((arbiting .drain).setSkip .pinFill true).setSkip .heatFill true) = some .drain
    ∧ arbiterChoice (at' (arbiting .heatFill) 7525#32) = some .drain ∧ arbiterChoice (lab [] []) = none
    ∧ orderReady (logged emptied 100 256 0#32) (waits .drain 7 15625 3 0) = false
    ∧ orderReady (logged emptied 100 255 0#32) (waits .drain 7 15625 3 0) = true
    ∧ orderReady (logged emptied 7 256 0#32) (waits .drain 7 15625 3 0) = true := by
  decide +kernel

theorem met_DispatchIssuesTheOrder :
    let s := toDispatch 0#64
    s.mju.life = .active ∧ s.psm.platter = .ready ∧ s.ou.issued.length < s.policy.window ∧ arbiterChoice s = some .heatFill
    ∧ (s.ou.queue .heatFill).waiting.find? (orderReady s) = some (waits .heatFill 7 15625 3 0)
    ∧ bindingAt s.bt.slots 7 = some (bound .filling 15625 0#64 0#64 none) ∧ ~~~(0#64 : BlockSet) ≠ 0#64 := by decide +kernel

theorem met_TagAllocation : (5#16 : Tag) ≠ 0#16 ∧ timing.ou.issued.length < 65535
    ∧ (run .dispatch (toDispatch 0#64)).map (fun t => t.ou.issued.length) = some 1 := by decide

theorem met_DispatchEndsAnEmptyOrder :
    let s := toDispatch full
    s.mju.life = .active ∧ s.psm.platter = .ready ∧ s.ou.issued.length < s.policy.window ∧ arbiterChoice s = some .heatFill
    ∧ (s.ou.queue .heatFill).waiting.find? (orderReady s) = some (waits .heatFill 7 15625 3 0)
    ∧ bindingAt s.bt.slots 7 = some (bound .filling 15625 full 0#64 none) ∧ ~~~full = 0#64
    ∧ arbiterChoice emptied = some .drain ∧ emptied.ou.drain.waiting.find? (orderReady emptied) = some (waits .drain 7 15625 3 0)
    ∧ (bindingAt emptied.bt.slots 7).map (fun b => (b.strikes, b.dirty)) = some (2, 0#64) := by decide +kernel

theorem met_TakeItemWarmsExtents :
    toHeat.mju.life = .active ∧ mapLaw toHeat = true ∧ toHeat.hu.intake = [⟨1000037, 40, .read, .platterWoke⟩]
    ∧ 1000037 + 40 ≤ 64 * toHeat.bt.e ∧ 64 * 15626 < 1000037 + 40 ∧ toHeat.ct.untracked ≤ 65535
    ∧ findRow toHeat.ct.rows 15625 = some (2120, .watching ⟨15625, 330, 212, false, false⟩)
    ∧ residency toHeat.bt.slots 15626 = none ∧ findRow toHeat.ct.rows 15626 = none ∧ 2128 / 8 = 15626 % 1024
    ∧ mapLaw (crowded 5) = true ∧ findRow (crowded 5).ct.rows 8458 = none ∧ residency (crowded 5).bt.slots 8458 = none
    ∧ 2133 / 8 = 8458 % 1024 ∧ tget (crowded 4).ct.rows 2133 = some (.watching ⟨5386, 4, 9, false, false⟩)
    ∧ ({ toHeat with bt := { toHeat.bt with e := 15626 } } : State).bt.e * 64 < 1000037 + 40 := by decide +kernel

theorem met_FrameRoundTrip :
    (List.replicate 496 (0#8 : Byte)).length ≤ 496 ∧ fieldAt [0x51#8, 1#8, 0#8, 0xF0#8, 1#8] 3 2 = 496
    ∧ fieldAt [0x51#8, 1#8, 0#8, 0xF1#8, 1#8] 3 2 = 497 ∧ fieldAt [0x51#8, 1#8, 0#8, 0#8, 0#8, 0#8, 0#8] 3 2 = 0
    ∧ (crc16 [0x51#8, 1#8, 0#8, 0#8, 0#8]).toNat ≠ fieldAt [0x51#8, 1#8, 0#8, 0#8, 0#8, 0#8, 0#8] 5 2
    ∧ (recordOfBytes recordBody).strikes = 1 ∧ (recordOfBytes recordBody).heat = 300 ∧ (recordOfBytes recordBody).pstate = 1
    ∧ frameBytes statusFrame = [0xA7#8, 0x51#8, 1#8, 0#8, 0#8, 0#8] ++ leBytes 2 (crc16 [0x51#8, 1#8, 0#8, 0#8, 0#8]).toNat := by
  decide +kernel

theorem met_DownLaneEvents :
    (lab [] []).event [0x3C#8] = .pull []
    ∧ (lab [] []).event [0xA7#8, 0x51#8, 1#8, 0#8, 0#8, 2#8] = .bad [0x51#8, 1#8, 0#8, 0#8, 2#8]
    ∧ (lab [] []).event (frameBytes statusFrame) = .frame statusFrame []
    ∧ ((lab [] []).withIntake (List.replicate 7 statusFrame)).lif.intake.length < 8
    ∧ 8 ≤ ((lab [] []).withIntake (List.replicate 8 statusFrame)).lif.intake.length := by decide +kernel

theorem met_AccessOffersItems :
    (lab [] []).event (frameBytes accessFrame) = .frame accessFrame [] ∧ accessFrame.kind = 0x60#8
    ∧ fieldAt accessFrame.body 0 4 = 1000037 ∧ fieldAt accessFrame.body 4 2 = 40 ∧ fieldAt accessFrame.body 6 1 = 0
    ∧ fieldAt accessFrame.body 7 1 = 2 ∧ accessFrame.body.length = 8
    ∧ (lab [] []).event (frameBytes ⟨0x60#8, 0#16, List.replicate 8 0#8⟩) = .frame ⟨0x60#8, 0#16, List.replicate 8 0#8⟩ []
    ∧ fieldAt (List.replicate 8 0#8) 4 2 = 0
    ∧ (lab [] []).event (frameBytes ⟨0x60#8, 0#16, [1#8]⟩) = .frame ⟨0x60#8, 0#16, [1#8]⟩ []
    ∧ (lab [] []).mju.life = .active ∧ State.reset.mju.life ≠ .active ∧ (lab [] []).hu.lapse = false
    ∧ toHeat.hu.intake.length ≤ 64 := by decide +kernel

theorem met_PlatterAndSupplyNotices :
    (lab [] []).event (frameBytes (platterFrame 4#8)) = .frame (platterFrame 4#8) []
    ∧ (lab [] []).event (frameBytes (platterFrame 5#8)) = .frame (platterFrame 5#8) [] ∧ 4 < (5#8 : Byte).toNat
    ∧ platterOf (4#8 : Byte).toNat = some .slowing ∧ platterOf (2#8 : Byte).toNat = some .ready
    ∧ (lab [] []).psm.platter = .resting ∧ (spun (staged 10300#32)).psm.platter = .ready
    ∧ holdStage (spun (staged 10299#32)) = .calm ∧ holdStage (spun (staged 10300#32)) ≠ .calm
    ∧ (lab [] []).event (frameBytes (supplyFrame 1#8)) = .frame (supplyFrame 1#8) []
    ∧ (lab [] []).event (frameBytes (supplyFrame 2#8)) = .frame (supplyFrame 2#8) []
    ∧ supplyOf (1#8 : Byte).toNat = some .battery
    ∧ (lab [] []).event (frameBytes ⟨0x61#8, 0#16, []⟩) = .frame ⟨0x61#8, 0#16, []⟩ []
    ∧ (lab [] []).event (frameBytes ⟨0x62#8, 0#16, [0#8, 0#8]⟩) = .frame ⟨0x62#8, 0#16, [0#8, 0#8]⟩ [] := by
  decide +kernel

theorem met_RequestsRefused :
    let range : List Byte := [0#8, 0x88#8, 0x13#8, 0#8, 1#8, 0#8]
    let owner : List Byte := [3#8, 0x20#8, 0x4E#8, 0#8, 0#8, 64#8]
    (lab [] []).lif.intake = []
    ∧ (ask (lab [] []) 0x10#8 []).turn 0x10#8 ⟨0x10#8, 7#16, []⟩ [] ∧ requestRow ⟨0x10#8, 7#16, []⟩ = .attach
    ∧ phaseRefusal .attach (lab [] []).mju.life = some .alreadyActive
    ∧ phaseRefusal .attach State.reset.mju.life = none ∧ lengthOk .attach 6 = false
    ∧ (ask (lab [] []) 0x99#8 []).turn 0x99#8 ⟨0x99#8, 7#16, []⟩ []
    ∧ behind.lif.intake = [⟨0x51#8, 7#16, []⟩] ∧ behind.mju.sync = none ∧ behind.lif.reply = none
    ∧ behind.lif.upLane = some ⟨0x80#8, 1#16, [2#8]⟩ ∧ behind.lif.orderFrames = []
    ∧ behindOrder.lif.orderFrames ≠ [] ∧ 0 < behindOrder.lif.credit
    ∧ ordered.lif.upLane = none ∧ 0 < ordered.lif.credit ∧ ordered.lif.orderFrames ≠ []
    ∧ (ask (lab [] []) 0x20#8 range).turn 0x20#8 (rangeFrame 0x20#8 range) [] ∧ range.length = 6
    ∧ fieldAt range 0 4 = 64 * (lab [] []).bt.e ∧ fieldAt range 4 2 = 1
    ∧ (ask (lab [] []) 0x31#8 owner).turn 0x31#8 (rangeFrame 0x31#8 owner) [] ∧ owner.length = 6
    ∧ fieldAt owner 0 1 = 3 ∧ fieldAt owner 1 4 = (lab [] []).bt.e ∧ fieldAt owner 5 1 = 64 ∧ (lab [] []).pu.alert 3 = none
    ∧ State.reset.pu.alert 3 = some .pinsLost := by decide

theorem met_AttachAndImportBegin :
    let body : List Byte := [0xF4#8, 1#8, 0#8, 0#8, 0#8, 0#8, 9#8]
    State.reset.mju.life = .unbound ∧ (ask State.reset 0x10#8 body).turn 0x10#8 ⟨0x10#8, 7#16, body⟩ []
    ∧ (ask State.reset 0x11#8 body).turn 0x11#8 ⟨0x11#8, 7#16, body⟩ []
    ∧ (ask (lab [] []) 0x10#8 []).mju.life = .active ∧ (ask importing 0x11#8 []).mju.life = .importing := by decide

/-- A record whose slot is N. -/
def badRecord : List Byte := 0#8 :: 4#8 :: recordBody.drop 2

theorem met_ImportPutTakesRecords :
    importing.mju.life = .importing ∧ (ask importing 0x12#8 recordBody).turn 0x12#8 ⟨0x12#8, 7#16, recordBody⟩ []
    ∧ (ask importing 0x12#8 fourRecords).turn 0x12#8 ⟨0x12#8, 7#16, fourRecords⟩ [] ∧ fourRecords.length = 26 * 4
    ∧ recordBody.length = 26 ∧ (recordOfBytes badRecord).slot = 1024 ∧ recordRejected importing.bt (recordOfBytes badRecord) = true
    ∧ recordRejected importing.bt (recordOfBytes recordBody) = false := by decide

theorem met_ImportEndCommitsOrDrops :
    (ask importing 0x13#8 [0#8, 0#8, 0#8, 0#8]).turn 0x13#8 ⟨0x13#8, 7#16, [0#8, 0#8, 0#8, 0#8]⟩ []
    ∧ importing.mju.life = .importing ∧ fieldAt [0#8, 0#8, 0#8, 0#8] 0 4 = importing.mju.accepted + importing.mju.rejected
    ∧ fieldAt [1#8, 0#8, 0#8, 0#8] 0 4 ≠ importing.mju.accepted + importing.mju.rejected := by decide

theorem met_ExportAndSync :
    (ask (lab [] []) 0x14#8 []).turn 0x14#8 ⟨0x14#8, 7#16, []⟩ [] ∧ (ask (lab [] []) 0x15#8 []).turn 0x15#8 ⟨0x15#8, 7#16, []⟩ []
    ∧ (lab [] []).mju.life = .active ∧ (lab [] []).mju.log = [] ∧ (logged (lab [] []) 3 1 0#32).mju.log ≠ []
    ∧ (exporting 0 0).mju.exporting ≠ none := by decide

theorem met_LookupAnswersTiers :
    let f := rangeFrame 0x20#8 [0#8, 0x19#8, 0#8, 0#8, 0#8, 1#8]
    (ask (lab lookedUp []) f.kind f.body).turn 0x20#8 f [] ∧ f.names 20000 6400 256 := by decide

/-- Blocks 6,440..6,463 of extent 100. -/
def writeFrame : Frame := rangeFrame 0x21#8 [0x28#8, 0x19#8, 0#8, 0#8, 24#8, 0#8]

/-- Slot 5 with extent 100, condemned or not, and this log length. -/
def toWrite (strikes log : Nat) : State :=
  ask (logged (lab [(5, .bound { bound .held 100 full 1#64 (some 0#32) with strikes := strikes })] []) 100 log 0#32) 0x21#8
    writeFrame.body

/-- The plan of section 5.3 in a part of 12 slots, with `n` log entries for slots that it does not touch. -/
def planRoom (n : Nat) : State := logged { toPlan with bt := { toPlan.bt with n := 12 } } 100 n 0#32

/-- Section 5.3 needs three entries: there is room behind 237, and not behind 238. -/
theorem met_RoomRule :
    (run .planWrite (planRoom 237)).map (fun t => t.mju.log.length) = some 240
    ∧ replyOf .planWrite (planRoom 238) = some .retry ∧ mapLaw (planRoom 238) = true
    ∧ (replyOf .planWrite (logged (planRoom 0) 0 12 0#32)).isSome = true
    ∧ (List.range 12).all (inLog (logged (planRoom 0) 0 12 0#32).mju.log) = true := by decide +kernel

/-- The plan of section 5.3 with this S_lim: slot 5 made dirty and slot 9 dirty already count before slot 11 is staged. -/
def tightPlan (extra : Nat) : State :=
  { planRoom 0 with policy := { (planRoom 0).policy with sLim := 1 + extra } }

theorem met_PlanWriteToABoundExtent :
    (toWrite 1 239).mju.life = .active ∧ (toWrite 1 239).turn 0x21#8 writeFrame [] ∧ writeFrame.names 20000 6440 24
    ∧ 6440 / 64 = 100 ∧ (6440 + 24 - 1) / 64 = 100
    ∧ residency (toWrite 1 239).bt.slots 100 = some (5, { bound .held 100 full 1#64 (some 0#32) with strikes := 1 })
    ∧ (toWrite 1 239).mju.log.length < 240
    ∧ (spun (toWrite 2 239)).psm.platter = .ready ∧ (1#64 : BlockSet) &&& BitVec.ofNat 64 (2 ^ 64 - 2 ^ 40) = 0#64
    ∧ mapLaw (planRoom 237) = true
    ∧ (planRoom 237).turn 0x21#8 (rangeFrame 0x21#8 [0x28#8, 0x19#8, 0#8, 0#8, 100#8, 0#8]) []
    ∧ (rangeFrame 0x21#8 [0x28#8, 0x19#8, 0#8, 0#8, 100#8, 0#8]).names 20000 6440 100
    ∧ replyOf .planWrite (tightPlan 1) = some .needsPlatter ∧ (replyOf .planWrite (tightPlan 2)).isSome = true
    ∧ replyOf .planWrite (tightPlan 2) ≠ some .needsPlatter ∧ mapLaw (tightPlan 1) = true := by decide +kernel

/-- A part of one slot, whose binding is a victim of strikes 1. -/
def crammed (kind : Byte) (body : List Byte) : State :=
  let s := ask (logged (lab [(0, .bound { bound .held 9 full 0#64 none with strikes := 1 })] []) 100 239 0#32) kind body
  { s with bt := { s.bt with n := 1 } }

theorem met_PlanWriteToAnUnboundExtent :
    let s := ask (logged (lab [] []) 100 239 0#32) 0x21#8 writeFrame.body
    let v := crammed 0x21#8 writeFrame.body
    s.mju.life = .active ∧ s.turn 0x21#8 writeFrame [] ∧ residency s.bt.slots 100 = none ∧ s.mju.log.length < 240
    ∧ s.psm.platter ≠ .ready ∧ holdStage s ≠ .closed ∧ dirtyCount s.bt.slots < s.policy.sLim ∧ lowestFree s.bt = some 0
    ∧ (spun s).psm.platter = .ready ∧ ({ s with policy := { s.policy with sLim := 0 } } : State).policy.sLim ≤ dirtyCount s.bt.slots
    ∧ v.turn 0x21#8 writeFrame [] ∧ residency v.bt.slots 100 = none ∧ lowestFree v.bt = none ∧ mapLaw v = true
    ∧ victimOf v.bt.slots (· == 100) = some (0, { bound .held 9 full 0#64 none with strikes := 1 }) := by decide +kernel

/-- 64 blocks from offset 0 of extent 100. -/
def discardFrame : Frame := rangeFrame 0x22#8 [0#8, 0x19#8, 0#8, 0#8, 64#8, 0#8]

/-- Slot 5 with extent 100, and a log of 235. -/
def toDiscard (b : Binding) : State := ask (logged (lab [(5, .bound b)] []) 100 235 0#32) 0x22#8 discardFrame.body

theorem met_DiscardRemovesTheRange :
    let s := toDiscard (bound .held 100 full 0#64 none)
    let s2 := toDiscard { bound .held 100 full full (some 0#32) with strikes := 2 }
    let s3 := toDiscard { bound .held 100 full full (some 0#32) with owners := 1#4 }
    let s4 := logged s 100 240 0#32
    s.mju.life = .active ∧ s.turn 0x22#8 discardFrame [] ∧ discardFrame.names 20000 6400 64 ∧ mapLaw s = true
    ∧ s.mju.log.length ≤ 235 ∧ mapLaw s2 = true ∧ bindingAt s2.bt.slots 5 ≠ none ∧ mapLaw s3 = true
    ∧ bindingAt s3.bt.slots 5 ≠ none ∧ full &&& ~~~(BlockSet.span (6400 - 64 * 100) (min 64 (6400 + 64 - 64 * 100))) = 0#64
    ∧ s4.turn 0x22#8 discardFrame [] ∧ mapLaw s4 = true ∧ replyOf .discard s4 = some .retry := by decide +kernel

theorem met_NoDirtyBlockServedFromThePlatter :
    toPlan.mju.life = .active ∧ bindingLaw toPlan = true ∧ mapLaw toPlan = true
    ∧ toPlan.turn 0x21#8 (rangeFrame 0x21#8 [0x28#8, 0x19#8, 0#8, 0#8, 100#8, 0#8]) []
    ∧ replyOf .planWrite toPlan = some (.ok (.runs 100 [⟨6440, 24, .flash 5⟩, ⟨6464, 64, .flash 11⟩, ⟨6528, 12, .flash 9⟩]))
    ∧ (residency toPlan.bt.slots 102).map (fun kb => kb.2.dirty.getLsbD 3) = some true := by decide +kernel

/-- PIN of extent 300 by owner 1. -/
def pinFrame : Frame := rangeFrame 0x30#8 [1#8, 0x2C#8, 1#8, 0#8, 0#8, 1#8]

theorem met_PinOfOneExtent :
    let s := logged (ask (lab [(1, .bound (bound .held 300 full 0#64 none))] []) 0x30#8 pinFrame.body) 100 239 0#32
    let s2 := logged (ask (lab [] []) 0x30#8 pinFrame.body) 100 239 0#32
    let v := crammed 0x30#8 pinFrame.body
    s.mju.life = .active ∧ s.turn 0x30#8 pinFrame [] ∧ fieldAt pinFrame.body 0 1 = 1 ∧ fieldAt pinFrame.body 1 4 = 300
    ∧ fieldAt pinFrame.body 5 1 = 1 ∧ s.pu.alert 1 = none ∧ 300 < s.bt.e ∧ s.mju.log.length < 240
    ∧ residency s.bt.slots 300 = some (1, bound .held 300 full 0#64 none) ∧ pinnedCount s.bt.slots < s.policy.pinLimit
    ∧ residency s2.bt.slots 300 = none ∧ lowestFree s2.bt = some 0
    ∧ ({ s with policy := { s.policy with pinLimit := 0 } } : State).policy.pinLimit ≤ pinnedCount s.bt.slots
    ∧ ({ s with bt := { s.bt with e := 300 } } : State).bt.e ≤ 300 ∧ PinUnit.reset.alert 1 = some .pinsLost
    ∧ v.turn 0x30#8 pinFrame [] ∧ residency v.bt.slots 300 = none ∧ lowestFree v.bt = none ∧ mapLaw v = true
    ∧ victimOf v.bt.slots (· == 300) = some (0, { bound .held 9 full 0#64 none with strikes := 1 })
    ∧ pinnedCount v.bt.slots < v.policy.pinLimit ∧ v.pu.alert 1 = none
    ∧ replyOf .pin (logged s2 100 240 0#32) = some .retry ∧ mapLaw s2 = true
    ∧ toPin.turn 0x30#8 (rangeFrame 0x30#8 [1#8, 0x2C#8, 1#8, 0#8, 0#8, 4#8]) [] ∧ mapLaw toPin = true
    ∧ fieldAt [1#8, 0x2C#8, 1#8, 0#8, 0#8, 4#8] 5 1 = 4 ∧ 300 + 4 ≤ toPin.bt.e ∧ toPin.pu.alert 1 = none
    ∧ (logged toPin 100 176 0#32).mju.log.length ≤ 176 := by
  decide +kernel

theorem met_UnpinRemovesTheOwner :
    let f := rangeFrame 0x31#8 [1#8, 0x2E#8, 1#8, 0#8, 0#8, 64#8]
    let g := rangeFrame 0x31#8 [1#8, 0x2E#8, 1#8, 0#8, 0#8, 0#8]
    let slots : List (Nat × Slot) := [(40, .bound { bound .held 302 0#64 0#64 none with owners := 2#4 })]
    let s := logged (ask (lab slots []) 0x31#8 f.body) 100 176 0#32
    let s2 := logged (ask (lab slots []) 0x31#8 g.body) 100 239 0#32
    s.mju.life = .active ∧ s.turn 0x31#8 f [] ∧ f.body.length = 6 ∧ mapLaw s = true ∧ fieldAt f.body 5 1 = 64
    ∧ s.pu.alert 1 = none ∧ 302 + 64 ≤ s.bt.e ∧ s.mju.log.length ≤ 176
    ∧ s2.turn 0x31#8 g [] ∧ fieldAt g.body 5 1 = 0 ∧ s2.mju.log.length + pinnedCount s2.bt.slots ≤ 240 ∧ mapLaw s2 = true
    ∧ (2#4 : OwnerSet).getLsbD 1 = true ∧ (2#4 : OwnerSet) = BitVec.ofNat 4 (2 ^ 1)
    ∧ replyOf .unpin (logged s 100 240 0#32) = some .retry ∧ replyOf .unpinAll (logged s2 100 240 0#32) = some .retry := by
  decide +kernel

/-- A COMPLETE for issue tag 212 with nothing copied. -/
def completeFrame (code : Byte) : Frame := rangeFrame 0x40#8 [212#8, 0#8, code, 0#8, 0#8, 0#8, 0#8, 0#8, 0#8, 0#8, 0#8]

def toFinish (s : State) (code : Byte) : State := ask s 0x40#8 (completeFrame code).body

theorem met_CompleteRefused :
    (toFinish (lab [] []) 7#8).turn 0x40#8 (completeFrame 7#8) [] ∧ 6 < fieldAt (completeFrame 7#8).body 2 1
    ∧ (toFinish (lab [] []) 6#8).turn 0x40#8 (completeFrame 6#8) [] ∧ fieldAt (completeFrame 6#8).body 2 1 ≤ 6
    ∧ (lab [] []).ou.issued = [] := by decide

/-- The issued drain of slot 30 with tag 212. -/
def draining (b : Binding) (attempts : Nat) : State :=
  let s := lab [(30, .bound { b with tag := some 212#16, redirtied := some 0#64 })] []
  { s with ou := { s.ou with issued := [⟨⟨.drain, 30, 4000, attempts, 0⟩, offs 8 16, 212#16, 6990#32, false⟩] } }

theorem met_CompleteDoneEndsTheOrder :
    let s := toFinish filling 0#8
    let s2 := toFinish (draining { bound .draining 4000 full (offs 8 16) (some 0#32) with strikes := 2 } 3) 0#8
    s.mju.life = .active ∧ s.turn 0x40#8 (completeFrame 0#8) [] ∧ (completeFrame 0#8).body.length = 11
    ∧ BitVec.ofNat 16 (fieldAt (completeFrame 0#8).body 0 2) = 212#16 ∧ fieldAt (completeFrame 0#8).body 2 1 = 0
    ∧ (issuedWith s.ou.issued 212#16).map (fun o => o.order.slot) = some 7 ∧ bindingAt s.bt.slots 7 ≠ none
    ∧ (logged s 100 255 0#32).mju.log.length < 256
    ∧ s2.turn 0x40#8 (completeFrame 0#8) [] ∧ (issuedWith s2.ou.issued 212#16).map (fun o => o.order.slot) = some 30
    ∧ (offs 8 16 &&& ~~~(offs 8 16 &&& ~~~(0#64 : BlockSet))) = 0#64 := by decide +kernel

/-- A COMPLETE for issue tag 212 with every block copied. -/
def copiedFrame (code : Byte) : Frame := rangeFrame 0x40#8 ([212#8, 0#8, code] ++ List.replicate 8 255#8)

theorem met_CompleteReturnsTheOrder :
    let s := toFinish filling 3#8
    let s1 := toFinish (draining (bound .draining 4000 full (offs 8 16) (some 0#32)) 2) 1#8
    let last := toFinish (draining (bound .draining 4000 full (offs 8 16) (some 0#32)) 1) 5#8
    let fill := toFinish { filling with ou := { filling.ou with
      issued := [⟨⟨.heatFill, 7, 15625, 1, 0⟩, full, 212#16, 1000#32, false⟩] } } 1#8
    let s2 := ask filling 0x40#8 (copiedFrame 1#8).body
    s.mju.life = .active ∧ s.turn 0x40#8 (completeFrame 3#8) [] ∧ fieldAt (completeFrame 3#8).body 2 1 = 3
    ∧ fieldAt (completeFrame 3#8).body 3 8 = 0 ∧ (bindingAt s.bt.slots 7).map (fun b => (b.valid, b.strikes)) = some (0#64, 0)
    ∧ s1.turn 0x40#8 (completeFrame 1#8) [] ∧ (issuedWith s1.ou.issued 212#16).map (fun o => o.order.attempts) = some 2
    ∧ fieldAt (completeFrame 2#8).body 2 1 = 2 ∧ fieldAt (completeFrame 6#8).body 2 1 = 6
    ∧ last.turn 0x40#8 (completeFrame 5#8) [] ∧ (issuedWith last.ou.issued 212#16).map (fun o => o.order.attempts) = some 1
    ∧ fill.turn 0x40#8 (completeFrame 1#8) [] ∧ (issuedWith fill.ou.issued 212#16).map (fun o => o.order.attempts) = some 1
    ∧ s2.turn 0x40#8 (copiedFrame 1#8) [] ∧ BitVec.ofNat 64 (fieldAt (copiedFrame 1#8).body 3 8) &&& full = BitVec.allOnes 64
    ∧ s.mju.log.length < 256 := by decide +kernel

theorem met_FlashFaultStrikes :
    let s := toFinish (draining { bound .draining 4000 full (offs 8 16) (some 0#32) with strikes := 1 } 2) 4#8
    let s2 := toFinish { filling with bt := { filling.bt with slots := [(7, .bound { bound .filling 15625 0#64 0#64 none with
      tag := some 212#16, overtaken := some 0#64, strikes := 1 })] } } 4#8
    s.mju.life = .active ∧ s.turn 0x40#8 (completeFrame 4#8) [] ∧ fieldAt (completeFrame 4#8).body 2 1 = 4
    ∧ (issuedWith s.ou.issued 212#16).map (fun o => o.order.attempts) = some 2 ∧ bindingAt s.bt.slots 30 ≠ none
    ∧ s.mju.log.length < 256 ∧ s2.turn 0x40#8 (completeFrame 4#8) []
    ∧ (bindingAt s2.bt.slots 7).map (fun b => (b.strikes, b.dirty)) = some (1, 0#64)
    ∧ (toFinish filling 4#8).turn 0x40#8 (completeFrame 4#8) []
    ∧ (bindingAt filling.bt.slots 7).map (fun b => (b.strikes, decide (b.valid = BitVec.allOnes 64))) = some (0, false)
    ∧ (issuedWith filling.ou.issued 212#16).map (fun o => o.order.attempts) = some 3
    ∧ (issuedWith (draining (bound .draining 4000 full full (some 0#32)) 1).ou.issued 212#16).map
        (fun o => o.order.attempts) = some 1
    ∧ mapLaw (toFinish filling 4#8) = true
    ∧ replyOf .complete (logged (toFinish filling 4#8) 100 256 0#32) = some .retry
    ∧ (issuedWith { filling with ou := { filling.ou with
        issued := [⟨⟨.heatFill, 7, 15625, 1, 0⟩, full, 212#16, 1000#32, false⟩] } }.ou.issued 212#16).map
        (fun o => o.order.attempts) = some 1
    ∧ (ask filling 0x40#8 (copiedFrame 4#8).body).turn 0x40#8 (copiedFrame 4#8) [] := by
  decide +kernel

theorem met_QueueControlAndDrainAll :
    (ask (lab [] []) 0x41#8 [2#8, 2#8]).turn 0x41#8 (rangeFrame 0x41#8 [2#8, 2#8]) [] ∧ queueOf (fieldAt [2#8, 2#8] 0 1) = some .drain
    ∧ fieldAt [2#8, 2#8] 1 1 = 2 ∧ 2 < fieldAt [2#8, 3#8] 1 1 ∧ 2 < fieldAt [3#8, 0#8] 0 1 ∧ (lab [] []).mju.life = .active
    ∧ State.reset.mju.life = .unbound ∧ importing.mju.life = .importing
    ∧ (ask (staged 7000#32) 0x42#8 []).turn 0x42#8 (rangeFrame 0x42#8 []) [] ∧ dirtyCount (staged 7000#32).bt.slots = 1
    ∧ dirtyCount (lab [] []).bt.slots = 0 := by decide

/-- A POLICY request of one pair. -/
def pairBody (id : Byte) : List Byte := [id, 0#8, 0#8, 0#8, 0#8]

theorem met_PolicyClamps :
    let two := pairBody 3#8 ++ pairBody 3#8
    let bad := pairBody 18#8 ++ pairBody 19#8
    (ask State.reset 0x50#8 []).turn 0x50#8 (rangeFrame 0x50#8 []) []
    ∧ (ask State.reset 0x50#8 two).turn 0x50#8 (rangeFrame 0x50#8 two) [] ∧ two.length = 5 * 2
    ∧ fieldAt two (5 * 0) 1 = 3 ∧ fieldAt two (5 * 1) 1 = 3
    ∧ (ask State.reset 0x50#8 bad).turn 0x50#8 (rangeFrame 0x50#8 bad) [] ∧ fieldAt bad (5 * 0) 1 = 18 ∧ fieldAt bad (5 * 1) 1 = 19
    ∧ fieldAt (pairBody 1#8) 0 1 = 1 ∧ fieldAt (pairBody 0#8) 0 1 = 0 := by decide

theorem met_StatusReports : (ask (lab victims []) 0x51#8 []).turn 0x51#8 (rangeFrame 0x51#8 []) []
    ∧ mapLaw (ask (lab victims []) 0x51#8 []) = true := by decide +kernel

/-- The four stages are met at their boundaries, with the default H_hold of 600. -/
theorem met_HoldStages :
    dirtyAges 7000#32 (lab [] []).bt.slots = []
    ∧ oldestDirtyAge 10299#32 (staged 10299#32).bt.slots = 299 ∧ oldestDirtyAge 10300#32 (staged 10300#32).bt.slots = 300
    ∧ oldestDirtyAge 10525#32 (staged 10525#32).bt.slots = 525 ∧ oldestDirtyAge 10600#32 (staged 10600#32).bt.slots = 600
    ∧ (lab [] []).policy.hHold / 2 = 300 ∧ 7 * (lab [] []).policy.hHold / 8 = 525
    ∧ dirtyAges 10299#32 (staged 10299#32).bt.slots ≠ [] := by
  decide +kernel

theorem met_ConditionAndFaultsReport :
    (ask State.reset 0x52#8 []).turn 0x52#8 (rangeFrame 0x52#8 []) []
    ∧ (ask State.reset 0x52#8 [0#8]).turn 0x52#8 (rangeFrame 0x52#8 [0#8]) []
    ∧ (ask State.reset 0x53#8 []).turn 0x53#8 (rangeFrame 0x53#8 []) []
    ∧ (ask State.reset 0x54#8 [0#8]).turn 0x54#8 (rangeFrame 0x54#8 [0#8]) [] := by decide

/-- A fault of each kind of outcome: folded, added beside 7 others, and counted beside 8. -/
theorem met_FaultRecording :
    let es := (List.range 8).map fun k => (⟨.orderTimeout, .slot k, 0#32, 0#32, 1⟩ : FaultEntry)
    (es.map fun e => (e.kind, e.subject)).Nodup ∧ (es.take 7).length < 8 ∧ 8 ≤ es.length
    ∧ (∀ e ∈ es, ¬(e.kind = .linkCheck ∧ e.subject = .none)) ∧ (∃ e ∈ es, e.kind = .orderTimeout ∧ e.subject = .slot 7) := by
  decide

theorem met_ResetCold : (ask filling 0x5F#8 [1#8]).turn 0x5F#8 (rangeFrame 0x5F#8 [1#8]) [] := by decide

theorem met_ResetWarm :
    (ask filling 0x5F#8 [0#8]).turn 0x5F#8 (rangeFrame 0x5F#8 [0#8]) [] ∧ mapLaw (ask filling 0x5F#8 [0#8]) = true
    ∧ filling.mju.life = .active ∧ State.reset.mju.life = .unbound ∧ importing.mju.life = .importing
    ∧ (ask filling 0x5F#8 [2#8]).turn 0x5F#8 (rangeFrame 0x5F#8 [2#8]) [] ∧ 1 < (2#8 : Byte).toNat
    ∧ (bindingAt emptied.bt.slots 7).map (fun b => (b.strikes, b.isDirty)) = some (2, false)
    ∧ mapLaw emptied = true ∧ (slotAfter .resetWarm (ask emptied 0x5F#8 [0#8]) 7).isNone = true
    ∧ (bindingAt emptied.bt.slots 7).map Binding.owners = some 5#4 := by
  decide +kernel

theorem met_FramesAreSent :
    (pulled ((lab [] []).reply 1#16 .retry)).laneFor .reply ∧ ordered.laneFor .order ∧ ordered.lif.orderFrames ≠ []
    ∧ (pulled ((staged 10300#32).advise .spinUp .soon)).laneFor .advice
    ∧ ((staged 10300#32).advise .spinUp .soon).lif.advice ≠ none ∧ ¬(lab [] []).laneFor .reply
    ∧ (lab [] []).lif.upLane = none ∧ ((lab [] []).startFrame statusFrame).lif.upLane ≠ none
    ∧ ¬((lab [] []).startFrame statusFrame).laneFor .reply ∧ ((lab [] []).startFrame statusFrame).lif.credit = 0
    ∧ behindOrder.lif.upLane ≠ none ∧ behindOrder.lif.reply = none ∧ 0 < behindOrder.lif.credit := by decide

theorem met_DeltaSendsTheLog :
    syncing.laneFor .delta ∧ syncing.lif.deltaAsking = true ∧ syncing.mju.log ≠ [] ∧ syncing.mju.sync = some ⟨7#16, 20⟩
    ∧ min 16 syncing.mju.log.length < 20
    ∧ (run .delta syncing).map (fun t => decide (t.mju.log ≠ syncing.mju.log)) = some true
    ∧ (run .planWrite (planRoom 237)).map (fun t => t.mju.log.drop 237) = some [⟨5, 7000#32⟩, ⟨11, 7000#32⟩, ⟨9, 7000#32⟩] := by
  decide +kernel

theorem met_ExportFramesAreSent :
    (exporting 16 16).laneFor .exporting ∧ (exporting 16 16).mju.exporting = some ⟨16, 16⟩ ∧ mapLaw (exporting 16 16) = true
    ∧ tget (exporting 16 16).bt.slots 16 ≠ none ∧ (exporting 16 16).bt.n = 1024
    ∧ (exporting 31 18).mju.exporting = some ⟨31, 18⟩ ∧ ((exporting 31 18).bt.slots.all fun p => decide (p.1 < 31)) = true := by
  decide +kernel

/-- A state in work meets every law, and a step from it is taken. -/
theorem met_EveryStepKeepsTheLaws :
    allLaws filling = true ∧ (run .secondsAdvance filling).isSome = true := by
  decide +kernel

theorem met_LifecycleChanges :
    (run .attach (ask State.reset 0x10#8 [0#8, 4#8, 9#8, 0#8, 0#8, 0#8, 4#8])).map (fun t => t.mju.life) = some .active
    ∧ State.reset.mju.life ≠ .active := by decide

theorem met_NoDirtyBlockIsLost :
    let s := toFinish (draining (bound .draining 4000 full (offs 8 16) (some 0#32)) 3) 0#8
    s.mju.life = .active ∧ bindingLaw s = true ∧ mapLaw s = true ∧ (run .complete s).isSome = true
    ∧ (bindingAt s.bt.slots 30).map (fun b => (b.extent, b.dirty.getLsbD 8)) = some (4000, true) := by decide +kernel

end Sys2Proof.Tests
end

section
/-! SUPPORT. The request handler's turn, the operands of a COMPLETE, the issue tags and the dispatch, as the claims of
sections 6.3 to 6.6 need them. -/

namespace Sys2Proof.Machine

/-! ### A request in its turn (R172, R173) -/

/-- A request that has the turn and passes the checks of R173 is served, its frame gone from the intake. -/
theorem takeRequest_of_turn {row : RequestRow} {s : State} {kind : Byte} {f : Frame} {rest : List Frame}
    (serve : Frame → State → State) (hturn : s.turn kind f rest) (hrow : requestRow f = row)
    (hphase : phaseRefusal row s.mju.life = none) (hlen : lengthOk row f.body.length = true) :
    takeRequest row serve s = serve f (s.taken rest) := by
  obtain ⟨hintake, -, hsync, hreply, hsending, hlane⟩ := hturn
  have horder : orderStarts s = false := by
    rcases hlane with hbusy | hcredit | hnone
    · simp [orderStarts, hbusy]
    · simp [orderStarts, hcredit]
    · simp [orderStarts, hnone]
  exact takeRequest_served row serve s f rest hsync hreply hsending horder hintake hrow hphase hlen

/-! ### The fields of a body (section 10.7) -/

theorem leValue_lt (bytes : List Byte) : leValue bytes < 256 ^ bytes.length := by
  induction bytes with
  | nil => simp [leValue]
  | cons b rest ih =>
    have hb : b.toNat < 256 := b.isLt
    simp only [leValue, List.length_cons, Nat.pow_succ]
    omega

theorem fieldAt_lt (body : List Byte) (offset size : Nat) : fieldAt body offset size < 256 ^ size :=
  (leValue_lt _).trans_le (Nat.pow_le_pow_right (by decide) (List.length_take_le _ _))

/-- The codes of a completion are the seven of section 10.7. -/
theorem completionOf_eq_none_iff (v : Nat) : completionOf v = none ↔ 6 < v := by
  rcases Nat.lt_or_ge 6 v with hv | hv
  · obtain ⟨k, rfl⟩ := Nat.exists_eq_add_of_le' hv
    simp [completionOf]
  · interval_cases v <;> simp [completionOf]

/-! ### Looking up an issue tag (R104, R116) -/

theorem issuedWith_eq_none_iff (issued : List Issued) (t : Tag) :
    issuedWith issued t = none ↔ ∀ o ∈ issued, o.tag ≠ t := by
  simp [issuedWith]

theorem issuedWith_isSome_iff (issued : List Issued) (t : Tag) :
    (issuedWith issued t).isSome = true ↔ ∃ o ∈ issued, o.tag = t := by
  simp [issuedWith]

/-! ### COMPLETE (R107, R116) -/

/-- The tag of a COMPLETE is its field of two bytes, whole. -/
theorem completeTag_toNat (f : Frame) : (completeTag f).toNat = fieldAt f.body 0 2 := by
  have hlt : fieldAt f.body 0 2 < 2 ^ 16 := fieldAt_lt f.body 0 2
  simpa [completeTag] using hlt

theorem requestRow_complete {f : Frame} (hkind : f.kind = 0x40#8) : requestRow f = .complete := by
  simp [requestRow, hkind, Kind.attach, Kind.importBegin, Kind.importPut, Kind.importEnd, Kind.exportMap, Kind.sync,
    Kind.lookup, Kind.planWrite, Kind.discard, Kind.pin, Kind.unpin, Kind.complete]

/-- A COMPLETE of the right length that has the turn in an ACTIVE map is served. -/
theorem exec_complete_of_turn {s : State} {f : Frame} {rest : List Frame} (hlife : s.mju.life = .active)
    (hturn : s.turn 0x40#8 f rest) (hlen : f.body.length = 11) :
    exec .complete s = .next (serveComplete f (s.taken rest)) := by
  have hkind : f.kind = 0x40#8 := hturn.2.1
  have htake : takeRequest .complete serveComplete s = serveComplete f (s.taken rest) :=
    takeRequest_of_turn serveComplete hturn (requestRow_complete hkind) (by simp [phaseRefusal, hlife])
      (by simp [lengthOk, hlen])
  exact congrArg Host.Outcome.next htake

theorem serveComplete_badCode {f : Frame} (s : State) (hcode : 6 < fieldAt f.body 2 1) :
    serveComplete f s = s.refer f .form .badField 2 := by
  simp [serveComplete, (completionOf_eq_none_iff _).mpr hcode]

/-- R116: a tag that no issued order has. -/
theorem serveComplete_late {f : Frame} {s : State} (hcode : fieldAt f.body 2 1 ≤ 6)
    (htag : ∀ o ∈ s.ou.issued, o.tag.toNat ≠ fieldAt f.body 0 2) :
    serveComplete f s = s.refer f .order .late (fieldAt f.body 0 2) := by
  have hnone : issuedWith s.ou.issued (completeTag f) = none :=
    (issuedWith_eq_none_iff _ _).mpr fun o ho heq => htag o ho (by rw [heq, completeTag_toNat])
  cases hc : completionOf (fieldAt f.body 2 1) with
  | none => exact absurd ((completionOf_eq_none_iff _).mp hc) (by omega)
  | some code => simp [serveComplete, hc, hnone, completeTag_toNat]

/-! ### The cycle of the tags (R104) -/

/-- The tag after `t` in the cycle 1, 2, …, 65535, 1. -/
theorem nextTag_toNat {t : Tag} (ht : t ≠ 0#16) : (nextTag t).toNat = t.toNat % 65535 + 1 := by
  have hpos : t.toNat ≠ 0 := fun h => ht (BitVec.eq_of_toNat_eq h)
  have hlt := t.isLt
  unfold nextTag
  split
  · next htop => simp [htop]
  · next htop =>
    have hne : t.toNat ≠ 65535 := fun h => htop (BitVec.eq_of_toNat_eq h)
    rw [BitVec.toNat_add_of_lt (by simp; omega), Nat.mod_eq_of_lt (by omega)]
    rfl

theorem nextTag_ne_zero {t : Tag} (ht : t ≠ 0#16) : nextTag t ≠ 0#16 := by
  intro h
  have hval := nextTag_toNat ht
  simp [h] at hval

theorem iterate_nextTag_ne_zero {t : Tag} (ht : t ≠ 0#16) (n : Nat) : nextTag^[n] t ≠ 0#16 := by
  induction n with
  | zero => exact ht
  | succ n ih => rw [Function.iterate_succ_apply']; exact nextTag_ne_zero ih

/-- Each step moves one place on in the cycle of 65535 tags. -/
theorem iterate_nextTag_toNat {t : Tag} (ht : t ≠ 0#16) (n : Nat) :
    (nextTag^[n] t).toNat = (t.toNat - 1 + n) % 65535 + 1 := by
  have hpos : t.toNat ≠ 0 := fun h => ht (BitVec.eq_of_toNat_eq h)
  have hlt := t.isLt
  induction n with
  | zero => simp; omega
  | succ n ih =>
    rw [Function.iterate_succ_apply', nextTag_toNat (iterate_nextTag_ne_zero ht n), ih]
    omega

/-- No tag comes twice within one round of the cycle. -/
theorem iterate_nextTag_inj {t : Tag} (ht : t ≠ 0#16) {m n : Nat} (hm : m < 65535) (hn : n < 65535)
    (h : nextTag^[m] t = nextTag^[n] t) : m = n := by
  have hval := congrArg BitVec.toNat h
  rw [iterate_nextTag_toNat ht, iterate_nextTag_toNat ht] at hval
  omega

/-- R104, by the pigeonhole principle: the tags from the counter on, as many as there are issued orders and one more, are
distinct, so not all of them are held. -/
theorem exists_free_iterate (issued : List Issued) {counter : Tag} (hcounter : counter ≠ 0#16)
    (hlen : issued.length < 65535) :
    ∃ n, n ≤ issued.length ∧ ¬ ∃ o ∈ issued, o.tag = nextTag^[n] counter := by
  by_contra! hheld
  have hcard : (issued.map Issued.tag).toFinset.card < (Finset.range (issued.length + 1)).card := by
    have hle := List.toFinset_card_le (issued.map Issued.tag)
    rw [List.length_map] at hle
    rw [Finset.card_range]
    omega
  have hmaps : ∀ n ∈ Finset.range (issued.length + 1), nextTag^[n] counter ∈ (issued.map Issued.tag).toFinset := by
    intro n hn
    rw [Finset.mem_range] at hn
    exact List.mem_toFinset.mpr (List.mem_map.mpr (hheld n (by omega)))
  obtain ⟨m, hm, n, hn, hne, htwice⟩ := Finset.exists_ne_map_eq_of_card_lt_of_maps_to hcard hmaps
  rw [Finset.mem_range] at hm hn
  exact hne (iterate_nextTag_inj hcounter (by omega) (by omega) htwice)

/-! ### The first free tag (R104) -/

/-- With fuel to reach it, `freeTag` is the first tag from the counter on that no issued order has. -/
theorem freeTag_eq_iterate (issued : List Issued) {n : Nat} :
    ∀ {fuel : Nat} {t : Tag}, n ≤ fuel → (∀ m, m < n → ∃ o ∈ issued, o.tag = nextTag^[m] t) →
      (¬ ∃ o ∈ issued, o.tag = nextTag^[n] t) → freeTag issued fuel t = nextTag^[n] t := by
  induction n with
  | zero =>
    intro fuel t _ _ hfree
    rw [← issuedWith_isSome_iff] at hfree
    cases fuel with
    | zero => rfl
    | succ fuel => exact if_neg hfree
  | succ n ih =>
    intro fuel t hfuel hheld hfree
    obtain ⟨fuel, rfl⟩ : ∃ k, fuel = k + 1 := ⟨fuel - 1, by omega⟩
    have hhead : (issuedWith issued t).isSome = true :=
      (issuedWith_isSome_iff issued t).mpr (hheld 0 (by omega))
    calc freeTag issued (fuel + 1) t = freeTag issued fuel (nextTag t) := if_pos hhead
      _ = nextTag^[n] (nextTag t) := ih (by omega) (fun m hm => hheld (m + 1) (by omega)) hfree
      _ = nextTag^[n + 1] t := rfl

/-- The tag of R104, with as much fuel as there are issued orders: the tags passed over are held, and it is not. -/
theorem freeTag_first_free (issued : List Issued) {counter : Tag} (hcounter : counter ≠ 0#16)
    (hlen : issued.length < 65535) :
    ∃ n, freeTag issued issued.length counter = nextTag^[n] counter
      ∧ (∀ m, m < n → ∃ o ∈ issued, o.tag = nextTag^[m] counter)
      ∧ ¬ ∃ o ∈ issued, o.tag = nextTag^[n] counter := by
  classical
  obtain ⟨k, hk, hkfree⟩ := exists_free_iterate issued hcounter hlen
  have hex : ∃ n, ¬ ∃ o ∈ issued, o.tag = nextTag^[n] counter := ⟨k, hkfree⟩
  have hreach : Nat.find hex ≤ issued.length := (Nat.find_min' hex hkfree).trans hk
  have hheld : ∀ m, m < Nat.find hex → ∃ o ∈ issued, o.tag = nextTag^[m] counter :=
    fun m hm => not_not.mp (Nat.find_min hex hm)
  exact ⟨Nat.find hex, freeTag_eq_iterate issued hreach hheld (Nat.find_spec hex), hheld, Nat.find_spec hex⟩

/-! ### What a dispatch does (R100 to R103) -/

/-- Everything DISPATCH can do: nothing, the end of an order with no block to copy, or the dispatch of one. -/
theorem exec_dispatch_cases (s : State) :
    exec .dispatch s = .next s
    ∨ ∃ q w b, active s = true ∧ windowOpen s = true ∧ arbiterChoice s = some q ∧ firstReady s q = some w
        ∧ bindingAt s.bt.slots w.order.slot = some b
        ∧ ((selectionBlocks q b = BlockSet.none ∧ exec .dispatch s = .next (endAtSelection s q w b))
          ∨ (selectionBlocks q b ≠ BlockSet.none ∧ exec .dispatch s = .next (dispatchOrder s q w b))) := by
  have hexec : exec .dispatch s = execDispatch s := rfl
  rw [hexec, execDispatch]
  by_cases hopen : (active s && windowOpen s) = true
  case neg => exact .inl (by simp [hopen])
  rw [if_pos hopen]
  cases hq : arbiterChoice s with
  | none => exact .inl rfl
  | some q =>
    cases hw : firstReady s q with
    | none => exact .inl (by simp [hw])
    | some w =>
      cases hb : bindingAt s.bt.slots w.order.slot with
      | none => exact .inl (by simp [hw, hb])
      | some b =>
        obtain ⟨hactive, hwindow⟩ := Bool.and_eq_true_iff.mp hopen
        refine .inr ⟨q, w, b, hactive, hwindow, rfl, hw, hb, ?_⟩
        by_cases hblocks : selectionBlocks q b = BlockSet.none
        · exact .inl ⟨hblocks, by simp [hw, hb, selectOrder, hblocks]⟩
        · exact .inr ⟨hblocks, by simp [hw, hb, selectOrder, hblocks]⟩

@[simp] theorem State.leaveOrder_ou (s : State) (k : Nat) (b : Binding) (free : Bool) :
    (s.leaveOrder k b free).ou = s.ou := by
  rcases leaveOrder_cases s k b free with ⟨-, h⟩ | ⟨-, h⟩ | ⟨-, h⟩ <;> simp [h]

/-- An order that ends at its selection takes no place in the issued set (R102). -/
theorem endAtSelection_issued (s : State) (q : QueueId) (w : Waiting) (b : Binding) :
    (endAtSelection s q w b).ou.issued = s.ou.issued := by
  simp [endAtSelection]

/-- A dispatched order enters the issued set last, with the free tag (R103, R104). -/
theorem dispatchOrder_issued (s : State) (q : QueueId) (w : Waiting) (b : Binding) :
    (dispatchOrder s q w b).ou.issued = s.ou.issued ++
      [⟨w.order, selectionBlocks q b, freeTag s.ou.issued s.ou.issued.length s.ou.tagCounter, s.seconds, false⟩] := by
  simp [dispatchOrder]

theorem dispatchOrder_tagCounter (s : State) (q : QueueId) (w : Waiting) (b : Binding) :
    (dispatchOrder s q w b).ou.tagCounter = nextTag (freeTag s.ou.issued s.ou.issued.length s.ou.tagCounter) := by
  simp [dispatchOrder]

/-- A dispatch that issues an order gives it the free tag and moves the counter past it (R104). -/
theorem exec_dispatch_tag {s t : State} {o : Issued} (hexec : exec .dispatch s = .next t)
    (hissued : t.ou.issued = s.ou.issued ++ [o]) :
    o.tag = freeTag s.ou.issued s.ou.issued.length s.ou.tagCounter ∧ t.ou.tagCounter = nextTag o.tag := by
  have hgrown : t.ou.issued ≠ s.ou.issued := by simp [hissued]
  rcases exec_dispatch_cases s with hsame | ⟨q, w, b, -, -, -, -, -, ⟨-, hend⟩ | ⟨-, hdispatch⟩⟩
  · obtain rfl : s = t := Host.Outcome.next.inj (hsame.symm.trans hexec)
    exact absurd rfl hgrown
  · obtain rfl := Host.Outcome.next.inj (hend.symm.trans hexec)
    exact absurd (endAtSelection_issued s q w b) hgrown
  · obtain rfl := Host.Outcome.next.inj (hdispatch.symm.trans hexec)
    rw [dispatchOrder_issued] at hissued
    obtain rfl := List.singleton_inj.mp (List.append_cancel_left hissued)
    exact ⟨rfl, dispatchOrder_tagCounter s q w b⟩

end Sys2Proof.Machine
end

section
/-! SUPPORT. The claims on the issue tags and on the refusals of COMPLETE. -/

namespace Sys2Proof.Machine

/-- Settles O17, by the cycle of the tags: of its 65535 tags fewer are held, so the search ends at the first free one. -/
theorem tagAllocation : Obligations.TagAllocation := by
  refine ⟨fun _ => rfl, ?_, fun _ _ _ hexec hissued => exec_dispatch_tag hexec hissued⟩
  intro issued counter hcounter hlen
  obtain ⟨n, htag, hheld, hfree⟩ := freeTag_first_free issued hcounter hlen
  rw [htag]
  exact ⟨n, rfl, hheld, fun o ho heq => hfree ⟨o, ho, heq⟩, iterate_nextTag_ne_zero hcounter n⟩

/-- Settles O36, by the order of the checks of R107: the code first, then the tag. -/
theorem completeRefused : Obligations.CompleteRefused := by
  intro s f rest hlife hturn hlen
  rw [exec_complete_of_turn hlife hturn hlen]
  constructor
  · intro hcode
    rw [serveComplete_badCode _ hcode, refer_taken]
  · intro hcode htag
    rw [serveComplete_late hcode (by simpa using htag), refer_taken]

end Sys2Proof.Machine
end

section
/-! SUPPORT. The dirty ages and the hold stage, as the claim of section 7.3 needs them. -/

namespace Sys2Proof.Machine

/-! ### The dirty ages (R125) -/

theorem Binding.dirtyAge_eq_some {now : Time} {b : Binding} {a : Nat} :
    b.dirtyAge now = some a ↔ ∃ u, b.dirty ≠ 0#64 ∧ b.dirtySince = some u ∧ a = age now u := by
  by_cases hdirty : b.dirty = 0#64
  · simp [Binding.dirtyAge, Binding.isDirty, BlockSet.none, hdirty]
  · simp [Binding.dirtyAge, Binding.isDirty, BlockSet.none, hdirty, eq_comm]

theorem mem_dirtyAges {now : Time} {slots : List (Nat × Slot)} {a : Nat} :
    a ∈ dirtyAges now slots ↔
      ∃ kb ∈ bindingsOf slots, ∃ u, kb.2.dirty ≠ 0#64 ∧ kb.2.dirtySince = some u ∧ a = age now u := by
  simp only [dirtyAges, List.mem_filterMap, Binding.dirtyAge_eq_some]

theorem dirtyAges_eq_nil_iff {now : Time} {slots : List (Nat × Slot)} :
    dirtyAges now slots = [] ↔ ∀ kb ∈ bindingsOf slots, kb.2.dirty = 0#64 ∨ kb.2.dirtySince = none := by
  simp only [List.eq_nil_iff_forall_not_mem, mem_dirtyAges]
  constructor
  · intro hnone kb hkb
    by_contra! hboth
    obtain ⟨u, hu⟩ := Option.ne_none_iff_exists'.mp hboth.2
    exact hnone (age now u) ⟨kb, hkb, u, hboth.1, hu, rfl⟩
  · rintro hclean a ⟨kb, hkb, u, hdirty, hu, -⟩
    rcases hclean kb hkb with h | h
    · exact hdirty h
    · simp [h] at hu

/-! ### The oldest of them -/

theorem oldestDirtyAge_of_eq_nil {now : Time} {slots : List (Nat × Slot)} (h : dirtyAges now slots = []) :
    oldestDirtyAge now slots = 0 := by
  simp [oldestDirtyAge, h]

/-- Where there is a dirty age, the fold's start at 0 does not show: the oldest is the maximum of the list. -/
theorem max?_dirtyAges {now : Time} {slots : List (Nat × Slot)} (h : dirtyAges now slots ≠ []) :
    (dirtyAges now slots).max? = some (oldestDirtyAge now slots) := by
  obtain ⟨a, rest, hcons⟩ := List.exists_cons_of_ne_nil h
  rw [oldestDirtyAge, hcons, List.max?_cons', List.foldl_cons, Nat.zero_max]

theorem oldestDirtyAge_mem {now : Time} {slots : List (Nat × Slot)} (h : dirtyAges now slots ≠ []) :
    oldestDirtyAge now slots ∈ dirtyAges now slots :=
  (List.max?_eq_some_iff.mp (max?_dirtyAges h)).1

theorem le_oldestDirtyAge {now : Time} {slots : List (Nat × Slot)} {a : Nat} (h : a ∈ dirtyAges now slots) :
    a ≤ oldestDirtyAge now slots :=
  (List.max?_eq_some_iff.mp (max?_dirtyAges (List.ne_nil_of_mem h))).2 a h

/-! ### The hold stage (R126) -/

theorem stageAt_calm {h a : Nat} (hlt : a < h / 2) : stageAt h a = .calm := if_pos hlt

theorem stageAt_soon {h a : Nat} (hhalf : h / 2 ≤ a) (hlt : a < 7 * h / 8) : stageAt h a = .soon := by
  simp [stageAt, hhalf.not_gt, hlt]

theorem stageAt_urgent {h a : Nat} (hhalf : h / 2 ≤ a) (hseven : 7 * h / 8 ≤ a) (hlt : a < h) :
    stageAt h a = .urgent := by
  simp [stageAt, hhalf.not_gt, hseven.not_gt, hlt]

/-- Both fractions of H_hold lie at or below it, so CLOSED needs no other bound. -/
theorem stageAt_closed {h a : Nat} (hle : h ≤ a) : stageAt h a = .closed := by
  have hhalf : h / 2 ≤ a := by omega
  have hseven : 7 * h / 8 ≤ a := by omega
  simp [stageAt, hhalf.not_gt, hseven.not_gt, hle.not_gt]

theorem holdStage_of_eq_nil {s : State} (h : dirtyAges s.seconds s.bt.slots = []) : holdStage s = .calm := by
  simp [holdStage, h]

theorem holdStage_of_ne_nil {s : State} (h : dirtyAges s.seconds s.bt.slots ≠ []) :
    holdStage s = stageAt s.policy.hHold (oldestDirtyAge s.seconds s.bt.slots) := by
  obtain ⟨a, rest, hcons⟩ := List.exists_cons_of_ne_nil h
  simp [holdStage, oldestDirtyAge, hcons]

end Sys2Proof.Machine
end

section
/-! SUPPORT. The claim on the hold stages. -/

namespace Sys2Proof.Machine

/-- Settles O43: the oldest dirty age is the maximum of the dirty ages, and the stage is read from it alone. -/
theorem holdStages : Obligations.HoldStages := by
  rintro s a h rfl rfl
  refine ⟨fun hnil => ⟨holdStage_of_eq_nil hnil, oldestDirtyAge_of_eq_nil hnil⟩, ?_, dirtyAges_eq_nil_iff, ?_⟩
  · intro hsome
    rw [holdStage_of_ne_nil hsome]
    exact ⟨mem_dirtyAges.mp (oldestDirtyAge_mem hsome), stageAt_calm, stageAt_soon, stageAt_urgent, stageAt_closed⟩
  · intro kb hkb u hdirty hu
    exact le_oldestDirtyAge (mem_dirtyAges.mpr ⟨kb, hkb, u, hdirty, hu, rfl⟩)

end Sys2Proof.Machine
end

section
/-! SUPPORT. The refusal of a request by the lifecycle, and ATTACH and IMPORT_BEGIN, as the claims of chapter 9 need
them. -/

namespace Sys2Proof.Machine

/-! ### A request in its turn that the lifecycle does not serve (R173) -/

theorem kind_of_turn {s : State} {kind : Byte} {f : Frame} {rest : List Frame} (hturn : s.turn kind f rest) :
    f.kind = kind :=
  hturn.2.1

/-- Where the request handler has the turn, no ORDER frame goes before the next reply (R175). -/
theorem orderStarts_of_turn {s : State} {kind : Byte} {f : Frame} {rest : List Frame} (hturn : s.turn kind f rest) :
    orderStarts s = false := by
  obtain ⟨-, -, -, -, -, hbusy | hcredit | hnone⟩ := hturn
  · simp [orderStarts, hbusy]
  · simp [orderStarts, hcredit]
  · simp [orderStarts, hnone]

/-- The lifecycle is checked first: the body of a request that it refuses is not looked at, not even its length. -/
theorem takeRequest_phaseRefused_of_turn {row : RequestRow} {s : State} {kind : Byte} {f : Frame} {rest : List Frame}
    {code : CondCode} (serve : Frame → State → State) (hturn : s.turn kind f rest) (hrow : requestRow f = row)
    (hphase : phaseRefusal row s.mju.life = some code) :
    takeRequest row serve s = s.refused rest f .phase code 0 := by
  have horder : orderStarts s = false := orderStarts_of_turn hturn
  obtain ⟨hintake, -, hsync, hreply, hsending, -⟩ := hturn
  simp only [takeRequest_eq row serve s f rest hsync hreply hsending horder hintake hrow, hphase, refer_taken]

/-! ### The part becoming ACTIVE (R71, R136) -/

theorem ready_iff (s : State) : ready s = true ↔ s.psm.platter = .ready := by
  simp [ready]

theorem becomeActive_eq (s : State) :
    becomeActive s = { s with
      mju := { s.mju with life := .active }
      au := { s.au with tokens := s.policy.bMax, acc := 0 }
      psm := if s.psm.platter = PlatterState.ready then { s.psm with restRef := some s.seconds, restGiven := false }
        else s.psm } := by
  simp only [becomeActive, ready_iff]

/-! ### ATTACH (R153) -/

theorem requestRow_attach {f : Frame} (hkind : f.kind = 0x10#8) : requestRow f = .attach := if_pos hkind

/-- An ATTACH served: the map opened, the part ACTIVE and its journal stale, and the three sizes in the reply. -/
theorem serveAttach_taken (f : Frame) (s : State) (rest : List Frame) :
    serveAttach f (s.taken rest) = { s with
      bt := ⟨takenN f, takenE f, []⟩
      policy := { s.policy with sLim := takenN f / 8, pinLimit := takenN f / 4, window := takenW f }
      au := { s.au with tokens := s.policy.bMax, acc := 0 }
      mju := { s.mju with life := .active, stale := true }
      psm := if s.psm.platter = PlatterState.ready then { s.psm with restRef := some s.seconds, restGiven := false }
        else s.psm }.answered rest f.tag (.attach (takenN f) (takenE f) (takenW f)) := by
  rw [serveAttach, becomeActive_eq]
  rfl

/-- An ATTACH of the right length that has the turn in an UNBOUND map is served. -/
theorem exec_attach_of_turn {s : State} {f : Frame} {rest : List Frame} (hlife : s.mju.life = .unbound)
    (hlen : f.body.length = 7) (hturn : s.turn 0x10#8 f rest) :
    exec .attach s = .next (serveAttach f (s.taken rest)) := by
  have htake : takeRequest .attach serveAttach s = serveAttach f (s.taken rest) :=
    takeRequest_of_turn serveAttach hturn (requestRow_attach (kind_of_turn hturn)) (by simp [phaseRefusal, hlife])
      (by simp [lengthOk, hlen])
  exact congrArg Host.Outcome.next htake

/-- An ATTACH that has the turn in a map that is not UNBOUND is refused. -/
theorem exec_attach_phaseRefused {s : State} {f : Frame} {rest : List Frame} {code : CondCode}
    (hphase : phaseRefusal .attach s.mju.life = some code) (hturn : s.turn 0x10#8 f rest) :
    exec .attach s = .next (s.refused rest f .phase code 0) :=
  congrArg Host.Outcome.next
    (takeRequest_phaseRefused_of_turn serveAttach hturn (requestRow_attach (kind_of_turn hturn)) hphase)

/-! ### IMPORT_BEGIN (R162) -/

theorem requestRow_importBegin {f : Frame} (hkind : f.kind = 0x11#8) : requestRow f = .importBegin := by
  simp [requestRow, hkind, Kind.attach, Kind.importBegin]

/-- An IMPORT_BEGIN served: the map opened, the part IMPORTING, and no record counted yet. -/
theorem serveImportBegin_taken (f : Frame) (s : State) (rest : List Frame) :
    serveImportBegin f (s.taken rest) = { s with
      bt := ⟨takenN f, takenE f, []⟩
      policy := { s.policy with sLim := takenN f / 8, pinLimit := takenN f / 4, window := takenW f }
      mju := { s.mju with life := .importing, accepted := 0, rejected := 0 } }.answered rest f.tag .bare := rfl

/-- An IMPORT_BEGIN of the right length that has the turn in an UNBOUND map is served. -/
theorem exec_importBegin_of_turn {s : State} {f : Frame} {rest : List Frame} (hlife : s.mju.life = .unbound)
    (hlen : f.body.length = 7) (hturn : s.turn 0x11#8 f rest) :
    exec .importBegin s = .next (serveImportBegin f (s.taken rest)) := by
  have htake : takeRequest .importBegin serveImportBegin s = serveImportBegin f (s.taken rest) :=
    takeRequest_of_turn serveImportBegin hturn (requestRow_importBegin (kind_of_turn hturn))
      (by simp [phaseRefusal, hlife]) (by simp [lengthOk, hlen])
  exact congrArg Host.Outcome.next htake

/-- An IMPORT_BEGIN that has the turn in a map that is not UNBOUND is refused. -/
theorem exec_importBegin_phaseRefused {s : State} {f : Frame} {rest : List Frame} {code : CondCode}
    (hphase : phaseRefusal .importBegin s.mju.life = some code) (hturn : s.turn 0x11#8 f rest) :
    exec .importBegin s = .next (s.refused rest f .phase code 0) :=
  congrArg Host.Outcome.next
    (takeRequest_phaseRefused_of_turn serveImportBegin hturn (requestRow_importBegin (kind_of_turn hturn)) hphase)

end Sys2Proof.Machine
end

section
/-! SUPPORT. The claim on ATTACH and IMPORT_BEGIN. -/

namespace Sys2Proof.Machine

/-- Settles O25, by the lifecycle: in UNBOUND the request is served, in the other two it is refused before its body is
read. -/
theorem attachAndImportBegin : Obligations.AttachAndImportBegin := by
  constructor
  · rintro s f rest n e w hlife hlen rfl rfl rfl
    constructor
    · intro hturn
      rw [exec_attach_of_turn hlife hlen hturn, serveAttach_taken]
      rfl
    · intro hturn
      rw [exec_importBegin_of_turn hlife hlen hturn, serveImportBegin_taken]
      rfl
  · intro s f rest
    constructor
    · intro hlife
      exact ⟨exec_attach_phaseRefused (by simp [phaseRefusal, hlife]),
        exec_importBegin_phaseRefused (by simp [phaseRefusal, hlife])⟩
    · intro hlife
      exact ⟨exec_attach_phaseRefused (by simp [phaseRefusal, hlife]),
        exec_importBegin_phaseRefused (by simp [phaseRefusal, hlife])⟩

end Sys2Proof.Machine
end

section
/-! SUPPORT. The three outcomes of a fault's recording, and the requests with an empty body, as the claims of chapter 11
need them. -/

namespace Sys2Proof.Machine

/-! ### The recording of a fault (R187) -/

theorem recordFault_of_some {s : State} {kind : FaultKind} {subject : Subject} {entries : List FaultEntry}
    (hfold : foldFault s.seconds kind subject s.cfu.faults = some entries) :
    s.recordFault kind subject = { s with cfu := { s.cfu with faults := entries } } := by
  simp only [State.recordFault, hfold]

theorem recordFault_of_room {s : State} {kind : FaultKind} {subject : Subject}
    (hnew : foldFault s.seconds kind subject s.cfu.faults = none) (hroom : s.cfu.faults.length < 8) :
    s.recordFault kind subject = { s with cfu := { s.cfu with
      faults := s.cfu.faults ++ [⟨kind, subject, s.seconds, s.seconds, 1⟩] } } := by
  simp only [State.recordFault, hnew, if_pos hroom]

theorem recordFault_of_full {s : State} {kind : FaultKind} {subject : Subject}
    (hnew : foldFault s.seconds kind subject s.cfu.faults = none) (hfull : 8 ≤ s.cfu.faults.length) :
    s.recordFault kind subject = { s with cfu := { s.cfu with overflow := min 65535 (s.cfu.overflow + 1) } } := by
  simp only [State.recordFault, hnew, if_neg hfull.not_gt]

/-- A fold keeps every entry's kind and subject, and its place. -/
theorem foldFault_keys {now : Time} {kind : FaultKind} {subject : Subject} {es out : List FaultEntry}
    (hfold : foldFault now kind subject es = some out) :
    out.map (fun e => (e.kind, e.subject)) = es.map fun e => (e.kind, e.subject) := by
  obtain ⟨before, e, behind, rfl, -, -, -, rfl⟩ := (foldFault_some now kind subject es out).mp hfold
  simp

/-- An entry joins the table only where it has no entry of that kind and subject (R187). -/
theorem recordFault_nodup {s : State} (kind : FaultKind) (subject : Subject)
    (hnodup : (s.cfu.faults.map fun e => (e.kind, e.subject)).Nodup) :
    ((s.recordFault kind subject).cfu.faults.map fun e => (e.kind, e.subject)).Nodup := by
  cases hfold : foldFault s.seconds kind subject s.cfu.faults with
  | some entries =>
    rw [recordFault_of_some hfold]
    exact (foldFault_keys hfold).symm ▸ hnodup
  | none =>
    rcases Nat.lt_or_ge s.cfu.faults.length 8 with hroom | hfull
    · have hnew : (kind, subject) ∉ s.cfu.faults.map fun e => (e.kind, e.subject) := by
        simpa using (foldFault_none s.seconds kind subject s.cfu.faults).mp hfold
      rw [recordFault_of_room hfold hroom, List.map_append]
      exact hnodup.append (List.nodup_singleton _) (List.disjoint_singleton.mpr hnew)
    · rw [recordFault_of_full hfold hfull]
      exact hnodup

/-! ### A request of the wrong length, and one that has no body (R173) -/

/-- A request that the lifecycle serves, its body of the wrong length. -/
theorem takeRequest_badLength_of_turn {row : RequestRow} {s : State} {kind : Byte} {f : Frame} {rest : List Frame}
    (serve : Frame → State → State) (hturn : s.turn kind f rest) (hrow : requestRow f = row)
    (hphase : phaseRefusal row s.mju.life = none) (hlen : lengthOk row f.body.length = false) :
    takeRequest row serve s = s.refused rest f .form .badLength f.body.length := by
  have horder : orderStarts s = false := orderStarts_of_turn hturn
  obtain ⟨hintake, -, hsync, hreply, hsending, -⟩ := hturn
  simp [takeRequest_eq row serve s f rest hsync hreply hsending horder hintake hrow, hphase, hlen, refer_taken]

/-- The command of a row that takes no body and that every lifecycle serves: an empty body is served, any other is
refused. -/
theorem exec_bodyless_of_turn {i : Instr} {row : RequestRow} {serve : Frame → State → State} {s t : State}
    {kind : Byte} {f : Frame} {rest : List Frame} (hexec : exec i s = .next (takeRequest row serve s))
    (hturn : s.turn kind f rest) (hrow : requestRow f = row) (hphase : phaseRefusal row s.mju.life = none)
    (hbodyless : ∀ n, lengthOk row n = (n == 0)) (hserve : serve f (s.taken rest) = t) :
    (f.body = [] → exec i s = .next t)
    ∧ (f.body ≠ [] → exec i s = .next (s.refused rest f .form .badLength f.body.length)) := by
  constructor
  · intro hempty
    rw [hexec, takeRequest_of_turn serve hturn hrow hphase (by simp [hbodyless, hempty]), hserve]
  · intro hbody
    rw [hexec, takeRequest_badLength_of_turn serve hturn hrow hphase (by simp [hbodyless, hbody])]

/-! ### CONDITION, FAULTS and FAULTS_CLEAR (R186, R188) -/

theorem requestRow_condition {f : Frame} (hkind : f.kind = 0x52#8) : requestRow f = .condition := by
  rw [requestRow, hkind]
  rfl

theorem requestRow_faults {f : Frame} (hkind : f.kind = 0x53#8) : requestRow f = .faults := by
  rw [requestRow, hkind]
  rfl

theorem requestRow_faultsClear {f : Frame} (hkind : f.kind = 0x54#8) : requestRow f = .faultsClear := by
  rw [requestRow, hkind]
  rfl

/-- CONDITION in its turn: the reply leaves the record that it reports. -/
theorem exec_condition_of_turn {s : State} {f : Frame} {rest : List Frame} (hturn : s.turn 0x52#8 f rest) :
    (f.body = [] →
      exec .condition s = .next (s.replied rest f.tag (.ok (.condition s.cfu.cond s.ou.retryCount))))
    ∧ (f.body ≠ [] → exec .condition s = .next (s.refused rest f .form .badLength f.body.length)) :=
  exec_bodyless_of_turn rfl hturn (requestRow_condition (kind_of_turn hturn)) rfl (fun _ => rfl)
    (reply_taken s rest f.tag _)

/-- FAULTS in its turn: the reply reports the table as it stands. -/
theorem exec_faults_of_turn {s : State} {f : Frame} {rest : List Frame} (hturn : s.turn 0x53#8 f rest) :
    (f.body = [] → exec .faults s = .next (s.answered rest f.tag (.faults s.cfu.overflow s.cfu.faults)))
    ∧ (f.body ≠ [] → exec .faults s = .next (s.refused rest f .form .badLength f.body.length)) :=
  exec_bodyless_of_turn rfl hturn (requestRow_faults (kind_of_turn hturn)) rfl (fun _ => rfl)
    (answerOk_taken s rest f.tag _)

/-- FAULTS_CLEAR in its turn: the table and the overflow count cleared before the reply is made. -/
theorem exec_faultsClear_of_turn {s : State} {f : Frame} {rest : List Frame} (hturn : s.turn 0x54#8 f rest) :
    (f.body = [] → exec .faultsClear s = .next ({ s with
      cfu := { s.cfu with faults := [], overflow := 0 } }.answered rest f.tag .bare))
    ∧ (f.body ≠ [] → exec .faultsClear s = .next (s.refused rest f .form .badLength f.body.length)) :=
  exec_bodyless_of_turn rfl hturn (requestRow_faultsClear (kind_of_turn hturn)) rfl (fun _ => rfl)
    (answerOk_taken { s with cfu := { s.cfu with faults := [], overflow := 0 } } rest f.tag .bare)

end Sys2Proof.Machine
end

section
/-! SUPPORT. The claims on the fault table and on the requests that read and clear it and the condition record. -/

namespace Sys2Proof.Machine

/-- Settles O45, by what the search of the table finds: the first entry of the fault's kind and subject, or none. -/
theorem faultRecording : Obligations.FaultRecording := by
  intro s kind subject
  refine ⟨?_, ?_, recordFault_nodup kind subject⟩
  · intro before e behind hfaults hkind hsubject hfirst
    exact recordFault_of_some ((foldFault_some _ _ _ _ _).mpr
      ⟨before, e, behind, hfaults, hkind, hsubject, hfirst, rfl⟩)
  · intro hnone
    have hnew : foldFault s.seconds kind subject s.cfu.faults = none := (foldFault_none _ _ _ _).mpr hnone
    exact ⟨recordFault_of_room hnew, recordFault_of_full hnew⟩

/-- Settles O44: no lifecycle refuses the three requests, so the body's length alone decides between the service and the
refusal, and the refusal's record takes its kind from the frame. -/
theorem conditionAndFaultsReport : Obligations.ConditionAndFaultsReport := by
  intro s f rest
  refine ⟨?_, exec_faults_of_turn, exec_faultsClear_of_turn⟩
  intro hturn
  obtain ⟨hserved, hrefused⟩ := exec_condition_of_turn hturn
  refine ⟨hserved, fun hbody => ⟨hrefused hbody, ?_⟩⟩
  rw [State.refused, kind_of_turn hturn]

end Sys2Proof.Machine
end


section
/-! SUPPORT. Tables in canonical form read point by point, and the law of the map said so: no entry twice is "equal extents,
equal slots". -/

namespace Sys2Proof.Machine

/-! ### Sorted tables -/

section
variable {α : Type}

theorem mem_of_tget {l : List (Nat × α)} {k : Nat} {a : α} (h : tget l k = some a) : (k, a) ∈ l := by
  induction l with
  | nil => simp [tget] at h
  | cons p rest ih =>
    obtain ⟨i, b⟩ := p
    simp only [tget] at h
    split at h
    · next heq => simp_all
    · exact List.mem_cons_of_mem _ (ih h)

theorem tsorted_iff_pairwise (l : List (Nat × α)) : tsorted l = true ↔ l.Pairwise fun p q => p.1 < q.1 := by
  induction l with
  | nil => simp [tsorted]
  | cons p rest ih => rw [← Prod.mk.eta (p := p), tsorted_cons, ih, List.pairwise_cons]

/-- Among the keys of a list in rising order, distinct values mean: equal values, equal keys. -/
theorem nodup_map_iff_keys {β : Type} {l : List (Nat × α)} (h : l.Pairwise fun p q => p.1 < q.1) (f : α → β) :
    (l.map fun p => f p.2).Nodup ↔ ∀ i a j b, (i, a) ∈ l → (j, b) ∈ l → f a = f b → i = j := by
  have hfst : (l.map Prod.fst).Nodup := List.pairwise_map.mpr (h.imp fun hlt => hlt.ne)
  have hkeys : ∀ p ∈ l, ∀ q ∈ l, p.1 = q.1 → p = q := fun p hp q hq heq => List.inj_on_of_nodup_map hfst hp hq heq
  have hnodup : l.Nodup := h.imp fun hlt heq => by simp [heq] at hlt
  rw [List.nodup_map_iff_inj_on hnodup]
  constructor
  · intro hinj i a j b ha hb heq
    exact congrArg Prod.fst (hinj _ ha _ hb heq)
  · intro hinj p hp q hq heq
    exact hkeys p hp q hq (hinj _ _ _ _ hp hq heq)

/-- Every entry of a table in canonical form has a property exactly when every entry read has it. -/
theorem all_iff_tget {l : List (Nat × α)} (h : tsorted l = true) (p : Nat × α → Bool) :
    l.all p = true ↔ ∀ k a, tget l k = some a → p (k, a) = true := by
  simp only [List.all_eq_true, tget_eq_some l h]
  exact ⟨fun hall k a hk => hall _ hk, fun hall q hq => hall q.1 q.2 hq⟩

theorem tget_eq_none_iff (l : List (Nat × α)) (k : Nat) : tget l k = none ↔ ∀ a, (k, a) ∉ l := by
  induction l with
  | nil => simp [tget]
  | cons q rest ih =>
    obtain ⟨i, b⟩ := q
    simp only [tget]
    split
    · next heq => subst heq; simp only [reduceCtorEq, false_iff, not_forall, not_not]; exact ⟨b, by simp⟩
    · next hne =>
      rw [ih]
      simp [Ne.symm hne]

end

/-! ### The bound slots -/

theorem bindingsOf_pairwise {slots : List (Nat × Slot)} (h : tsorted slots = true) :
    (bindingsOf slots).Pairwise fun p q => p.1 < q.1 := by
  induction slots with
  | nil => exact List.Pairwise.nil
  | cons p rest ih =>
    obtain ⟨i, v⟩ := p
    rw [tsorted_cons] at h
    cases v with
    | retired => exact ih h.2
    | bound b =>
      refine List.pairwise_cons.mpr ⟨?_, ih h.2⟩
      rintro ⟨j, c⟩ hmem
      exact h.1 _ ((mem_bindingsOf _ _ _).mp hmem)

theorem mem_bindingsOf_of_bindingAt {slots : List (Nat × Slot)} {k : Nat} {b : Binding}
    (h : bindingAt slots k = some b) : (k, b) ∈ bindingsOf slots :=
  (mem_bindingsOf _ _ _).mpr (mem_of_tget ((bindingAt_eq_some _ _ _).mp h))

theorem all_bindingsOf_iff {slots : List (Nat × Slot)} (h : tsorted slots = true) (p : Nat × Binding → Bool) :
    (bindingsOf slots).all p = true ↔ ∀ k b, bindingAt slots k = some b → p (k, b) = true := by
  simp only [List.all_eq_true, ← mem_bindingsOf_iff slots h]
  exact ⟨fun hall k b hk => hall _ hk, fun hall q hq => hall q.1 q.2 hq⟩

/-! ### The law of the map, point by point (R7, R11, R41, R52) -/

/-- The two tables of a map with N slots and E extents. -/
structure MapOk (n e : Nat) (slots : List (Nat × Slot)) (rows : List (Nat × Row)) : Prop where
  slots_sorted : tsorted slots = true
  slot_lt : ∀ {k v}, tget slots k = some v → k < n
  extent_lt : ∀ {k b}, bindingAt slots k = some b → b.extent < e
  extent_inj : ∀ {j k b c}, bindingAt slots j = some b → bindingAt slots k = some c → b.extent = c.extent → j = k
  rows_sorted : tsorted rows = true
  row_set : ∀ {i r}, tget rows i = some r → i / 8 = r.extent % 1024
  row_lt : ∀ {i r}, tget rows i = some r → r.extent < e
  row_inj : ∀ {i j r q}, tget rows i = some r → tget rows j = some q → r.extent = q.extent → i = j
  row_unbound : ∀ {i r k b}, tget rows i = some r → bindingAt slots k = some b → r.extent ≠ b.extent

/-- The law of the map on a state: its two tables are in order, and outside ACTIVE there is no row (R54). -/
theorem mapLaw_iff (s : State) :
    mapLaw s = true ↔
      MapOk s.bt.n s.bt.e s.bt.slots s.ct.rows ∧ (active s = true ∨ s.ct.rows = []) := by
  by_cases hs : tsorted s.bt.slots = true
  case neg => exact ⟨fun h => by simp_all [mapLaw], fun h => absurd h.1.slots_sorted hs⟩
  by_cases hr : tsorted s.ct.rows = true
  case neg => exact ⟨fun h => by simp_all [mapLaw], fun h => absurd h.1.rows_sorted hr⟩
  have hnodup : (boundExtents s.bt.slots).Nodup ↔ ∀ j b k c, bindingAt s.bt.slots j = some b →
      bindingAt s.bt.slots k = some c → b.extent = c.extent → j = k := by
    simp only [boundExtents, nodup_map_iff_keys (bindingsOf_pairwise hs) Binding.extent, mem_bindingsOf_iff _ hs]
  have hrows : (rowExtents s.ct.rows).Nodup ↔ ∀ i r j q, tget s.ct.rows i = some r →
      tget s.ct.rows j = some q → r.extent = q.extent → i = j := by
    simp only [rowExtents, nodup_map_iff_keys ((tsorted_iff_pairwise _).mp hr) Row.extent, tget_eq_some _ hr]
  have hbound : ∀ x, x ∈ boundExtents s.bt.slots ↔ ∃ k b, bindingAt s.bt.slots k = some b ∧ b.extent = x := by
    simp [boundExtents, mem_bindingsOf_iff _ hs]
  have hext : (boundExtents s.bt.slots).all (fun x => decide (x < s.bt.e)) = true ↔
      ∀ k b, bindingAt s.bt.slots k = some b → b.extent < s.bt.e := by
    simp only [List.all_eq_true, decide_eq_true_eq, hbound]
    exact ⟨fun h k b hb => h _ ⟨k, b, hb, rfl⟩, fun h x ⟨k, b, hb, hx⟩ => hx ▸ h k b hb⟩
  have hall : ∀ p : Nat → Bool, (rowExtents s.ct.rows).all p = true ↔
      ∀ i r, tget s.ct.rows i = some r → p r.extent = true := fun p => by
    simp only [rowExtents, List.all_map, all_iff_tget hr, Function.comp_apply]
  simp only [mapLaw, hs, hr, hall, hext, hnodup, hrows, all_iff_tget hs, all_iff_tget hr, hbound, Bool.true_and, and_true,
    Bool.and_eq_true, Bool.or_eq_true, decide_eq_true_eq, List.isEmpty_iff, not_exists, not_and]
  constructor
  · rintro ⟨⟨⟨⟨⟨⟨⟨hlt, hext⟩, hinj⟩, hset⟩, hrlt⟩, hrinj⟩, hunbound⟩, hlife⟩
    exact ⟨⟨hs, fun h => hlt _ _ h, fun h => hext _ _ h, fun h h' => hinj _ _ _ _ h h', hr, fun h => hset _ _ h,
      fun h => hrlt _ _ h, fun h h' => hrinj _ _ _ _ h h', fun h h' heq => hunbound _ _ h _ _ h' heq.symm⟩, hlife⟩
  · rintro ⟨hok, hlife⟩
    exact ⟨⟨⟨⟨⟨⟨⟨fun _ _ h => hok.slot_lt h, fun _ _ h => hok.extent_lt h⟩, fun _ _ _ _ h h' => hok.extent_inj h h'⟩,
      fun _ _ h => hok.row_set h⟩, fun _ _ h => hok.row_lt h⟩, fun _ _ _ _ h h' => hok.row_inj h h'⟩,
      fun _ _ h _ _ h' heq => hok.row_unbound h h' heq.symm⟩, hlife⟩

end Sys2Proof.Machine
end


section
/-! SUPPORT. Reading the two tables: an entry after a write at any key, the residency index and the search of the rows in a
table that meets the law, and the lowest FREE slot. -/

namespace Sys2Proof.Machine

/-! ### The flags of a binding -/

@[simp] theorem Binding.isDirty_eq_true (b : Binding) : b.isDirty = true ↔ b.dirty ≠ 0#64 :=
  decide_eq_true_iff

@[simp] theorem Binding.isDirty_eq_false (b : Binding) : b.isDirty = false ↔ b.dirty = 0#64 :=
  decide_eq_false_iff_not.trans not_not

@[simp] theorem Binding.pinned_eq_true (b : Binding) : b.pinned = true ↔ b.owners ≠ 0#4 := by
  simp [Binding.pinned]

@[simp] theorem Binding.pinned_eq_false (b : Binding) : b.pinned = false ↔ b.owners = 0#4 := by
  simp [Binding.pinned]

@[simp] theorem Binding.condemned_eq_true (b : Binding) : b.condemned = true ↔ 2 ≤ b.strikes := by
  simp [Binding.condemned]

@[simp] theorem Binding.condemned_eq_false (b : Binding) : b.condemned = false ↔ b.strikes < 2 := by
  simp [Binding.condemned]

/-! ### Read after write at any key -/

section
variable {α : Type}

theorem tget_tset (l : List (Nat × α)) (k : Nat) (a : α) (j : Nat) :
    tget (tset l k a) j = if j = k then some a else tget l j := by
  split
  · next h => rw [h, tget_tset_same]
  · next h => exact tget_tset_ne l a h

theorem tget_terase (l : List (Nat × α)) (k j : Nat) :
    tget (terase l k) j = if j = k then none else tget l j := by
  split
  · next h => rw [h, tget_terase_same]
  · next h => exact tget_terase_ne l h

end

theorem bindingAt_tset_bound (slots : List (Nat × Slot)) (k : Nat) (b : Binding) (j : Nat) :
    bindingAt (tset slots k (.bound b)) j = if j = k then some b else bindingAt slots j := by
  split
  · next h => rw [h, bindingAt_tset_same]
  · next h => exact bindingAt_tset_ne slots _ h

theorem bindingAt_tset_retired (slots : List (Nat × Slot)) (k j : Nat) :
    bindingAt (tset slots k .retired) j = if j = k then none else bindingAt slots j := by
  split
  · next h => rw [h, bindingAt_retired]
  · next h => exact bindingAt_tset_ne slots _ h

theorem bindingAt_terase (slots : List (Nat × Slot)) (k j : Nat) :
    bindingAt (terase slots k) j = if j = k then none else bindingAt slots j := by
  split
  · next h => rw [h, bindingAt_terase_same]
  · next h => exact bindingAt_terase_ne slots h

theorem tget_of_bindingAt {slots : List (Nat × Slot)} {k : Nat} {b : Binding} (h : bindingAt slots k = some b) :
    tget slots k = some (.bound b) := (bindingAt_eq_some _ _ _).mp h

theorem bindingAt_of_tget_none {slots : List (Nat × Slot)} {k : Nat} (h : tget slots k = none) :
    bindingAt slots k = none := by simp [bindingAt, h]

/-- What is bound after a write is the binding written or was bound before. -/
theorem mem_bindingsOf_tset {slots : List (Nat × Slot)} {k : Nat} {b : Binding} {p : Nat × Binding}
    (h : p ∈ bindingsOf (tset slots k (.bound b))) : p = (k, b) ∨ p ∈ bindingsOf slots := by
  obtain ⟨j, c⟩ := p
  rw [mem_bindingsOf] at h ⊢
  rcases mem_tset _ _ _ _ h with heq | hmem
  · left; simp_all
  · exact .inr hmem

theorem mem_bindingsOf_tset_retired {slots : List (Nat × Slot)} {k : Nat} {p : Nat × Binding}
    (h : p ∈ bindingsOf (tset slots k .retired)) : p ∈ bindingsOf slots := by
  obtain ⟨j, c⟩ := p
  rw [mem_bindingsOf] at h ⊢
  rcases mem_tset _ _ _ _ h with heq | hmem
  · simp at heq
  · exact hmem

theorem mem_bindingsOf_terase {slots : List (Nat × Slot)} {k : Nat} {p : Nat × Binding}
    (h : p ∈ bindingsOf (terase slots k)) : p ∈ bindingsOf slots := by
  obtain ⟨j, c⟩ := p
  rw [mem_bindingsOf] at h ⊢
  exact ((mem_terase _ _ _).mp h).1

/-! ### The residency index and the search of the rows (R11, R41) -/

theorem residency_none_iff {slots : List (Nat × Slot)} (h : tsorted slots = true) (x : Nat) :
    residency slots x = none ↔ ∀ k b, bindingAt slots k = some b → b.extent ≠ x := by
  simp only [residency_none, ← mem_bindingsOf_iff slots h]
  exact ⟨fun hall k b hk => hall _ hk, fun hall q hq => hall q.1 q.2 hq⟩

theorem bindingAt_of_residency {slots : List (Nat × Slot)} (h : tsorted slots = true) {x k : Nat} {b : Binding}
    (hx : residency slots x = some (k, b)) : bindingAt slots k = some b ∧ b.extent = x := by
  obtain ⟨hmem, hext⟩ := residency_some _ _ _ _ hx
  exact ⟨(mem_bindingsOf_iff _ h _ _).mp hmem, hext⟩

theorem MapOk.residency_eq_some {n e : Nat} {slots : List (Nat × Slot)} {rows : List (Nat × Row)}
    (h : MapOk n e slots rows) {x k : Nat} {b : Binding} :
    residency slots x = some (k, b) ↔ bindingAt slots k = some b ∧ b.extent = x := by
  refine ⟨bindingAt_of_residency h.slots_sorted, ?_⟩
  rintro ⟨hb, rfl⟩
  cases hr : residency slots b.extent with
  | none => exact absurd rfl ((residency_none_iff h.slots_sorted _).mp hr k b hb)
  | some jc =>
    obtain ⟨j, c⟩ := jc
    obtain ⟨hc, hext⟩ := bindingAt_of_residency h.slots_sorted hr
    obtain rfl := h.extent_inj hc hb hext
    simp_all

theorem findRow_some {rows : List (Nat × Row)} {x i : Nat} {r : Row} (h : findRow rows x = some (i, r)) :
    (i, r) ∈ rows ∧ r.extent = x ∧ i / 8 = x % 1024 := by
  induction rows with
  | nil => simp [findRow] at h
  | cons p rest ih =>
    obtain ⟨j, q⟩ := p
    simp only [findRow] at h
    split at h
    · next hc =>
      obtain ⟨rfl, rfl⟩ := Prod.mk.inj (Option.some.inj h)
      exact ⟨by simp, hc.2, hc.1⟩
    · obtain ⟨hmem, hrest⟩ := ih h
      exact ⟨List.mem_cons_of_mem _ hmem, hrest⟩

theorem findRow_none_iff (rows : List (Nat × Row)) (x : Nat) :
    findRow rows x = none ↔ ∀ i r, (i, r) ∈ rows → i / 8 = x % 1024 → r.extent ≠ x := by
  induction rows with
  | nil => simp [findRow]
  | cons p rest ih =>
    obtain ⟨j, q⟩ := p
    simp only [findRow, List.mem_cons, Prod.mk.injEq]
    split
    · next hc =>
      simp only [reduceCtorEq, false_iff, not_forall]
      exact ⟨j, q, .inl ⟨rfl, rfl⟩, hc.1, fun hne => hne hc.2⟩
    · next hc =>
      rw [ih]
      constructor
      · rintro hall i r (⟨rfl, rfl⟩ | hmem) hset
        · exact fun hx => hc ⟨hset, hx⟩
        · exact hall i r hmem hset
      · exact fun hall i r hmem => hall i r (.inr hmem)

theorem MapOk.findRow_eq_some {n e : Nat} {slots : List (Nat × Slot)} {rows : List (Nat × Row)}
    (h : MapOk n e slots rows) {x i : Nat} {r : Row} :
    findRow rows x = some (i, r) ↔ tget rows i = some r ∧ r.extent = x := by
  constructor
  · intro hf
    obtain ⟨hmem, hext, -⟩ := findRow_some hf
    exact ⟨(tget_eq_some _ h.rows_sorted _ _).mpr hmem, hext⟩
  · rintro ⟨hr, rfl⟩
    cases hf : findRow rows r.extent with
    | none => exact absurd rfl ((findRow_none_iff _ _).mp hf i r (mem_of_tget hr) (h.row_set hr))
    | some jq =>
      obtain ⟨j, q⟩ := jq
      obtain ⟨hmem, hext, -⟩ := findRow_some hf
      have hq := (tget_eq_some _ h.rows_sorted _ _).mpr hmem
      obtain rfl := h.row_inj hq hr hext
      simp_all

theorem MapOk.findRow_eq_none {n e : Nat} {slots : List (Nat × Slot)} {rows : List (Nat × Row)}
    (h : MapOk n e slots rows) {x : Nat} :
    findRow rows x = none ↔ ∀ i r, tget rows i = some r → r.extent ≠ x := by
  rw [findRow_none_iff]
  simp only [tget_eq_some _ h.rows_sorted]
  constructor
  · intro hall i r hmem hx
    have hset := h.row_set ((tget_eq_some _ h.rows_sorted _ _).mpr hmem)
    exact hall i r hmem (hx ▸ hset) hx
  · exact fun hall i r hmem _ => hall i r hmem

/-- The row of an extent, emptied: the rows lose it, if there is one, and keep the others. -/
theorem MapOk.tget_emptyRowOf {n e : Nat} {slots : List (Nat × Slot)} {rows : List (Nat × Row)}
    (h : MapOk n e slots rows) (x i : Nat) (r : Row) :
    tget (emptyRowOf rows x) i = some r ↔ tget rows i = some r ∧ r.extent ≠ x := by
  unfold emptyRowOf
  cases hf : findRow rows x with
  | none =>
    have hno := h.findRow_eq_none.mp hf
    exact ⟨fun hr => ⟨hr, hno i r hr⟩, And.left⟩
  | some jq =>
    obtain ⟨j, q⟩ := jq
    obtain ⟨hq, hext⟩ := h.findRow_eq_some.mp hf
    simp only [tget_terase]
    split
    · next heq =>
      subst heq
      simp only [reduceCtorEq, false_iff, hq, Option.some.injEq, not_and, not_not]
      rintro rfl; exact hext
    · next hne =>
      exact ⟨fun hr => ⟨hr, fun hx => hne (h.row_inj hr hq (hx.trans hext.symm))⟩, And.left⟩

theorem tsorted_emptyRowOf {rows : List (Nat × Row)} (h : tsorted rows = true) (x : Nat) :
    tsorted (emptyRowOf rows x) = true := by
  unfold emptyRowOf
  split
  · exact tsorted_terase _ _ h
  · exact h

theorem mem_emptyRowOf {rows : List (Nat × Row)} {x : Nat} {p : Nat × Row} (h : p ∈ emptyRowOf rows x) : p ∈ rows := by
  unfold emptyRowOf at h
  split at h
  · exact ((mem_terase _ _ _).mp h).1
  · exact h

/-! ### The lowest FREE slot (R12) -/

theorem lowestAbsent_lt {α : Type} {n start k : Nat} {l : List (Nat × α)} (h : lowestAbsent n start l = some k) :
    start ≤ k ∧ k < n := by
  induction l generalizing start with
  | nil => simp only [lowestAbsent] at h; split at h <;> simp_all
  | cons p rest ih =>
    obtain ⟨i, a⟩ := p
    simp only [lowestAbsent] at h
    split at h
    · have := ih h; omega
    · split at h <;> simp_all

/-- In a table in canonical form with no key below `start`, the answer is the least key from `start` on, below `n`, that
has no entry. -/
theorem lowestAbsent_eq_some {α : Type} {n start : Nat} {l : List (Nat × α)} (hs : tsorted l = true)
    (hge : ∀ p ∈ l, start ≤ p.1) (k : Nat) :
    lowestAbsent n start l = some k ↔
      start ≤ k ∧ k < n ∧ tget l k = none ∧ ∀ j, start ≤ j → j < k → tget l j ≠ none := by
  induction l generalizing start with
  | nil =>
    simp only [lowestAbsent, tget, ne_eq, not_true_eq_false, imp_false, not_lt]
    constructor
    · intro h; split at h <;> simp_all
    · rintro ⟨h1, h2, -, h3⟩
      have := h3 start le_rfl
      have : start = k := by omega
      simp; omega
  | cons p rest ih =>
    obtain ⟨i, a⟩ := p
    rw [tsorted_cons] at hs
    have hi : start ≤ i := hge (i, a) (by simp)
    have hrest : ∀ j, j < i → tget rest j = none := fun j hj =>
      (tget_eq_none_iff _ _).mpr fun b hb => by have := hs.1 _ hb; simp at this; omega
    simp only [lowestAbsent]
    split
    · next heq =>
      subst heq
      rw [ih hs.2 fun p hp => hs.1 p hp]
      constructor
      · rintro ⟨h1, h2, h3, h4⟩
        refine ⟨by omega, h2, by simp [tget, h3]; omega, fun j hj hjk => ?_⟩
        by_cases hji : i = j
        · simp [tget, hji]
        · simp only [tget, if_neg hji]; exact h4 j (by omega) hjk
      · rintro ⟨h1, h2, h3, h4⟩
        have hne : i ≠ k := by rintro rfl; simp [tget] at h3
        refine ⟨by omega, h2, by simpa [tget, hne] using h3, fun j hj hjk => ?_⟩
        have := h4 j (by omega) hjk
        simpa [tget, show i ≠ j by omega] using this
    · next hne =>
      have hnone : tget ((i, a) :: rest) start = none := by
        simp [tget, hne, hrest start (by omega)]
      constructor
      · intro h
        split at h
        · next hlt => obtain rfl := Option.some.inj h; exact ⟨le_rfl, hlt, hnone, fun j h1 h2 => by omega⟩
        · simp at h
      · rintro ⟨h1, h2, h3, h4⟩
        have : start = k := by
          by_contra hsk
          exact h4 start le_rfl (by omega) hnone
        simp; omega

theorem lowestFree_eq_some {bt : BindingTable} (hs : tsorted bt.slots = true) (k : Nat) :
    lowestFree bt = some k ↔
      k < bt.n ∧ tget bt.slots k = none ∧ ∀ j, j < k → tget bt.slots j ≠ none := by
  simp [lowestFree, lowestAbsent_eq_some hs]

theorem lowestFree_lt {bt : BindingTable} {k : Nat} (h : lowestFree bt = some k) : k < bt.n := (lowestAbsent_lt h).2

/-! ### The first of a list by a fold -/

theorem foldl_pick_mem {α : Type} (f : α → α → α) (hf : ∀ a b, f a b = a ∨ f a b = b) (l : List α) (a : α) :
    l.foldl f a ∈ a :: l := by
  induction l generalizing a with
  | nil => simp
  | cons b l ih =>
    rw [List.foldl_cons]
    have := ih (f a b)
    rcases hf a b with h | h <;> rw [h] at this ⊢ <;> simp only [List.mem_cons] at this ⊢ <;> tauto

/-! ### The victim, the head of the eligible set, and a slot to take (R12, R47, R67, R69) -/

theorem victimOf_mem {slots : List (Nat × Slot)} {excluded : Nat → Bool} {k : Nat} {v : Binding}
    (h : victimOf slots excluded = some (k, v)) :
    (k, v) ∈ bindingsOf slots ∧ v.victim = true ∧ excluded v.extent = false := by
  unfold victimOf at h
  split at h
  · simp at h
  · next p rest hfilter =>
    have hmem := foldl_pick_mem betterVictim (fun a b => by unfold betterVictim; split <;> simp) rest p
    rw [Option.some.inj h, ← hfilter] at hmem
    simpa using hmem

theorem mem_eligibleRows {rows : List (Nat × Row)} {i : Nat} {w : Watch} :
    (i, w) ∈ eligibleRows rows ↔ (i, Row.watching w) ∈ rows ∧ w.eligible = true := by
  induction rows with
  | nil => simp [eligibleRows]
  | cons p rest ih =>
    obtain ⟨j, r⟩ := p
    cases r with
    | barred x t => simp [eligibleRows, ih]
    | watching u =>
      simp only [eligibleRows]
      split
      · next h =>
        simp only [List.mem_cons, Prod.mk.injEq, Row.watching.injEq, ih]
        constructor
        · rintro (⟨rfl, rfl⟩ | ⟨h1, h2⟩)
          · exact ⟨.inl ⟨rfl, rfl⟩, h⟩
          · exact ⟨.inr h1, h2⟩
        · rintro ⟨h1 | h1, h2⟩
          · exact .inl h1
          · exact .inr ⟨h1, h2⟩
      · next h =>
        simp only [List.mem_cons, Prod.mk.injEq, Row.watching.injEq, ih]
        constructor
        · exact fun ⟨h1, h2⟩ => ⟨.inr h1, h2⟩
        · rintro ⟨⟨rfl, rfl⟩ | h1, h2⟩
          · exact absurd h2 h
          · exact ⟨h1, h2⟩

theorem eligibleHead_mem {rows : List (Nat × Row)} {i : Nat} {w : Watch} (h : eligibleHead rows = some (i, w)) :
    (i, Row.watching w) ∈ rows ∧ w.eligible = true := by
  unfold eligibleHead at h
  split at h
  · simp at h
  · next p rest heq =>
    have hmem := foldl_pick_mem hotter (fun a b => by unfold hotter; split <;> simp) rest p
    rw [Option.some.inj h, ← heq] at hmem
    exact mem_eligibleRows.mp hmem

/-- A slot that may be bound anew: FREE, or a victim's, which holds fewer than two strikes. -/
def Takeable (n : Nat) (slots : List (Nat × Slot)) (k strikes : Nat) : Prop :=
  strikes < 2 ∧ ((k < n ∧ strikes = 0 ∧ (tsorted slots = true → tget slots k = none))
    ∨ ∃ v, (k, v) ∈ bindingsOf slots ∧ v.victim = true ∧ strikes = v.strikes)

theorem Binding.victim_iff (b : Binding) :
    b.victim = true ↔ b.state = .held ∧ b.dirty = 0#64 ∧ b.owners = 0#4 ∧ b.strikes < 2 := by
  simp [Binding.victim, and_assoc]

theorem takeable_of_lowestFree {bt : BindingTable} {k : Nat} (h : lowestFree bt = some k) :
    Takeable bt.n bt.slots k 0 :=
  ⟨by omega, .inl ⟨lowestFree_lt h, rfl, fun hs => ((lowestFree_eq_some hs k).mp h).2.1⟩⟩

theorem takeable_of_victimOf {n : Nat} {slots : List (Nat × Slot)} {excluded : Nat → Bool} {k : Nat} {v : Binding}
    (h : victimOf slots excluded = some (k, v)) : Takeable n slots k v.strikes := by
  obtain ⟨hmem, hv, -⟩ := victimOf_mem h
  exact ⟨((Binding.victim_iff v).mp hv).2.2.2, .inr ⟨v, hmem, hv, rfl⟩⟩

theorem takeable_of_takeSlot {bt : BindingTable} {excluded : Nat → Bool} {k strikes : Nat}
    (h : takeSlot bt excluded = some (k, strikes)) : Takeable bt.n bt.slots k strikes := by
  unfold takeSlot at h
  cases hf : lowestFree bt with
  | some j =>
    rw [hf] at h
    obtain ⟨rfl, rfl⟩ := Prod.mk.inj (Option.some.inj h)
    exact takeable_of_lowestFree hf
  | none =>
    rw [hf] at h
    obtain ⟨⟨j, v⟩, hv, heq⟩ := Option.map_eq_some_iff.mp h
    obtain ⟨rfl, rfl⟩ := Prod.mk.inj heq
    exact takeable_of_victimOf hv

/-! ### Where a contribution or a bar makes its row (R41 to R43, R50) -/

theorem emptyWay_some {rows : List (Nat × Row)} {set i : Nat} (h : emptyWay rows set = some i) :
    i / 8 = set ∧ tget rows i = none := by
  unfold emptyWay at h
  have hmem := List.mem_of_find?_eq_some h
  have hp := List.find?_some h
  simp only [List.mem_map, List.mem_range, rowIndex, Config.candidateWays] at hmem
  obtain ⟨way, hway, rfl⟩ := hmem
  exact ⟨by omega, Option.isNone_iff_eq_none.mp hp⟩

theorem mem_watchingWays {rows : List (Nat × Row)} {set i : Nat} {w : Watch} :
    (i, w) ∈ watchingWays rows set ↔ (i, Row.watching w) ∈ rows ∧ i / 8 = set := by
  induction rows with
  | nil => simp [watchingWays]
  | cons p rest ih =>
    obtain ⟨j, r⟩ := p
    cases r with
    | barred x t => simp [watchingWays, ih]
    | watching u =>
      simp only [watchingWays]
      split
      · next h =>
        replace h : j / 8 = set := h
        simp only [List.mem_cons, Prod.mk.injEq, Row.watching.injEq, ih]
        constructor
        · rintro (⟨rfl, rfl⟩ | ⟨h1, h2⟩)
          · exact ⟨.inl ⟨rfl, rfl⟩, h⟩
          · exact ⟨.inr h1, h2⟩
        · rintro ⟨h1 | h1, h2⟩
          · exact .inl h1
          · exact .inr ⟨h1, h2⟩
      · next h =>
        simp only [List.mem_cons, Prod.mk.injEq, Row.watching.injEq, ih]
        constructor
        · exact fun ⟨h1, h2⟩ => ⟨.inr h1, h2⟩
        · rintro ⟨⟨rfl, rfl⟩ | h1, h2⟩
          · exact absurd h2 h
          · exact ⟨h1, h2⟩

theorem replacementWay_mem {rows : List (Nat × Row)} {set i : Nat} {w : Watch}
    (h : replacementWay rows set = some (i, w)) : (i, Row.watching w) ∈ rows ∧ i / 8 = set := by
  unfold replacementWay at h
  split at h
  · simp at h
  · next p rest heq =>
    have hmem := foldl_pick_mem colder (fun a b => by unfold colder; split <;> simp) rest p
    rw [Option.some.inj h, ← heq] at hmem
    exact mem_watchingWays.mp hmem

theorem allocateWay_set {rows : List (Nat × Row)} {x c i : Nat} (h : allocateWay rows x c = some i) :
    i / 8 = x % 1024 := by
  unfold allocateWay at h
  split at h
  · next j hj => obtain rfl := Option.some.inj h; exact (emptyWay_some hj).1
  · split at h
    · next j w hj =>
      split at h
      · obtain rfl := Option.some.inj h; exact (replacementWay_mem hj).2
      · simp at h
    · simp at h

/-- The rows after a bar: a BARRED row in the extent's set, or the rows as they were. -/
theorem barExtent_cases (rows : List (Nat × Row)) (x : Nat) (u : Time) :
    barExtent rows x u = rows ∨ ∃ i, i / 8 = x % 1024 ∧ barExtent rows x u = tset rows i (.barred x u) := by
  unfold barExtent
  split
  · next i hi => exact .inr ⟨i, (emptyWay_some hi).1, rfl⟩
  · split
    · next i w hi => exact .inr ⟨i, (replacementWay_mem hi).2, rfl⟩
    · exact .inl rfl

end Sys2Proof.Machine
end


section
/-! SUPPORT. The law of a binding said point by point, the counts of a table after a write, and the moves: everything that the
part's own work and the requests of ACTIVE can do to the two tables, one change at a time. -/

namespace Sys2Proof.Machine

/-! ### Block sets (R1, R2) -/

theorem BlockSet.subset_iff (a b : BlockSet) :
    BlockSet.subset a b = true ↔ ∀ o, a.getLsbD o = true → b.getLsbD o = true := by
  simp only [BlockSet.subset, beq_iff_eq]
  constructor
  · intro h o ha
    rw [← h, BitVec.getLsbD_and, Bool.and_eq_true] at ha
    exact ha.2
  · intro h
    ext o ho
    have := h o
    simp only [BitVec.getLsbD_eq_getElem ho] at this
    simp only [BitVec.getElem_and]
    cases ha : a[o] <;> simp_all

theorem BlockSet.getLsbD_diff (a b : BlockSet) (o : Nat) :
    (BlockSet.diff a b).getLsbD o = (a.getLsbD o && !b.getLsbD o) := by
  by_cases ho : o < 64
  · simp [BlockSet.diff, ho]
  · simp [BlockSet.diff, BitVec.getLsbD_of_ge _ _ (Nat.le_of_not_lt ho)]

theorem BlockSet.ne_zero_iff (a : BlockSet) : a ≠ 0#64 ↔ ∃ o, a.getLsbD o = true := by
  constructor
  · intro h
    by_contra! hall
    exact h (BitVec.eq_of_getLsbD_eq fun o _ => by simpa using hall o)
  · rintro ⟨o, ho⟩ rfl
    simp at ho

/-! ### The law of a binding, point by point (R2, R4, R13, R31, R33) -/

structure Binding.Lawful (isActive : Bool) (b : Binding) : Prop where
  dirty_valid : ∀ o, b.dirty.getLsbD o = true → b.valid.getLsbD o = true
  overtaken_valid : ∀ v, b.overtaken = some v → ∀ o, v.getLsbD o = true → b.valid.getLsbD o = true
  redirtied_dirty : ∀ r, b.redirtied = some r → ∀ o, r.getLsbD o = true → b.dirty.getLsbD o = true
  heat_le : b.heat ≤ 4095
  idle_le : b.idle ≤ 1023
  strikes_le : b.strikes ≤ 2
  dirtySince_iff : b.dirtySince.isSome = true ↔ isActive = true ∧ b.dirty ≠ 0#64

theorem Binding.lawful_iff (isActive : Bool) (b : Binding) : b.lawful isActive = true ↔ b.Lawful isActive := by
  have hset : b.setLaw = true ↔ (∀ o, b.dirty.getLsbD o = true → b.valid.getLsbD o = true)
      ∧ (∀ v, b.overtaken = some v → ∀ o, v.getLsbD o = true → b.valid.getLsbD o = true)
      ∧ ∀ r, b.redirtied = some r → ∀ o, r.getLsbD o = true → b.dirty.getLsbD o = true := by
    cases ho : b.overtaken <;> cases hr : b.redirtied <;> simp [Binding.setLaw, ho, hr, BlockSet.subset_iff, and_assoc]
  have hsince : b.dirtySince.isSome = (isActive && b.isDirty) ↔
      (b.dirtySince.isSome = true ↔ isActive = true ∧ b.dirty ≠ 0#64) := by
    rw [Bool.eq_iff_iff, Bool.and_eq_true, Binding.isDirty_eq_true]
  simp only [Binding.lawful, Bool.and_eq_true, decide_eq_true_eq, hset, hsince]
  constructor
  · rintro ⟨⟨⟨⟨⟨h1, h2, h3⟩, h4⟩, h5⟩, h6⟩, h7⟩
    exact ⟨h1, h2, h3, h4, h5, h6, h7⟩
  · rintro ⟨h1, h2, h3, h4, h5, h6, h7⟩
    exact ⟨⟨⟨⟨⟨h1, h2, h3⟩, h4⟩, h5⟩, h6⟩, h7⟩

theorem Row.lawful_watching (w : Watch) : (Row.watching w).lawful = true ↔ w.heat ≤ 4095 ∧ w.idle ≤ 1023 := by
  simp [Row.lawful]

/-- The law of the bindings and rows of two tables. -/
structure TablesLawful (isActive : Bool) (slots : List (Nat × Slot)) (rows : List (Nat × Row)) : Prop where
  binding : ∀ kb ∈ bindingsOf slots, kb.2.Lawful isActive
  row : ∀ p ∈ rows, p.2.lawful = true

theorem bindingLaw_iff (s : State) : bindingLaw s = true ↔ TablesLawful (active s) s.bt.slots s.ct.rows := by
  simp only [bindingLaw, Bool.and_eq_true, List.all_eq_true, Binding.lawful_iff]
  exact ⟨fun h => ⟨h.1, h.2⟩, fun h => ⟨h.binding, h.row⟩⟩

/-! ### The counts of a table (R125, R139) -/

theorem bindingsOf_terase_of_ne {slots : List (Nat × Slot)} {k : Nat} (h : ∀ p ∈ slots, k < p.1) :
    terase slots k = slots := by
  induction slots with
  | nil => rfl
  | cons p rest ih =>
    obtain ⟨i, v⟩ := p
    have hi : k < i := h (i, v) (by simp)
    simp only [terase, if_neg hi.ne']
    rw [ih fun p hp => h p (List.mem_cons_of_mem _ hp)]

theorem bindingsOf_cons (i : Nat) (v : Slot) (rest : List (Nat × Slot)) :
    bindingsOf ((i, v) :: rest) = (match v with | .bound b => [(i, b)] | .retired => []) ++ bindingsOf rest := by
  cases v <;> rfl

theorem countBindings_cons (i : Nat) (v : Slot) (rest : List (Nat × Slot)) (p : Binding → Bool) :
    countBindings ((i, v) :: rest) p =
      (match v with | .bound b => if p b then 1 else 0 | .retired => 0) + countBindings rest p := by
  cases v with
  | retired => simp [countBindings, bindingsOf]
  | bound b => simp only [countBindings, bindingsOf, List.countP_cons]; omega

/-- The count after a write: the other slots, and the one written. -/
theorem countBindings_tset {slots : List (Nat × Slot)} (h : tsorted slots = true) (k : Nat) (v : Slot)
    (p : Binding → Bool) :
    countBindings (tset slots k v) p =
      (match v with | .bound b => if p b then 1 else 0 | .retired => 0) + countBindings (terase slots k) p := by
  induction slots with
  | nil => simp [tset, terase, countBindings_cons]
  | cons q rest ih =>
    obtain ⟨i, u⟩ := q
    rw [tsorted_cons] at h
    simp only [tset]
    split
    · next hlt =>
      rw [countBindings_cons, bindingsOf_terase_of_ne fun p hp => by
        rcases List.mem_cons.mp hp with rfl | hp
        · exact hlt
        · exact hlt.trans (h.1 p hp)]
    · split
      · next heq =>
        subst heq
        rw [countBindings_cons, terase, if_pos rfl, bindingsOf_terase_of_ne h.1]
      · next hne =>
        rw [countBindings_cons, ih h.2, terase, if_neg (Ne.symm hne), countBindings_cons]
        omega

/-- The count of a table: the other slots, and this one. -/
theorem countBindings_eq_terase {slots : List (Nat × Slot)} (h : tsorted slots = true) (k : Nat) (p : Binding → Bool) :
    countBindings slots p =
      (match bindingAt slots k with | some b => if p b then 1 else 0 | none => 0) + countBindings (terase slots k) p := by
  induction slots with
  | nil => simp [terase, bindingAt, tget]
  | cons q rest ih =>
    obtain ⟨i, u⟩ := q
    rw [tsorted_cons] at h
    by_cases heq : i = k
    · subst heq
      rw [countBindings_cons, terase, if_pos rfl, bindingsOf_terase_of_ne h.1]
      cases u <;> simp [bindingAt, tget]
    · have hat : bindingAt ((i, u) :: rest) k = bindingAt rest k := by simp [bindingAt, tget, heq]
      rw [countBindings_cons, terase, if_neg heq, countBindings_cons, ih h.2, hat]
      omega

/-! ### One change of the two tables -/

structure Tables where
  slots : List (Nat × Slot)
  rows : List (Nat × Row)

def State.tables (s : State) : Tables := ⟨s.bt.slots, s.ct.rows⟩

/-- What the changes of one command are held to: the lifecycle, N, E and the pin limit it runs under, whether it leaves every
order as it stands, and the dirty blocks (slot, extent, offset) that it may lose. -/
structure MoveRules where
  isActive : Bool
  n : Nat
  e : Nat
  pinLimit : Nat
  ordersStand : Prop
  mayLose : Nat → Nat → Nat → Prop

/-- An order sees no difference between the two bindings (R7, R14, R16). -/
structure Binding.SameOrder (isActive : Bool) (b b' : Binding) : Prop where
  state : b'.state = b.state
  tag : b'.tag = b.tag
  overtaken : b'.overtaken.isSome = b.overtaken.isSome
  redirtied : b'.redirtied.isSome = b.redirtied.isSome
  condemnedOk : b.condemnedOk isActive = true → b'.condemnedOk isActive = true

/-- Slot `k` stays bound to its extent: `b` becomes `b'`. -/
structure Touch (c : MoveRules) (k : Nat) (b b' : Binding) : Prop where
  extent : b'.extent = b.extent
  lawful : b.Lawful c.isActive → b'.Lawful c.isActive
  dirty : ∀ o, b.dirty.getLsbD o = true → b'.dirty.getLsbD o = true ∨ c.mayLose k b.extent o
  order : c.ordersStand → b.SameOrder c.isActive b'

/-- Slot `k` may lose its binding `b`. -/
structure Leave (c : MoveRules) (k : Nat) (b : Binding) : Prop where
  dirty : b.Lawful c.isActive → ∀ o, b.dirty.getLsbD o = true → c.mayLose k b.extent o
  order : c.ordersStand → b.state = .held

/-- `b` may be bound anew. -/
structure Fresh (c : MoveRules) (strikes : Nat) (rows : List (Nat × Row)) (b : Binding) : Prop where
  lawful : (∀ p ∈ rows, p.2.lawful = true) → b.Lawful c.isActive
  strikes : b.strikes = strikes
  order : c.ordersStand → b.state = .held ∧ b.untagged = true

/-- One change of the tables. -/
inductive Move (c : MoveRules) : Tables → Tables → Prop
  /-- A binding changes in its slot; it may become pinned only below the pin limit (R143). -/
  | touch {slots rows k b b'} (hmem : (k, b) ∈ bindingsOf slots) (htouch : Touch c k b b')
      (hpin : b'.owners ≠ 0#4 → b.owners ≠ 0#4 ∨ pinnedCount slots < c.pinLimit) :
      Move c ⟨slots, rows⟩ ⟨tset slots k (.bound b'), rows⟩
  /-- A slot is released (R9), its extent perhaps barred (R50). -/
  | free {slots rows rows' k b} (hmem : (k, b) ∈ bindingsOf slots) (hleave : Leave c k b)
      (hrows : rows' = rows ∨ c.isActive = true ∧ ∃ u, rows' = barExtent rows b.extent u) :
      Move c ⟨slots, rows⟩ ⟨terase slots k, rows'⟩
  /-- A slot retires (R16). -/
  | retire {slots rows k b} (hmem : (k, b) ∈ bindingsOf slots) (hleave : Leave c k b) :
      Move c ⟨slots, rows⟩ ⟨tset slots k .retired, rows⟩
  /-- An unbound extent is bound, its row emptied (R8, R52). -/
  | bind {slots rows k strikes b} (hslot : Takeable c.n slots k strikes) (hfresh : Fresh c strikes rows b)
      (hlt : b.extent < c.e) (hnew : residency slots b.extent = none)
      (hpin : b.owners ≠ 0#4 → pinnedCount slots < c.pinLimit) :
      Move c ⟨slots, rows⟩ ⟨tset slots k (.bound b), emptyRowOf rows b.extent⟩
  /-- A row is promoted (R65). -/
  | promote {slots rows k strikes b i w} (hslot : Takeable c.n slots k strikes) (hfresh : Fresh c strikes rows b)
      (hrow : (i, Row.watching w) ∈ rows) (hext : b.extent = w.extent) (hpin : b.owners = 0#4) :
      Move c ⟨slots, rows⟩ ⟨tset slots k (.bound b), terase rows i⟩
  /-- A WATCHING row changes in its place. -/
  | rowTouch {slots rows i w w'} (hrow : (i, Row.watching w) ∈ rows) (hext : w'.extent = w.extent)
      (hlaw : (Row.watching w).lawful = true → (Row.watching w').lawful = true) :
      Move c ⟨slots, rows⟩ ⟨slots, tset rows i (.watching w')⟩
  /-- An extent with neither slot nor row is given a row (R42, R43). -/
  | rowNew {slots rows i w} (hset : i / 8 = w.extent % 1024) (hlt : w.extent < c.e)
      (hslot : residency slots w.extent = none) (hrow : findRow rows w.extent = none)
      (hlaw : (Row.watching w).lawful = true) (hactive : c.isActive = true) :
      Move c ⟨slots, rows⟩ ⟨slots, tset rows i (.watching w)⟩
  /-- A row becomes EMPTY. -/
  | rowErase {slots rows} (i : Nat) : Move c ⟨slots, rows⟩ ⟨slots, terase rows i⟩
  /-- Every slot and every row changes by one rule. -/
  | sweep {slots rows} (f : Slot → Option Slot) (g : Nat → Row → Row) (hretired : f .retired = some .retired)
      (hslot : ∀ kb ∈ bindingsOf slots, (∃ b', f (.bound kb.2) = some (.bound b') ∧ Touch c kb.1 kb.2 b'
          ∧ (b'.owners ≠ 0#4 → kb.2.owners ≠ 0#4))
        ∨ (f (.bound kb.2) = none ∨ f (.bound kb.2) = some .retired) ∧ Leave c kb.1 kb.2)
      (hext : ∀ i r, (g i r).extent = r.extent) (hlaw : ∀ i r, r.lawful = true → (g i r).lawful = true) :
      Move c ⟨slots, rows⟩ ⟨slots.filterMap fun p => (f p.2).map fun v => (p.1, v), rows.map fun p => (p.1, g p.1 p.2)⟩

/-- Changes one after another. -/
abbrev Moves (c : MoveRules) : Tables → Tables → Prop := Relation.ReflTransGen (Move c)

end Sys2Proof.Machine
end


section
/-! SUPPORT. What every move keeps: the law of bindings, the law of the map, the pin limit, and every dirty block that the
command may not lose. -/

namespace Sys2Proof.Machine

/-! ### A slot that may be bound anew -/

/-- Where the table is in order, a slot to take is FREE or holds a victim. -/
theorem Takeable.bindingAt {n : Nat} {slots : List (Nat × Slot)} {k strikes : Nat} (h : Takeable n slots k strikes)
    (hs : tsorted slots = true) :
    (k < n ∧ tget slots k = none) ∨ ∃ v, bindingAt slots k = some v ∧ v.victim = true ∧ strikes = v.strikes := by
  rcases h.2 with ⟨hlt, -, hfree⟩ | ⟨v, hmem, hv, hst⟩
  · exact .inl ⟨hlt, hfree hs⟩
  · exact .inr ⟨v, (mem_bindingsOf_iff _ hs _ _).mp hmem, hv, hst⟩

theorem Takeable.lt {n e : Nat} {slots : List (Nat × Slot)} {rows : List (Nat × Row)} {k strikes : Nat}
    (h : Takeable n slots k strikes) (hok : MapOk n e slots rows) : k < n := by
  rcases h.bindingAt hok.slots_sorted with ⟨hlt, -⟩ | ⟨v, hv, -⟩
  · exact hlt
  · exact hok.slot_lt (tget_of_bindingAt hv)

/-! ### Tables swept by one rule -/

theorem tsorted_filterMap {α β : Type} {l : List (Nat × α)} (h : tsorted l = true) (f : α → Option β) :
    tsorted (l.filterMap fun p => (f p.2).map fun v => (p.1, v)) = true := by
  rw [tsorted_iff_pairwise] at h ⊢
  refine h.filterMap _ ?_
  rintro p q hlt b hb b' hb'
  obtain ⟨v, -, rfl⟩ := Option.map_eq_some_iff.mp hb
  obtain ⟨v', -, rfl⟩ := Option.map_eq_some_iff.mp hb'
  exact hlt

theorem tsorted_map {α β : Type} {l : List (Nat × α)} (h : tsorted l = true) (g : Nat → α → β) :
    tsorted (l.map fun p => (p.1, g p.1 p.2)) = true := by
  rw [tsorted_iff_pairwise] at h ⊢
  exact List.pairwise_map.mpr h

theorem tget_filterMap {α β : Type} {l : List (Nat × α)} (h : tsorted l = true) (f : α → Option β) (k : Nat) :
    tget (l.filterMap fun p => (f p.2).map fun v => (p.1, v)) k = (tget l k).bind f := by
  cases hk : tget l k with
  | none =>
    show _ = none
    rw [tget_eq_none_iff] at hk ⊢
    intro a ha
    obtain ⟨p, hp, hpa⟩ := List.mem_filterMap.mp ha
    obtain ⟨v, hv, heq⟩ := Option.map_eq_some_iff.mp hpa
    obtain ⟨rfl, rfl⟩ := Prod.mk.inj heq
    exact hk _ hp
  | some v =>
    have hmem := mem_of_tget hk
    cases hf : f v with
    | some w =>
      show _ = f v
      rw [hf, tget_eq_some _ (tsorted_filterMap h f)]
      exact List.mem_filterMap.mpr ⟨(k, v), hmem, by simp [hf]⟩
    | none =>
      show _ = f v
      rw [hf, tget_eq_none_iff]
      intro a ha
      obtain ⟨p, hp, hpa⟩ := List.mem_filterMap.mp ha
      obtain ⟨w, hw, heq⟩ := Option.map_eq_some_iff.mp hpa
      obtain ⟨rfl, rfl⟩ := Prod.mk.inj heq
      have := (tget_eq_some _ h _ _).mpr hp
      simp_all

section
variable {c : MoveRules}

/-! ### The law of bindings -/

theorem TablesLawful.move {T T' : Tables} (h : Move c T T') (hl : TablesLawful c.isActive T.slots T.rows) :
    TablesLawful c.isActive T'.slots T'.rows := by
  cases h with
  | touch hmem htouch _ =>
    refine ⟨fun kb hkb => ?_, hl.row⟩
    rcases mem_bindingsOf_tset hkb with rfl | hold
    · exact htouch.lawful (hl.binding _ hmem)
    · exact hl.binding _ hold
  | @free slots rows rows' k b hmem _ hrows =>
    refine ⟨fun kb hkb => hl.binding _ (mem_bindingsOf_terase hkb), fun p hp => ?_⟩
    rcases hrows with rfl | ⟨-, u, rfl⟩
    · exact hl.row p hp
    · change p ∈ barExtent rows b.extent u at hp
      rcases barExtent_cases rows b.extent u with heq | ⟨i, -, heq⟩ <;> rw [heq] at hp
      · exact hl.row p hp
      · rcases mem_tset _ _ _ _ hp with rfl | hp
        · rfl
        · exact hl.row p hp
  | retire hmem _ => exact ⟨fun kb hkb => hl.binding _ (mem_bindingsOf_tset_retired hkb), hl.row⟩
  | bind _ hfresh _ _ _ =>
    refine ⟨fun kb hkb => ?_, fun p hp => hl.row p (mem_emptyRowOf hp)⟩
    rcases mem_bindingsOf_tset hkb with rfl | hold
    · exact hfresh.lawful hl.row
    · exact hl.binding _ hold
  | promote _ hfresh _ _ _ =>
    refine ⟨fun kb hkb => ?_, fun p hp => hl.row p ((mem_terase _ _ _).mp hp).1⟩
    rcases mem_bindingsOf_tset hkb with rfl | hold
    · exact hfresh.lawful hl.row
    · exact hl.binding _ hold
  | rowTouch hrow _ hlaw =>
    refine ⟨hl.binding, fun p hp => ?_⟩
    rcases mem_tset _ _ _ _ hp with rfl | hp
    · exact hlaw (hl.row _ hrow)
    · exact hl.row p hp
  | rowNew _ _ _ _ hlaw _ =>
    refine ⟨hl.binding, fun p hp => ?_⟩
    rcases mem_tset _ _ _ _ hp with rfl | hp
    · exact hlaw
    · exact hl.row p hp
  | rowErase i => exact ⟨hl.binding, fun p hp => hl.row p ((mem_terase _ _ _).mp hp).1⟩
  | sweep f g hretired hslot hext hlaw =>
    constructor
    · rintro ⟨k, b'⟩ hkb
      obtain ⟨⟨j, v⟩, hp, hpa⟩ := List.mem_filterMap.mp ((mem_bindingsOf _ _ _).mp hkb)
      obtain ⟨w, hw, heq⟩ := Option.map_eq_some_iff.mp hpa
      obtain ⟨rfl, rfl⟩ := Prod.mk.inj heq
      cases v with
      | retired => simp [hretired] at hw
      | bound b =>
        have hb := (mem_bindingsOf _ _ _).mpr hp
        rcases hslot _ hb with ⟨b2, hf, htouch, -⟩ | ⟨hf, -⟩
        · obtain rfl : b2 = b' := by simp_all
          exact htouch.lawful (hl.binding _ hb)
        · rcases hf with hf | hf <;> simp_all
    · intro p hp
      obtain ⟨q, hq, rfl⟩ := List.mem_map.mp hp
      exact hlaw _ _ (hl.row q hq)

/-! ### The law of the map -/

/-- The law of the map, for tables. -/
abbrev Tables.Ok (c : MoveRules) (T : Tables) : Prop := MapOk c.n c.e T.slots T.rows

theorem MapOk.touch {n e : Nat} {slots : List (Nat × Slot)} {rows : List (Nat × Row)} (h : MapOk n e slots rows)
    {k : Nat} {b b' : Binding} (hb : bindingAt slots k = some b) (hext : b'.extent = b.extent) :
    MapOk n e (tset slots k (.bound b')) rows := by
  have hat : ∀ {j c}, bindingAt (tset slots k (.bound b')) j = some c →
      ∃ d, bindingAt slots j = some d ∧ d.extent = c.extent := fun {j c} hj => by
    rw [bindingAt_tset_bound] at hj
    split at hj
    · next heq => obtain rfl := Option.some.inj hj; exact ⟨b, heq ▸ hb, hext.symm⟩
    · exact ⟨c, hj, rfl⟩
  refine ⟨tsorted_tset _ _ _ h.slots_sorted, fun {j v} hj => ?_, fun hj => ?_, fun hi hj heq => ?_, h.rows_sorted,
    h.row_set, h.row_lt, h.row_inj, fun hr hj heq => ?_⟩
  · rw [tget_tset] at hj
    split at hj
    · next heq => exact heq ▸ h.slot_lt (tget_of_bindingAt hb)
    · exact h.slot_lt hj
  · obtain ⟨d, hd, hde⟩ := hat hj
    exact hde ▸ h.extent_lt hd
  · obtain ⟨d, hd, hde⟩ := hat hi
    obtain ⟨d', hd', hde'⟩ := hat hj
    exact h.extent_inj hd hd' (by omega)
  · obtain ⟨d, hd, hde⟩ := hat hj
    exact h.row_unbound hr hd (by omega)

/-- Fewer bindings, the same rows. -/
theorem MapOk.shrink {n e : Nat} {slots slots' : List (Nat × Slot)} {rows : List (Nat × Row)}
    (h : MapOk n e slots rows) (hs : tsorted slots' = true) (hlt : ∀ {k v}, tget slots' k = some v → k < n)
    (hsub : ∀ {k b}, bindingAt slots' k = some b → ∃ d, bindingAt slots k = some d ∧ d.extent = b.extent) :
    MapOk n e slots' rows := by
  refine ⟨hs, hlt, fun hj => ?_, fun hi hj heq => ?_, h.rows_sorted, h.row_set, h.row_lt, h.row_inj,
    fun hr hj heq => ?_⟩
  · obtain ⟨d, hd, hde⟩ := hsub hj
    exact hde ▸ h.extent_lt hd
  · obtain ⟨d, hd, hde⟩ := hsub hi
    obtain ⟨d', hd', hde'⟩ := hsub hj
    exact h.extent_inj hd hd' (by omega)
  · obtain ⟨d, hd, hde⟩ := hsub hj
    exact h.row_unbound hr hd (by omega)

theorem MapOk.erase {n e : Nat} {slots : List (Nat × Slot)} {rows : List (Nat × Row)} (h : MapOk n e slots rows)
    (k : Nat) : MapOk n e (terase slots k) rows := by
  refine h.shrink (tsorted_terase _ _ h.slots_sorted) (fun {j v} hj => ?_) fun {j b} hj => ?_
  · rw [tget_terase] at hj; split at hj
    · simp at hj
    · exact h.slot_lt hj
  · rw [bindingAt_terase] at hj; split at hj
    · simp at hj
    · exact ⟨b, hj, rfl⟩

theorem MapOk.retire {n e : Nat} {slots : List (Nat × Slot)} {rows : List (Nat × Row)} (h : MapOk n e slots rows)
    {k : Nat} (hk : k < n) : MapOk n e (tset slots k .retired) rows := by
  refine h.shrink (tsorted_tset _ _ _ h.slots_sorted) (fun {j v} hj => ?_) fun {j b} hj => ?_
  · rw [tget_tset] at hj; split at hj
    · next heq => exact heq ▸ hk
    · exact h.slot_lt hj
  · rw [bindingAt_tset_retired] at hj; split at hj
    · simp at hj
    · exact ⟨b, hj, rfl⟩

/-- Fewer rows. -/
theorem MapOk.fewerRows {n e : Nat} {slots : List (Nat × Slot)} {rows rows' : List (Nat × Row)}
    (h : MapOk n e slots rows) (hs : tsorted rows' = true)
    (hsub : ∀ {i r}, tget rows' i = some r → ∃ q, tget rows i = some q ∧ q.extent = r.extent) :
    MapOk n e slots rows' := by
  refine ⟨h.slots_sorted, h.slot_lt, h.extent_lt, h.extent_inj, hs, fun hi => ?_, fun hi => ?_, fun hi hj heq => ?_,
    fun hi hj heq => ?_⟩
  all_goals obtain ⟨q, hq, hqe⟩ := hsub hi
  · exact hqe ▸ h.row_set hq
  · exact hqe ▸ h.row_lt hq
  · obtain ⟨q', hq', hqe'⟩ := hsub hj
    exact h.row_inj hq hq' (by omega)
  · exact h.row_unbound hq hj (by omega)

theorem MapOk.eraseRow {n e : Nat} {slots : List (Nat × Slot)} {rows : List (Nat × Row)} (h : MapOk n e slots rows)
    (i : Nat) : MapOk n e slots (terase rows i) := by
  refine h.fewerRows (tsorted_terase _ _ h.rows_sorted) fun {j r} hj => ?_
  rw [tget_terase] at hj; split at hj
  · simp at hj
  · exact ⟨r, hj, rfl⟩

/-- A row made, or replaced, for an extent that has neither a slot nor another row. -/
theorem MapOk.setRow {n e : Nat} {slots : List (Nat × Slot)} {rows : List (Nat × Row)} (h : MapOk n e slots rows)
    {i : Nat} {r : Row} (hset : i / 8 = r.extent % 1024) (hlt : r.extent < e)
    (hslot : ∀ k b, bindingAt slots k = some b → r.extent ≠ b.extent)
    (hrow : ∀ j q, tget rows j = some q → q.extent = r.extent → j = i) : MapOk n e slots (tset rows i r) := by
  have hat : ∀ {j q}, tget (tset rows i r) j = some q → j = i ∧ q = r ∨ j ≠ i ∧ tget rows j = some q :=
    fun {j q} hj => by
      rw [tget_tset] at hj; split at hj
      · next heq => exact .inl ⟨heq, (Option.some.inj hj).symm⟩
      · next hne => exact .inr ⟨hne, hj⟩
  refine ⟨h.slots_sorted, h.slot_lt, h.extent_lt, h.extent_inj, tsorted_tset _ _ _ h.rows_sorted, fun hi => ?_,
    fun hi => ?_, fun hi hj heq => ?_, fun hi hb heq => ?_⟩
  all_goals rcases hat hi with ⟨rfl, rfl⟩ | ⟨hne, hq⟩
  · exact hset
  · exact h.row_set hq
  · exact hlt
  · exact h.row_lt hq
  · rcases hat hj with ⟨rfl, rfl⟩ | ⟨hne', hq'⟩
    · rfl
    · exact (hrow _ _ hq' heq.symm).symm
  · rcases hat hj with ⟨rfl, rfl⟩ | ⟨hne', hq'⟩
    · exact hrow _ _ hq heq
    · exact h.row_inj hq hq' heq
  · exact hslot _ _ hb heq
  · exact h.row_unbound hq hb heq

/-- A slot bound to an extent that has neither another slot nor, any longer, a row. -/
theorem MapOk.bind {n e : Nat} {slots : List (Nat × Slot)} {rows : List (Nat × Row)} (h : MapOk n e slots rows)
    {k : Nat} {b : Binding} (hk : k < n) (hlt : b.extent < e)
    (hslot : ∀ j d, bindingAt slots j = some d → d.extent = b.extent → j = k)
    (hrow : ∀ i r, tget rows i = some r → r.extent ≠ b.extent) :
    MapOk n e (tset slots k (.bound b)) rows := by
  have hat : ∀ {j d}, bindingAt (tset slots k (.bound b)) j = some d →
      j = k ∧ d = b ∨ j ≠ k ∧ bindingAt slots j = some d := fun {j d} hj => by
    rw [bindingAt_tset_bound] at hj; split at hj
    · next heq => exact .inl ⟨heq, (Option.some.inj hj).symm⟩
    · next hne => exact .inr ⟨hne, hj⟩
  refine ⟨tsorted_tset _ _ _ h.slots_sorted, fun {j v} hj => ?_, fun hi => ?_, fun hi hj heq => ?_, h.rows_sorted,
    h.row_set, h.row_lt, h.row_inj, fun hr hi heq => ?_⟩
  · rw [tget_tset] at hj; split at hj
    · next heq => exact heq ▸ hk
    · exact h.slot_lt hj
  all_goals rcases hat hi with ⟨rfl, rfl⟩ | ⟨hne, hd⟩
  · exact hlt
  · exact h.extent_lt hd
  · rcases hat hj with ⟨rfl, rfl⟩ | ⟨hne', hd'⟩
    · rfl
    · exact (hslot _ _ hd' heq.symm).symm
  · rcases hat hj with ⟨rfl, rfl⟩ | ⟨hne', hd'⟩
    · exact hslot _ _ hd heq
    · exact h.extent_inj hd hd' heq
  · exact hrow _ _ hr heq
  · exact h.row_unbound hr hd heq

theorem MapOk.emptyRow {n e : Nat} {slots : List (Nat × Slot)} {rows : List (Nat × Row)} (h : MapOk n e slots rows)
    (x : Nat) : MapOk n e slots (emptyRowOf rows x) :=
  h.fewerRows (tsorted_emptyRowOf h.rows_sorted x) fun {i r} hi => ⟨r, ((h.tget_emptyRowOf x i r).mp hi).1, rfl⟩

theorem MapOk.move {T T' : Tables} (h : Move c T T') (hok : T.Ok c) : T'.Ok c := by
  have hs := hok.slots_sorted
  cases h with
  | touch hmem htouch _ => exact hok.touch ((mem_bindingsOf_iff _ hs _ _).mp hmem) htouch.extent
  | @free slots rows rows' k b hmem _ hrows =>
    have hb := (mem_bindingsOf_iff _ hs _ _).mp hmem
    have herase : MapOk c.n c.e (terase slots k) rows := hok.erase k
    rcases hrows with rfl | ⟨-, u, rfl⟩
    · exact herase
    · show MapOk c.n c.e (terase slots k) (barExtent rows b.extent u)
      rcases barExtent_cases rows b.extent u with heq | ⟨i, hset, heq⟩ <;> rw [heq]
      · exact herase
      · refine herase.setRow hset (hok.extent_lt hb) (fun j d hd heq => ?_) fun j q hq heq => ?_
        · rw [bindingAt_terase] at hd; split at hd
          · simp at hd
          · next hne => exact hne (hok.extent_inj hd hb heq.symm)
        · exact absurd heq (hok.row_unbound hq hb)
  | retire hmem _ => exact hok.retire (hok.slot_lt (tget_of_bindingAt ((mem_bindingsOf_iff _ hs _ _).mp hmem)))
  | @bind slots rows k strikes b hslot hfresh hlt hnew _ =>
    refine (hok.emptyRow b.extent).bind (hslot.lt hok) hlt (fun j d hd heq => ?_) fun i r hr => ?_
    · exact absurd heq ((residency_none_iff hs _).mp hnew j d hd)
    · exact ((hok.tget_emptyRowOf _ i r).mp hr).2
  | @promote slots rows k strikes b i w hslot hfresh hrow hext _ =>
    have hw := (tget_eq_some _ hok.rows_sorted _ _).mpr hrow
    refine (hok.eraseRow i).bind (hslot.lt hok) (hext ▸ hok.row_lt hw) (fun j d hd heq => ?_) fun j r hr heq => ?_
    · exact absurd (heq.trans hext).symm (hok.row_unbound hw hd)
    · simp only [tget_terase] at hr
      split at hr
      · simp at hr
      · next hne => exact hne (hok.row_inj hr hw (heq.trans hext))
  | @rowTouch slots rows i w w' hrow hext _ =>
    have hw := (tget_eq_some _ hok.rows_sorted _ _).mpr hrow
    have hext' : (Row.watching w').extent = (Row.watching w).extent := hext
    refine hok.setRow (hext' ▸ hok.row_set hw) (hext' ▸ hok.row_lt hw) (fun k b hb => hext' ▸ hok.row_unbound hw hb)
      fun j q hq heq => hok.row_inj hq hw (heq.trans hext')
  | @rowNew slots rows i w hset hlt hslot hrow _ _ =>
    exact hok.setRow hset hlt (fun k b hb => ((residency_none_iff hs _).mp hslot k b hb).symm)
      fun j q hq heq => absurd heq (hok.findRow_eq_none.mp hrow j q hq)
  | rowErase i => exact hok.eraseRow i
  | @sweep slots rows f g hretired hslot hext _ =>
    have hsub : ∀ {k b'}, bindingAt (slots.filterMap fun p => (f p.2).map fun v => (p.1, v)) k = some b' →
        ∃ d, bindingAt slots k = some d ∧ d.extent = b'.extent := fun {k b'} hb' => by
      rw [bindingAt_eq_some, tget_filterMap hs] at hb'
      obtain ⟨v, hv, hf⟩ := Option.bind_eq_some_iff.mp hb'
      cases v with
      | retired => simp [hretired] at hf
      | bound b =>
        rcases hslot (k, b) ((mem_bindingsOf _ _ _).mpr (mem_of_tget hv)) with ⟨b2, hf2, htouch, -⟩ | ⟨hf2, -⟩
        · obtain rfl : b2 = b' := by simp_all
          exact ⟨b, (bindingAt_eq_some _ _ _).mpr hv, htouch.extent.symm⟩
        · rcases hf2 with hf2 | hf2 <;> simp_all
    have hslots := hok.shrink (tsorted_filterMap hs f) (fun {k v} hk => by
      rw [tget_filterMap hs] at hk
      obtain ⟨u, hu, -⟩ := Option.bind_eq_some_iff.mp hk
      exact hok.slot_lt hu) hsub
    refine hslots.fewerRows (tsorted_map hok.rows_sorted g) fun {i r} hi => ?_
    rw [tget_map] at hi
    obtain ⟨q, hq, rfl⟩ := Option.map_eq_some_iff.mp hi
    exact ⟨q, hq, (hext i q).symm⟩

/-! ### The pin limit (R139) -/

/-- A slot's part in the pinned count. -/
theorem pinnedCount_tset {slots : List (Nat × Slot)} (hs : tsorted slots = true) (k : Nat) (b : Binding) :
    pinnedCount (tset slots k (.bound b)) = (if b.pinned then 1 else 0) + pinnedCount (terase slots k) :=
  countBindings_tset hs k _ _

theorem pinnedCount_terase_le {slots : List (Nat × Slot)} (hs : tsorted slots = true) (k : Nat) :
    pinnedCount (terase slots k) ≤ pinnedCount slots := by
  have := countBindings_eq_terase hs k Binding.pinned
  unfold pinnedCount
  omega

theorem pinnedCount_of_bindingAt {slots : List (Nat × Slot)} (hs : tsorted slots = true) {k : Nat} {b : Binding}
    (hb : bindingAt slots k = some b) :
    pinnedCount slots = (if b.pinned then 1 else 0) + pinnedCount (terase slots k) := by
  have h := countBindings_eq_terase hs k Binding.pinned
  rw [hb] at h
  exact h

/-- A slot bound anew adds at most one to the pinned count, and nothing when it is not pinned. -/
theorem pinnedCount_bind_le {slots : List (Nat × Slot)} (hs : tsorted slots = true) {k limit : Nat} {b : Binding}
    (hpin : b.owners ≠ 0#4 → pinnedCount slots < limit) (hle : pinnedCount slots ≤ limit) :
    pinnedCount (tset slots k (.bound b)) ≤ limit := by
  rw [pinnedCount_tset hs]
  have := pinnedCount_terase_le hs k
  split
  · next hp => have := hpin ((Binding.pinned_eq_true b).mp hp); omega
  · omega

theorem pinnedCount_filterMap_le {slots : List (Nat × Slot)} (f : Slot → Option Slot)
    (hretired : f .retired = some .retired)
    (h : ∀ kb ∈ bindingsOf slots, ∀ b', f (.bound kb.2) = some (.bound b') → b'.owners ≠ 0#4 → kb.2.owners ≠ 0#4) :
    pinnedCount (slots.filterMap fun p => (f p.2).map fun v => (p.1, v)) ≤ pinnedCount slots := by
  unfold pinnedCount
  induction slots with
  | nil => simp [countBindings, bindingsOf]
  | cons p rest ih =>
    obtain ⟨i, v⟩ := p
    cases v with
    | retired =>
      simp only [List.filterMap_cons, hretired, Option.map_some, countBindings_cons, Nat.zero_add]
      exact ih fun kb hkb => h kb (by simpa [bindingsOf] using hkb)
    | bound b =>
      have ih := ih fun kb hkb => h kb (by simp [bindingsOf, hkb])
      have hb := h (i, b) (by simp [bindingsOf])
      simp only [List.filterMap_cons, countBindings_cons]
      cases hf : f (.bound b) with
      | none => simp only [Option.map_none]; omega
      | some w =>
        simp only [Option.map_some, countBindings_cons]
        cases w with
        | retired => simp only []; omega
        | bound b' =>
          have := hb b' hf
          simp only [← Binding.pinned_eq_true] at this
          cases hp : b'.pinned with
          | false => simp only [hp, Bool.false_eq_true, if_false]; omega
          | true => simp only [hp, this hp, if_true]; omega

theorem pinnedCount_move {T T' : Tables} (h : Move c T T') (hok : T.Ok c)
    (hle : pinnedCount T.slots ≤ c.pinLimit) : pinnedCount T'.slots ≤ c.pinLimit := by
  have hs := hok.slots_sorted
  cases h with
  | @touch slots rows k b b' hmem htouch hpin =>
    replace hs : tsorted slots = true := hs
    have hb := (mem_bindingsOf_iff _ hs _ _).mp hmem
    have hcount := pinnedCount_of_bindingAt hs hb
    show pinnedCount (tset slots k (.bound b')) ≤ c.pinLimit
    rw [pinnedCount_tset hs]
    change pinnedCount slots ≤ c.pinLimit at hle
    split
    · next hp =>
      rcases hpin ((Binding.pinned_eq_true b').mp hp) with hold | hlt
      · simp only [(Binding.pinned_eq_true b).mpr hold, if_true] at hcount; omega
      · split at hcount <;> omega
    · split at hcount <;> omega
  | @free slots rows rows' k b hmem _ _ => exact (pinnedCount_terase_le hs k).trans hle
  | @retire slots rows k b hmem _ =>
    replace hs : tsorted slots = true := hs
    show pinnedCount (tset slots k .retired) ≤ c.pinLimit
    have hcount : pinnedCount (tset slots k .retired) = 0 + pinnedCount (terase slots k) := countBindings_tset hs k _ _
    have := pinnedCount_terase_le hs k
    change pinnedCount slots ≤ c.pinLimit at hle
    omega
  | bind _ _ _ _ hpin => exact pinnedCount_bind_le hs hpin hle
  | promote _ _ _ _ hpin => exact pinnedCount_bind_le hs (fun h => absurd hpin h) hle
  | rowTouch _ _ _ => exact hle
  | rowNew _ _ _ _ _ _ => exact hle
  | rowErase _ => exact hle
  | sweep f g hretired hslot _ _ =>
    refine (pinnedCount_filterMap_le f hretired fun kb hkb b' hf hp => ?_).trans hle
    rcases hslot kb hkb with ⟨b2, hf2, -, hpin⟩ | ⟨hf2, -⟩
    · obtain rfl : b2 = b' := by simp_all
      exact hpin hp
    · rcases hf2 with hf2 | hf2 <;> simp_all

/-! ### Dirty blocks (R9, R16, R67) -/

/-- Block `o` of extent `x` is dirty in slot `k` of the table. -/
def DirtyIn (slots : List (Nat × Slot)) (k x o : Nat) : Prop :=
  ∃ b, bindingAt slots k = some b ∧ b.extent = x ∧ b.dirty.getLsbD o = true

theorem DirtyIn.of_eq {slots slots' : List (Nat × Slot)} {k x o : Nat} (h : DirtyIn slots k x o)
    (heq : bindingAt slots' k = bindingAt slots k) : DirtyIn slots' k x o := by
  obtain ⟨b, hb, hrest⟩ := h
  exact ⟨b, heq.trans hb, hrest⟩

theorem DirtyIn.bind {n : Nat} {slots : List (Nat × Slot)} {j strikes k x o : Nat} (h : DirtyIn slots k x o)
    (hs : tsorted slots = true) (hslot : Takeable n slots j strikes) (b : Binding) :
    DirtyIn (tset slots j (.bound b)) k x o := by
  refine h.of_eq (bindingAt_tset_ne _ _ ?_)
  rintro rfl
  obtain ⟨d, hd, -, hdirty⟩ := h
  rcases hslot.bindingAt hs with ⟨-, hfree⟩ | ⟨v, hv, hvictim, -⟩
  · simp [bindingAt_of_tget_none hfree] at hd
  · obtain rfl : v = d := by simp_all
    simp [((Binding.victim_iff v).mp hvictim).2.1] at hdirty

theorem DirtyIn.move {T T' : Tables} {k x o : Nat} (h : Move c T T') (hok : T.Ok c)
    (hl : TablesLawful c.isActive T.slots T.rows) (hd : DirtyIn T.slots k x o) :
    DirtyIn T'.slots k x o ∨ c.mayLose k x o := by
  have hs := hok.slots_sorted
  cases h with
  | @touch slots rows j b b' hmem htouch _ =>
    by_cases hj : k = j
    · subst hj
      obtain ⟨d, hd, rfl, hdirty⟩ := hd
      obtain rfl : b = d := by
        have := (mem_bindingsOf_iff _ hs _ _).mp hmem
        simp_all
      exact (htouch.dirty o hdirty).imp (fun hb' => ⟨b', bindingAt_tset_same _ _ _, htouch.extent, hb'⟩) id
    · exact .inl (hd.of_eq (bindingAt_tset_ne _ _ hj))
  | @free slots rows rows' j b hmem hleave _ =>
    by_cases hj : k = j
    · subst hj
      obtain ⟨d, hd, rfl, hdirty⟩ := hd
      obtain rfl : b = d := by
        have := (mem_bindingsOf_iff _ hs _ _).mp hmem
        simp_all
      exact .inr (hleave.dirty (hl.binding _ hmem) o hdirty)
    · exact .inl (hd.of_eq (bindingAt_terase_ne _ hj))
  | @retire slots rows j b hmem hleave =>
    by_cases hj : k = j
    · subst hj
      obtain ⟨d, hd, rfl, hdirty⟩ := hd
      obtain rfl : b = d := by
        have := (mem_bindingsOf_iff _ hs _ _).mp hmem
        simp_all
      exact .inr (hleave.dirty (hl.binding _ hmem) o hdirty)
    · exact .inl (hd.of_eq (bindingAt_tset_ne _ _ hj))
  | bind hslot _ _ _ _ => exact .inl (hd.bind hs hslot _)
  | promote hslot _ _ _ _ => exact .inl (hd.bind hs hslot _)
  | rowTouch _ _ _ => exact .inl hd
  | rowNew _ _ _ _ _ _ => exact .inl hd
  | rowErase _ => exact .inl hd
  | @sweep slots rows f g hretired hslot _ _ =>
    obtain ⟨b, hb, rfl, hdirty⟩ := hd
    have hget := tget_of_bindingAt hb
    have hmem := mem_bindingsOf_of_bindingAt hb
    rcases hslot (k, b) hmem with ⟨b', hf, htouch, -⟩ | ⟨-, hleave⟩
    · refine (htouch.dirty o hdirty).imp (fun hb' => ⟨b', ?_, htouch.extent, hb'⟩) id
      rw [bindingAt_eq_some, tget_filterMap hs, hget]
      exact hf
    · exact .inr (hleave.dirty (hl.binding _ hmem) o hdirty)

/-! ### A sequence of moves -/

theorem TablesLawful.moves {T T' : Tables} (h : Moves c T T') (hl : TablesLawful c.isActive T.slots T.rows) :
    TablesLawful c.isActive T'.slots T'.rows := by
  induction h with
  | refl => exact hl
  | tail _ hmove ih => exact ih.move hmove

theorem MapOk.moves {T T' : Tables} (h : Moves c T T') (hok : T.Ok c) : T'.Ok c := by
  induction h with
  | refl => exact hok
  | tail _ hmove ih => exact MapOk.move hmove ih

theorem pinnedCount_moves {T T' : Tables} (h : Moves c T T') (hok : T.Ok c)
    (hle : pinnedCount T.slots ≤ c.pinLimit) : pinnedCount T'.slots ≤ c.pinLimit := by
  induction h with
  | refl => exact hle
  | tail hmoves hmove ih => exact pinnedCount_move hmove (hok.moves hmoves) ih

theorem DirtyIn.moves {T T' : Tables} {k x o : Nat} (h : Moves c T T') (hok : T.Ok c)
    (hl : TablesLawful c.isActive T.slots T.rows) (hd : DirtyIn T.slots k x o) :
    DirtyIn T'.slots k x o ∨ c.mayLose k x o := by
  induction h with
  | refl => exact .inl hd
  | tail hmoves hmove ih =>
    rcases ih with ih | ih
    · exact ih.move hmove (hok.moves hmoves) (hl.moves hmoves)
    · exact .inr ih

end

end Sys2Proof.Machine
end


section
/-! SUPPORT. What each operation on one binding keeps of its law and of its order. -/

namespace Sys2Proof.Machine

section
variable {a : Bool} {b : Binding}

/-! ### The law of a binding -/

theorem Binding.Lawful.setState (h : b.Lawful a) (st : BindState) : ({ b with state := st } : Binding).Lawful a :=
  ⟨h.1, h.2, h.3, h.4, h.5, h.6, h.7⟩

theorem Binding.Lawful.setOwners (h : b.Lawful a) (owners : OwnerSet) :
    ({ b with owners := owners } : Binding).Lawful a :=
  ⟨h.1, h.2, h.3, h.4, h.5, h.6, h.7⟩

theorem Binding.Lawful.setHeat (h : b.Lawful a) {heat idle : Nat} (hheat : heat ≤ 4095) (hidle : idle ≤ 1023) :
    ({ b with heat := heat, idle := idle } : Binding).Lawful a :=
  ⟨h.1, h.2, h.3, hheat, hidle, h.6, h.7⟩

theorem Binding.Lawful.orderless (h : b.Lawful a) : b.orderless.Lawful a :=
  ⟨h.1, fun _ hv => (nomatch hv), fun _ hr => (nomatch hr), h.4, h.5, h.6, h.7⟩

theorem Binding.Lawful.struck (h : b.Lawful a) (code : CompletionCode) : (b.struck code).Lawful a := by
  unfold Binding.struck
  split
  · exact ⟨h.1, h.2, h.3, h.4, h.5, Nat.min_le_left _ _, h.7⟩
  · exact h

theorem Binding.Lawful.dispatched (h : b.Lawful a) (q : QueueId) (tag : Tag) : (b.dispatched q tag).Lawful a := by
  have hnone : ∀ v : BlockSet, some BlockSet.none = some v → ∀ o, v.getLsbD o = true → False := by
    rintro v hv o ho
    obtain rfl := Option.some.inj hv
    simp [BlockSet.none] at ho
  unfold Binding.dispatched
  split
  · exact ⟨h.1, fun v hv o ho => (hnone v hv o ho).elim, h.3, h.4, h.5, h.6, h.7⟩
  · exact ⟨h.1, h.2, fun v hv o ho => (hnone v hv o ho).elim, h.4, h.5, h.6, h.7⟩

theorem Binding.Lawful.written (h : b.Lawful true) (w captured : BlockSet) (now : Time) :
    (b.written w captured now).Lawful true where
  dirty_valid o ho := by
    simp only [Binding.written, BitVec.getLsbD_or, Bool.or_eq_true] at ho ⊢
    exact ho.imp (h.dirty_valid o) id
  overtaken_valid v hv o ho := by
    obtain ⟨v', hv', rfl⟩ := Option.map_eq_some_iff.mp hv
    simp only [Binding.written, BitVec.getLsbD_or, Bool.or_eq_true] at ho ⊢
    exact ho.imp (h.overtaken_valid v' hv' o) id
  redirtied_dirty r hr o ho := by
    obtain ⟨r', hr', rfl⟩ := Option.map_eq_some_iff.mp hr
    simp only [Binding.written, BitVec.getLsbD_or, BitVec.getLsbD_and, Bool.or_eq_true, Bool.and_eq_true] at ho ⊢
    exact ho.imp (h.redirtied_dirty r' hr' o) And.left
  heat_le := h.heat_le
  idle_le := h.idle_le
  strikes_le := h.strikes_le
  dirtySince_iff := by
    have hiff := h.dirtySince_iff
    by_cases hd : b.dirty = 0#64 <;> by_cases hw : w = 0#64 <;>
      simp_all [Binding.written, BlockSet.none, BitVec.or_eq_zero_iff]

theorem Binding.Lawful.without (h : b.Lawful a) (r : BlockSet) : (b.without r).Lawful a where
  dirty_valid o ho := by
    simp only [Binding.without, BlockSet.getLsbD_diff, Bool.and_eq_true] at ho ⊢
    exact ⟨h.dirty_valid o ho.1, ho.2⟩
  overtaken_valid v hv o ho := by
    obtain ⟨v', hv', rfl⟩ := Option.map_eq_some_iff.mp hv
    simp only [Binding.without, BlockSet.getLsbD_diff, Bool.and_eq_true] at ho ⊢
    exact ⟨h.overtaken_valid v' hv' o ho.1, ho.2⟩
  redirtied_dirty v hv o ho := by
    obtain ⟨v', hv', rfl⟩ := Option.map_eq_some_iff.mp hv
    simp only [Binding.without, BlockSet.getLsbD_diff, Bool.and_eq_true] at ho ⊢
    exact ⟨h.redirtied_dirty v' hv' o ho.1, ho.2⟩
  heat_le := h.heat_le
  idle_le := h.idle_le
  strikes_le := h.strikes_le
  dirtySince_iff := by
    have hiff := h.dirtySince_iff
    by_cases hd : BlockSet.diff b.dirty r = 0#64
    · simp [Binding.without, hd, BlockSet.none]
    · have hb : b.dirty ≠ 0#64 := by rintro h0; simp [h0, BlockSet.diff] at hd
      simp_all [Binding.without, BlockSet.none]

theorem Binding.Lawful.fillMerge (h : b.Lawful a) (copied : BlockSet) : (b.fillMerge copied).Lawful a where
  dirty_valid o ho := by
    simp only [Binding.fillMerge, BitVec.getLsbD_or, Bool.or_eq_true]
    exact .inl (h.dirty_valid o ho)
  overtaken_valid v hv o ho := by
    simp only [Binding.fillMerge, BitVec.getLsbD_or, Bool.or_eq_true]
    exact .inl (h.overtaken_valid v hv o ho)
  redirtied_dirty := h.redirtied_dirty
  heat_le := h.heat_le
  idle_le := h.idle_le
  strikes_le := h.strikes_le
  dirtySince_iff := h.dirtySince_iff

theorem Binding.Lawful.drainMerge (h : b.Lawful true) (copied : BlockSet) (now : Time) :
    (b.drainMerge copied now).Lawful true where
  dirty_valid o ho := by
    simp only [Binding.drainMerge, BlockSet.getLsbD_diff, Bool.and_eq_true] at ho ⊢
    exact h.dirty_valid o ho.1
  overtaken_valid := h.overtaken_valid
  redirtied_dirty r hr o ho := by
    simp only [Binding.drainMerge, BlockSet.getLsbD_diff, Bool.and_eq_true] at ho ⊢
    replace hr : b.redirtied = some r := hr
    exact ⟨h.redirtied_dirty r hr o ho, by simp [hr, ho]⟩
  heat_le := h.heat_le
  idle_le := h.idle_le
  strikes_le := h.strikes_le
  dirtySince_iff := by
    have hiff := h.dirtySince_iff
    generalize hd : BlockSet.diff b.dirty (BlockSet.diff copied (b.redirtied.getD BlockSet.none)) = d
    by_cases h0 : d = 0#64 <;> by_cases h1 : d = b.dirty <;> simp_all [Binding.drainMerge, BlockSet.none]

theorem newBinding_lawful (state : BindState) (x : Nat) (blocks : BlockSet) (owners : OwnerSet) {heat strikes : Nat}
    (now : Time) (hheat : heat ≤ 4095) (hstrikes : strikes ≤ 2) :
    (newBinding state x blocks owners heat strikes now).Lawful true where
  dirty_valid _ := id
  overtaken_valid _ hv := nomatch hv
  redirtied_dirty _ hr := nomatch hr
  heat_le := hheat
  idle_le := Nat.zero_le _
  strikes_le := hstrikes
  dirtySince_iff := by
    by_cases h0 : blocks = 0#64 <;> simp [newBinding, h0, BlockSet.none]

/-! ### The state of a slot's order -/

theorem Binding.condemnedOk_iff (a : Bool) (b : Binding) :
    b.condemnedOk a = true ↔ (2 ≤ b.strikes → b.state ≠ .filling ∧ (a = true → b.state = .held → b.dirty ≠ 0#64)) := by
  cases hc : b.condemned with
  | false =>
    have : ¬ 2 ≤ b.strikes := by have := (Binding.condemned_eq_false b).mp hc; omega
    simp [Binding.condemnedOk, hc, this]
  | true =>
    have : 2 ≤ b.strikes := (Binding.condemned_eq_true b).mp hc
    cases a <;> simp [Binding.condemnedOk, hc, this]
    tauto

theorem Binding.SameOrder.of_eq {b' : Binding} (hstate : b'.state = b.state) (htag : b'.tag = b.tag)
    (hover : b'.overtaken.isSome = b.overtaken.isSome) (hred : b'.redirtied.isSome = b.redirtied.isSome)
    (hstrikes : b'.strikes = b.strikes) (hdirty : b.dirty ≠ 0#64 → b'.dirty ≠ 0#64) : b.SameOrder a b' := by
  refine ⟨hstate, htag, hover, hred, ?_⟩
  simp only [Binding.condemnedOk_iff, hstate, hstrikes]
  exact fun h hs => ⟨(h hs).1, fun ha hst => hdirty ((h hs).2 ha hst)⟩

theorem Binding.SameOrder.setOwners (owners : OwnerSet) : b.SameOrder a { b with owners := owners } :=
  .of_eq rfl rfl rfl rfl rfl id

theorem Binding.SameOrder.setHeat (heat idle : Nat) : b.SameOrder a { b with heat := heat, idle := idle } :=
  .of_eq rfl rfl rfl rfl rfl id

theorem Binding.SameOrder.written (w captured : BlockSet) (now : Time) :
    b.SameOrder a (b.written w captured now) :=
  .of_eq rfl rfl (by simp [Binding.written]) (by simp [Binding.written]) rfl
    (fun h h' => h (BitVec.or_eq_zero_iff.mp h').1)

/-- Blocks removed: a condemned HELD binding must keep a dirty one. -/
theorem Binding.SameOrder.without (r : BlockSet)
    (hheld : b.state = .held → 2 ≤ b.strikes → BlockSet.diff b.dirty r ≠ 0#64) : b.SameOrder a (b.without r) := by
  refine ⟨rfl, rfl, by simp [Binding.without], by simp [Binding.without], ?_⟩
  simp only [Binding.condemnedOk_iff]
  exact fun h hs => ⟨(h hs).1, fun _ hst => hheld hst hs⟩

end

/-! ### A new binding -/

theorem rowHeat_le {rows : List (Nat × Row)} (h : ∀ p ∈ rows, p.2.lawful = true) (x : Nat) : rowHeat rows x ≤ 4095 := by
  unfold rowHeat
  split
  · next i w hf => exact ((Row.lawful_watching w).mp (h _ (findRow_some hf).1)).1
  · exact Nat.zero_le _

theorem newBinding_fresh {c : MoveRules} (hactive : c.isActive = true) {rows : List (Nat × Row)} (x : Nat)
    (blocks : BlockSet) (owners : OwnerSet) {strikes : Nat} (now : Time) (hstrikes : strikes < 2) :
    Fresh c strikes rows (newBinding .held x blocks owners (rowHeat rows x) strikes now) where
  lawful hrows := by rw [hactive]; exact newBinding_lawful _ _ _ _ _ (rowHeat_le hrows x) (by omega)
  strikes := rfl
  order _ := ⟨rfl, rfl⟩

/-! ### Touches -/

section
variable {c : MoveRules} {k : Nat} {b b' b'' : Binding}

theorem Touch.refl (k : Nat) (b : Binding) : Touch c k b b :=
  ⟨rfl, id, fun _ => .inl, fun _ => .of_eq rfl rfl rfl rfl rfl id⟩

/-- Touches one after another, where no order stands. -/
theorem Touch.trans (h : Touch c k b b') (h' : Touch c k b' b'') (hno : ¬ c.ordersStand) : Touch c k b b'' where
  extent := h'.extent.trans h.extent
  lawful hb := h'.lawful (h.lawful hb)
  dirty o ho := (h.dirty o ho).elim (fun h1 => h.extent ▸ h'.dirty o h1) .inr
  order hs := absurd hs hno

theorem Touch.orderless (hno : ¬ c.ordersStand) (st : BindState) : Touch c k b { b.orderless with state := st } where
  extent := rfl
  lawful hb := hb.orderless.setState st
  dirty _ := .inl
  order hs := absurd hs hno

theorem Touch.orderless' (hno : ¬ c.ordersStand) : Touch c k b b.orderless where
  extent := rfl
  lawful hb := hb.orderless
  dirty _ := .inl
  order hs := absurd hs hno

theorem Touch.setState (hno : ¬ c.ordersStand) (st : BindState) : Touch c k b { b with state := st } where
  extent := rfl
  lawful hb := hb.setState st
  dirty _ := .inl
  order hs := absurd hs hno

theorem Touch.setOwners (owners : OwnerSet) : Touch c k b { b with owners := owners } where
  extent := rfl
  lawful hb := hb.setOwners owners
  dirty _ := .inl
  order _ := .setOwners owners

theorem Touch.setHeat {heat idle : Nat} (hheat : b.heat ≤ 4095 → heat ≤ 4095) (hidle : b.idle ≤ 1023 → idle ≤ 1023) :
    Touch c k b { b with heat := heat, idle := idle } where
  extent := rfl
  lawful hb := hb.setHeat (hheat hb.heat_le) (hidle hb.idle_le)
  dirty _ := .inl
  order _ := .setHeat heat idle

theorem Touch.dispatched (hno : ¬ c.ordersStand) (q : QueueId) (tag : Tag) : Touch c k b (b.dispatched q tag) where
  extent := by unfold Binding.dispatched; split <;> rfl
  lawful hb := hb.dispatched q tag
  dirty o ho := .inl (by unfold Binding.dispatched; split <;> exact ho)
  order hs := absurd hs hno

theorem Touch.struck (hno : ¬ c.ordersStand) (code : CompletionCode) : Touch c k b (b.struck code) where
  extent := by unfold Binding.struck; split <;> rfl
  lawful hb := hb.struck code
  dirty o ho := .inl (by unfold Binding.struck; split <;> exact ho)
  order hs := absurd hs hno

theorem Touch.fillMerge (hno : ¬ c.ordersStand) (copied : BlockSet) : Touch c k b (b.fillMerge copied) where
  extent := rfl
  lawful hb := hb.fillMerge copied
  dirty _ := .inl
  order hs := absurd hs hno

/-- A drain's merge loses the blocks copied and not redirtied (R109). -/
theorem Touch.drainMerge (hno : ¬ c.ordersStand) (hactive : c.isActive = true) (copied : BlockSet) (now : Time)
    (hlose : ∀ o, copied.getLsbD o = true → (b.redirtied.getD 0#64).getLsbD o = false → c.mayLose k b.extent o) :
    Touch c k b (b.drainMerge copied now) where
  extent := rfl
  lawful hb := by rw [hactive] at hb ⊢; exact hb.drainMerge copied now
  dirty o ho := by
    simp only [Binding.drainMerge, BlockSet.getLsbD_diff, ho, Bool.true_and, Bool.not_eq_true']
    by_cases hc : copied.getLsbD o = true
    · cases hr : (b.redirtied.getD 0#64).getLsbD o
      · exact .inr (hlose o hc hr)
      · exact .inl (by simp [BlockSet.none, hr])
    · exact .inl (by simp [hc])
  order hs := absurd hs hno

theorem Touch.written (hactive : c.isActive = true) (w captured : BlockSet) (now : Time) :
    Touch c k b (b.written w captured now) where
  extent := rfl
  lawful hb := by rw [hactive] at hb ⊢; exact hb.written w captured now
  dirty o ho := .inl (by simp [Binding.written, ho])
  order _ := .written w captured now

theorem Touch.without (r : BlockSet) (hlose : ∀ o, r.getLsbD o = true → b.dirty.getLsbD o = true → c.mayLose k b.extent o)
    (hheld : b.state = .held → 2 ≤ b.strikes → BlockSet.diff b.dirty r ≠ 0#64) : Touch c k b (b.without r) where
  extent := rfl
  lawful hb := hb.without r
  dirty o ho := by
    simp only [Binding.without, BlockSet.getLsbD_diff, ho, Bool.true_and, Bool.not_eq_true']
    by_cases hr : r.getLsbD o = true
    · exact .inr (hlose o hr ho)
    · exact .inl (by simpa using hr)
  order _ := .without r hheld

/-- A slot may lose what a touch has left clean. -/
theorem Touch.leave (h : Touch c k b b') (hclean : b'.dirty = 0#64) (hheld : c.ordersStand → b.state = .held) :
    Leave c k b :=
  ⟨fun _ o ho => (h.dirty o ho).elim (fun h1 => by simp [hclean] at h1) id, hheld⟩

end

end Sys2Proof.Machine
end


section
/-! SUPPORT. Each operation on the tables as moves: the ends of an order, the runs, heat, plans, discards and pins. -/

namespace Sys2Proof.Machine

section
variable {c : MoveRules} {s : State}

/-! ### The tables after an update that leaves them, or writes one -/

theorem tables_eq {t : State} (hbt : t.bt = s.bt) (hct : t.ct = s.ct) : t.tables = s.tables := by
  simp [State.tables, hbt, hct]

/-- A binding written over that of its slot. -/
theorem setBinding_move {k : Nat} {b b' : Binding} (hmem : (k, b) ∈ bindingsOf s.bt.slots) (h : Touch c k b b')
    (howners : b'.owners = b.owners) : Move c s.tables (s.setBinding k b').tables :=
  .touch hmem h fun hp => .inl (howners ▸ hp)

/-! ### The ends of an order (R10, R16, R110, R111) -/

/-- The exhaustion of a heat fill that releases its slot and bars the extent (R9, R50). -/
theorem exhaust_frees {o : Order} {b : Binding} (hq : o.queue = .heatFill) (hclean : b.dirty = 0#64)
    (hpin : b.owners = 0#4) (hstrikes : b.strikes < 2) :
    s.exhaust o b = (((s.recordFault .orderExhausted (.queue .heatFill)).release o.slot).withRows
      (barExtent s.ct.rows b.extent (after s.seconds s.policy.barPeriod))).startPicker := by
  have hd := (Binding.isDirty_eq_false b).mpr hclean
  have hp := (Binding.pinned_eq_false b).mpr hpin
  have hc := (Binding.condemned_eq_false b).mpr hstrikes
  simp [State.exhaust, hq, State.leaveOrder, hd, hp, hc]

/-- The exhaustion of a heat fill whose slot is not released. -/
theorem exhaust_keeps {o : Order} {b : Binding} (hq : o.queue = .heatFill)
    (h : ¬ (b.dirty = 0#64 ∧ b.owners = 0#4 ∧ b.strikes < 2)) :
    s.exhaust o b = ((s.recordFault .orderExhausted (.queue .heatFill)).leaveOrder o.slot b true).startPicker := by
  have hfreed : (!b.isDirty && !b.pinned && !b.condemned) = false := by
    by_contra hne
    simp only [Bool.not_eq_false, Bool.and_eq_true, Bool.not_eq_true', Binding.isDirty_eq_false,
      Binding.pinned_eq_false, Binding.condemned_eq_false] at hne
    exact h ⟨hne.1.1, hne.1.2, hne.2⟩
  simp only [State.exhaust, hq, hfreed, Bool.false_eq_true, if_false]

section
variable {k : Nat} {b b1 : Binding} (hmem : (k, b) ∈ bindingsOf s.bt.slots) (htouch : Touch c k b b1)
  (howners : b1.owners = b.owners) (hno : ¬ c.ordersStand)
include hmem htouch howners hno

/-- The end of an order at its slot, whose binding has become `b1`, and a bar of the extent where the slot is released. -/
theorem leaveOrder_move (free : Bool) : Move c s.tables (s.leaveOrder k b1 free).tables := by
  rcases leaveOrder_cases s k b1 free with ⟨⟨-, hclean⟩, heq⟩ | ⟨⟨-, -, hclean, -⟩, heq⟩ | ⟨-, heq⟩
  · simp only [heq, State.tables, State.retire_bt, State.retire_ct]
    exact .retire hmem (htouch.leave hclean fun h => absurd h hno)
  · simp only [heq, State.tables, State.release_bt, State.release_ct]
    exact .free hmem (htouch.leave hclean fun h => absurd h hno) (.inl rfl)
  · simp only [heq, State.tables, State.startScanIf_bt, State.startScanIf_ct]
    exact setBinding_move hmem (htouch.trans (.orderless hno .held) hno) howners

theorem returnOrder_move {o : Order} (ho : o.slot = k) (u : Option Time) :
    Move c s.tables (s.returnOrder o b1 u).tables := by
  subst ho
  simp only [State.tables, State.returnOrder_bt, State.returnOrder_ct]
  exact setBinding_move hmem (htouch.trans (.orderless' hno) hno) howners

theorem exhaust_move (hactive : c.isActive = true) {o : Order} (ho : o.slot = k) : Move c s.tables (s.exhaust o b1).tables := by
  subst ho
  have hfault : (s.recordFault .orderExhausted (.queue o.queue)).tables = s.tables := tables_eq (by simp) (by simp)
  have hmem' : (o.slot, b) ∈ bindingsOf (s.recordFault .orderExhausted (.queue o.queue)).bt.slots := by simpa using hmem
  have hleave := leaveOrder_move hmem' htouch howners hno
  by_cases hq : o.queue = .heatFill
  case neg =>
    rw [exhaust_halts s o b1 hq, ← hfault]
    exact hleave false
  by_cases hfree : b1.dirty = 0#64 ∧ b1.owners = 0#4 ∧ b1.strikes < 2
  · obtain ⟨hclean, hpin, hstrikes⟩ := hfree
    rw [exhaust_frees hq hclean hpin hstrikes, htouch.extent]
    simp only [State.tables, State.startPicker_bt, State.startPicker_ct, State.withRows_bt, State.withRows_ct,
      State.release_bt, State.recordFault_bt]
    exact .free hmem (htouch.leave hclean fun h => absurd h hno) (.inr ⟨hactive, _, rfl⟩)
  · rw [exhaust_keeps hq hfree, ← hfault, ← hq]
    exact hleave true

theorem countFailure_move (hactive : c.isActive = true) {o : Order} (ho : o.slot = k) : Move c s.tables (s.countFailure o b1).tables := by
  rw [countFailure_eq]
  split
  · exact exhaust_move hmem htouch howners hno hactive (o := { o with attempts := 0, backoff := 0 }) ho
  · exact returnOrder_move hmem htouch howners hno (o := { o with attempts := o.attempts - 1, backoff := 0 }) ho none

theorem afterAttempt_move (hactive : c.isActive = true) {o : Order} (ho : o.slot = k) (code : CompletionCode) :
    Move c s.tables (s.afterAttempt o b1 code).tables := by
  cases code with
  | partialCopy | flashFault | platterFault => exact countFailure_move hmem htouch howners hno hactive ho
  | parked | aborted | done =>
    exact returnOrder_move hmem htouch howners hno (o := { o with backoff := 0 }) ho none
  | refused =>
    exact returnOrder_move hmem htouch howners hno (o := { o with backoff := nextBackoff o.backoff }) ho _

theorem finishFill_move (hactive : c.isActive = true) {o : Issued} (ho : o.order.slot = k) (code : CompletionCode) :
    Move c s.tables (s.finishFill o b1 code).tables := by
  unfold State.finishFill
  split
  · exact ho ▸ leaveOrder_move (ho ▸ hmem) (ho ▸ htouch) howners hno false
  · exact afterAttempt_move hmem htouch howners hno hactive ho code

theorem finishDrain_move (hactive : c.isActive = true) {o : Issued} (ho : o.order.slot = k) (code : CompletionCode) :
    Move c s.tables (s.finishDrain o b1 code).tables := by
  unfold State.finishDrain
  split
  · exact ho ▸ leaveOrder_move (ho ▸ hmem) (ho ▸ htouch) howners hno false
  · exact afterAttempt_move hmem htouch howners hno hactive ho code

end

theorem tables_moveRest (s : State) : s.moveRest.tables = s.tables := by
  unfold State.moveRest; split <;> rfl

theorem tables_settleDrainAll (s : State) : s.settleDrainAll.tables = s.tables := tables_eq (by simp) (by simp)

theorem tables_completionFault (s : State) (o : Order) (code : CompletionCode) :
    (s.completionFault o code).tables = s.tables := by
  unfold State.completionFault; split <;> exact tables_eq (by simp) (by simp)

/-- What a completion of the drain in slot `k` may lose (R109). -/
def DrainLoses (o : Issued) (b : Binding) (code : CompletionCode) (copied : BlockSet) (k x off : Nat) : Prop :=
  o.order.queue = .drain ∧ k = o.order.slot ∧ x = b.extent ∧ (copiedWithin o code copied).getLsbD off = true
    ∧ (b.redirtied.getD 0#64).getLsbD off = false

theorem Binding.struck_owners (b : Binding) (code : CompletionCode) : (b.struck code).owners = b.owners := by
  unfold Binding.struck; split <;> rfl

theorem Binding.struck_redirtied (b : Binding) (code : CompletionCode) : (b.struck code).redirtied = b.redirtied := by
  unfold Binding.struck; split <;> rfl

theorem Binding.struck_extent (b : Binding) (code : CompletionCode) : (b.struck code).extent = b.extent := by
  unfold Binding.struck; split <;> rfl

theorem QueueId.kind_eq_drain {q : QueueId} : q.kind = .drain ↔ q = .drain := by cases q <;> simp [QueueId.kind]

theorem completeOrder_move {o : Issued} {b : Binding} (hmem : (o.order.slot, b) ∈ bindingsOf s.bt.slots)
    (hno : ¬ c.ordersStand) (hactive : c.isActive = true) (code : CompletionCode) (copied : BlockSet)
    (hlose : ∀ k x off, DrainLoses o b code copied k x off → c.mayLose k x off) :
    Move c s.tables (completeOrder s o b code copied).tables := by
  have hs1 : (((s.completionFault o.order code).dropIssued o.tag).moveRest).tables = s.tables := by
    rw [tables_moveRest]; exact tables_completionFault s o.order code
  have hslots : (((s.completionFault o.order code).dropIssued o.tag).moveRest).bt.slots = s.bt.slots :=
    congrArg Tables.slots hs1
  have hstruck : Touch c o.order.slot b (b.struck code) := .struck hno code
  simp only [completeOrder, tables_settleDrainAll]
  rw [← hs1]
  cases hkind : o.order.queue.kind with
  | fill =>
    refine finishFill_move (k := o.order.slot) (b := b) (hslots ▸ hmem)
      (hstruck.trans (.fillMerge hno _) hno) (b.struck_owners code) hno hactive rfl code
  | drain =>
    have hdrain := QueueId.kind_eq_drain.mp hkind
    refine finishDrain_move (k := o.order.slot) (b := b) (hslots ▸ hmem)
      (hstruck.trans (.drainMerge hno hactive _ _ fun off hc hr => ?_) hno) (b.struck_owners code) hno hactive rfl code
    rw [b.struck_redirtied] at hr
    exact hlose _ _ _ ⟨hdrain, rfl, b.struck_extent code, hc, hr⟩

theorem timeoutChange_move {o : Issued} {b : Binding} (hmem : (o.order.slot, b) ∈ bindingsOf s.bt.slots)
    (hno : ¬ c.ordersStand) (hactive : c.isActive = true) : Move c s.tables (timeoutChange s o b).tables := by
  have hs1 : ((s.recordFault .orderTimeout (.slot o.order.slot)).dropIssued o.tag).tables = s.tables :=
    tables_eq (by simp) (by simp)
  rw [← hs1]
  exact countFailure_move (b := b) (by simpa using hmem) (.refl _ _) rfl hno hactive rfl

theorem endAtSelection_move {q : QueueId} {w : Waiting} {b : Binding}
    (hmem : (w.order.slot, b) ∈ bindingsOf s.bt.slots) (hno : ¬ c.ordersStand) :
    Move c s.tables (endAtSelection s q w b).tables := by
  have := leaveOrder_move (s := s.setWaiting q (withoutFirstReady s q)) (c := c) hmem (.refl _ b) rfl hno false
  simpa [endAtSelection, State.tables] using this

theorem dispatchOrder_move {q : QueueId} {w : Waiting} {b : Binding}
    (hmem : (w.order.slot, b) ∈ bindingsOf s.bt.slots) (hno : ¬ c.ordersStand) :
    Move c s.tables (dispatchOrder s q w b).tables := by
  have := setBinding_move (c := c) hmem
    (.dispatched hno q (freeTag s.ou.issued s.ou.issued.length s.ou.tagCounter))
    (by unfold Binding.dispatched; split <;> rfl)
  simpa [dispatchOrder, State.tables] using this

/-! ### The advance (R33 to R36) -/

theorem decayed_le (h : Nat) : decayed h ≤ h := Nat.sub_le _ _

theorem aged_le (n : Nat) : aged n ≤ 1023 := Nat.min_le_left _ _

theorem tickActive_move (s : State) : Move c s.tables (tickActive s).tables := by
  have hslots : (tickActive s).bt.slots = s.bt.slots.filterMap fun p =>
      ((some ∘ Slot.advance s.hu.wheel s.policy.pr) p.2).map fun v => (p.1, v) := by
    simp [tickActive]
  have hrows : (tickActive s).ct.rows = s.ct.rows.map fun p => (p.1, Row.advance s.hu.wheel s.policy.pc
      s.policy.lifetime s.choices p.1 (thresholdAt s.policy (refilled s.policy s.au).tokens)
      (thresholdAt s.policy s.au.tokens) p.2) := rfl
  rw [show (tickActive s).tables = ⟨(tickActive s).bt.slots, (tickActive s).ct.rows⟩ from rfl, hslots, hrows]
  refine .sweep (some ∘ Slot.advance s.hu.wheel s.policy.pr)
    (fun i => Row.advance s.hu.wheel s.policy.pc s.policy.lifetime s.choices i _ _) rfl (fun kb _ => ?_)
    (fun i r => ?_) fun i r hr => ?_
  · refine .inl ⟨_, rfl, .setHeat (fun h => ?_) fun _ => aged_le _, fun hp => hp⟩
    split
    · exact (decayed_le _).trans h
    · exact h
  · cases r <;> rfl
  · cases r with
    | barred x t => rfl
    | watching w =>
      rw [Row.lawful_watching] at hr
      refine (Row.lawful_watching _).mpr ⟨?_, aged_le _⟩
      show (if _ then decayed w.heat else w.heat) ≤ 4095
      split
      · exact (decayed_le _).trans hr.1
      · exact hr.1

end

end Sys2Proof.Machine
end


section
/-! SUPPORT. The runs, heat, plans, discards, pins and RESET WARM, as moves of the tables. -/

namespace Sys2Proof.Machine

section
variable {c : MoveRules} {s : State}

/-! ### The shares of a range (R1) -/

theorem mem_sharesOf {start count : Nat} {sh : Share} :
    sh ∈ sharesOf start count ↔
      ∃ x, start / 64 ≤ x ∧ x ≤ (start + count - 1) / 64 ∧ (start + count - 1) / 64 ≥ start / 64 ∧ sh = shareOf start count x
      ∨ (start + count - 1) / 64 < start / 64 ∧ x = start / 64 ∧ sh = shareOf start count x := by
  simp only [sharesOf, List.mem_map, List.mem_range]
  constructor
  · rintro ⟨i, hi, rfl⟩
    refine ⟨start / 64 + i, ?_⟩
    by_cases h : (start + count - 1) / 64 < start / 64
    · exact .inr ⟨h, by omega, rfl⟩
    · exact .inl ⟨by omega, by omega, by omega, rfl⟩
  · rintro ⟨x, ⟨h1, h2, h3, rfl⟩ | ⟨h1, rfl, rfl⟩⟩
    · exact ⟨x - start / 64, by omega, by rw [Nat.add_sub_cancel' h1]⟩
    · exact ⟨0, by omega, rfl⟩

/-- A share of a range of at least one block is that of a touched extent. -/
theorem mem_sharesOf_pos {start count : Nat} (hc : 0 < count) {sh : Share} :
    sh ∈ sharesOf start count ↔
      ∃ x, start / 64 ≤ x ∧ x ≤ (start + count - 1) / 64 ∧ sh = shareOf start count x := by
  have hle : start / 64 ≤ (start + count - 1) / 64 := Nat.div_le_div_right (by omega)
  rw [mem_sharesOf]
  constructor
  · rintro ⟨x, ⟨h1, h2, -, h3⟩ | ⟨h1, -⟩⟩
    · exact ⟨x, h1, h2, h3⟩
    · omega
  · rintro ⟨x, h1, h2, h3⟩
    exact ⟨x, .inl ⟨h1, h2, hle, h3⟩⟩

theorem Share.count_le {start count : Nat} (x : Nat) : (shareOf start count x).count ≤ 64 := by
  simp only [Share.count, shareOf]
  omega

theorem contribution_le {weight n : Nat} (hw : weight ≤ 64) (hn : n ≤ 64) : contribution weight n ≤ 256 := by
  unfold contribution
  calc weight * (1 + (n - 1) / 16) ≤ 64 * 4 := Nat.mul_le_mul hw (by omega)
    _ = 256 := rfl

theorem itemWeight_le (kind : AccessKind) (served : Served) (streaming : Bool) : itemWeight kind served streaming ≤ 64 := by
  cases kind <;> cases served <;> cases streaming <;> decide

/-! ### Heat (R31, R32, R42 to R45) -/

theorem warmed_le (h n : Nat) : warmed h n ≤ 4095 := Nat.min_le_left _ _

theorem applyHeat_moves {x n : Nat} (hactive : c.isActive = true) (hx : x < c.e) (hn : n ≤ 4095) (acc : State × Bool) :
    Moves c acc.1.tables (applyHeat x n acc).1.tables := by
  obtain ⟨s, started⟩ := acc
  cases hres : residency s.bt.slots x with
  | some kb =>
    obtain ⟨k, b⟩ := kb
    simp only [applyHeat, hres]
    refine .single (setBinding_move (residency_some _ _ _ _ hres).1 (.setHeat (fun _ => warmed_le _ _) fun h => ?_) rfl)
    omega
  | none =>
    cases hrow : findRow s.ct.rows x with
    | some ir =>
      obtain ⟨i, r⟩ := ir
      simp only [applyHeat, hres, hrow]
      cases r with
      | barred y t => exact .refl
      | watching w =>
        refine .single (.rowTouch (w' := w.contribute n (aEff s)) (findRow_some hrow).1 rfl fun h => ?_)
        have hw := (Row.lawful_watching w).mp h
        refine (Row.lawful_watching _).mpr ⟨warmed_le _ _, ?_⟩
        show w.idle % 8 ≤ 1023
        omega
    | none =>
      simp only [applyHeat, hres, hrow]
      cases hway : allocateWay s.ct.rows x n with
      | some i =>
        exact .single (.rowNew (w := newWatch x n (aEff s)) (allocateWay_set hway) hx hres hrow
          ((Row.lawful_watching _).mpr ⟨hn, Nat.zero_le _⟩) hactive)
      | none => exact .refl

theorem applyShares_moves {weight : Nat} {shares : List Share} (hactive : c.isActive = true) (hw : weight ≤ 64)
    (hsh : ∀ sh ∈ shares, sh.extent < c.e ∧ sh.count ≤ 64) (acc : State × Bool) :
    Moves c acc.1.tables (shares.foldl (applyShare weight) acc).1.tables := by
  induction shares generalizing acc with
  | nil => exact .refl
  | cons sh shares ih =>
    obtain ⟨hx, hcount⟩ := hsh sh (by simp)
    have hn : contribution weight sh.count ≤ 4095 := (contribution_le hw hcount).trans (by decide)
    exact (applyHeat_moves hactive hx hn acc).trans (ih (fun sh' h => hsh sh' (by simp [h])) _)

theorem outOfRange_eq_false (e start count : Nat) :
    outOfRange e start count = false ↔ 0 < count ∧ start + count ≤ e * 64 := by
  simp [outOfRange, Nat.pos_iff_ne_zero]

theorem extent_lt_of_mem_sharesOf {e start count : Nat} (hc : 0 < count) (hle : start + count ≤ e * 64) {sh : Share}
    (h : sh ∈ sharesOf start count) : sh.extent < e := by
  obtain ⟨x, h1, h2, rfl⟩ := (mem_sharesOf_pos hc).mp h
  show x < e
  omega

theorem tables_track (s : State) (item : AccessItem) : (s.track item).tables = s.tables := by
  unfold State.track; split <;> rfl

theorem applyItem_moves (hactive : c.isActive = true) (he : s.bt.e = c.e) (item : AccessItem) :
    Moves c s.tables (applyItem s item).tables := by
  unfold applyItem
  cases hr : outOfRange s.bt.e item.start item.count with
  | true => exact .refl
  | false =>
    obtain ⟨hc, hle⟩ := (outOfRange_eq_false _ _ _).mp hr
    have := applyShares_moves (c := c) hactive (itemWeight_le item.kind item.served
      (isStreaming s.policy.streamThreshold (s.track item).hu.trackers)) (fun sh hsh =>
        ⟨he ▸ extent_lt_of_mem_sharesOf hc hle hsh, by
          obtain ⟨x, -, -, rfl⟩ := (mem_sharesOf_pos hc).mp hsh
          exact Share.count_le x⟩) (s.track item, false)
    rw [tables_track] at this
    simpa [State.tables] using this

/-! ### The runs (R65, R128, R149) -/

theorem drainChoice_mem {k : Nat} {b : Binding} (h : drainChoice s = some (k, b)) :
    (k, b) ∈ bindingsOf s.bt.slots ∧ drainQualifies s b = true := by
  unfold drainChoice at h
  split at h
  · simp at h
  · next p rest hfilter =>
    have hmem := foldl_pick_mem (betterDrain s.seconds)
      (fun a b => by unfold betterDrain; split <;> split <;> simp) rest p
    rw [Option.some.inj h, ← hfilter] at hmem
    simpa using hmem

theorem queueDrain_move {k : Nat} {b : Binding} (hmem : (k, b) ∈ bindingsOf s.bt.slots) (hno : ¬ c.ordersStand) :
    Move c s.tables (queueDrain s k b).tables :=
  setBinding_move hmem (.setState hno .draining) rfl

theorem drainLoop_moves (hno : ¬ c.ordersStand) (fuel : Nat) (s : State) : Moves c s.tables (drainLoop fuel s).tables := by
  induction fuel generalizing s with
  | zero => exact .refl
  | succ fuel ih =>
    unfold drainLoop
    split
    · exact .refl
    · split
      · exact .refl
      · next k b hchoice => exact .head (queueDrain_move (drainChoice_mem hchoice).1 hno) (ih _)

theorem queuePinFill_move {k : Nat} {b : Binding} (hmem : (k, b) ∈ bindingsOf s.bt.slots) (hno : ¬ c.ordersStand) :
    Move c s.tables (queuePinFill s k b).tables :=
  setBinding_move hmem (.setState hno .filling) rfl

theorem refillLoop_moves (hno : ¬ c.ordersStand) (fuel : Nat) (s : State) :
    Moves c s.tables (refillLoop fuel s).tables := by
  induction fuel generalizing s with
  | zero => exact .refl
  | succ fuel ih =>
    unfold refillLoop
    split
    · exact .refl
    · split
      · exact .refl
      · next k b hfind => exact .head (queuePinFill_move (List.mem_of_find?_eq_some hfind) hno) (ih _)

theorem promotionSlot_takeable {heat k strikes : Nat} (h : promotionSlot s heat = some (k, strikes)) :
    Takeable s.bt.n s.bt.slots k strikes := by
  unfold promotionSlot at h
  cases hf : lowestFree s.bt with
  | some j =>
    rw [hf] at h
    obtain ⟨rfl, rfl⟩ := Prod.mk.inj (Option.some.inj h)
    exact takeable_of_lowestFree hf
  | none =>
    rw [hf] at h
    cases hv : victimOf s.bt.slots (fun _ => false) with
    | none => simp [hv] at h
    | some jv =>
      obtain ⟨j, v⟩ := jv
      simp only [hv] at h
      split at h
      · obtain ⟨rfl, rfl⟩ := Prod.mk.inj (Option.some.inj h)
        exact takeable_of_victimOf hv
      · simp at h

theorem promote_move {i : Nat} {w : Watch} {k strikes : Nat} (hactive : c.isActive = true) (hno : ¬ c.ordersStand)
    (hrow : (i, Row.watching w) ∈ s.ct.rows) (hslot : Takeable c.n s.bt.slots k strikes) :
    Move c s.tables (promote s i w k strikes).tables := by
  refine .promote (b := newBinding .filling w.extent BlockSet.none 0#4 w.heat strikes s.seconds) hslot
    ⟨fun hl => ?_, rfl, fun h => absurd h hno⟩ hrow rfl rfl
  rw [hactive]
  exact newBinding_lawful _ _ _ _ _ ((Row.lawful_watching w).mp (hl _ hrow)).1 hslot.1.le

theorem clearFlag_move {i : Nat} {w : Watch} (hrow : (i, Row.watching w) ∈ s.ct.rows) :
    Move c s.tables (clearFlag s i w).tables :=
  .rowTouch (w' := { w with eligible := false }) hrow rfl fun h => h

theorem promoteLoop_moves (hactive : c.isActive = true) (hno : ¬ c.ordersStand) (fuel : Nat) (s : State)
    (hn : s.bt.n = c.n) : Moves c s.tables (promoteLoop fuel s).tables := by
  induction fuel generalizing s with
  | zero => exact .refl
  | succ fuel ih =>
    unfold promoteLoop
    split
    · exact .refl
    · split
      · exact .refl
      · next i w hhead =>
        have hrow := (eligibleHead_mem hhead).1
        split
        · exact .head (clearFlag_move hrow) (ih (clearFlag s i w) hn)
        · split
          · exact .refl
          · next k strikes hslot =>
            exact .head (promote_move hactive hno hrow (hn ▸ promotionSlot_takeable hslot)) (ih _ hn)

/-! ### Plans (R78 to R88) -/

def Plan.tables (p : Plan) : Tables := ⟨p.slots, p.rows⟩

theorem planShare_move {touches : Nat → Bool} {p p1 : Plan} {sh : Share} (hactive : c.isActive = true)
    (hn : s.bt.n = c.n) (hx : sh.extent < c.e) (h : planShare s touches p sh = some p1) :
    Moves c p.tables p1.tables := by
  unfold planShare at h
  cases hres : residency p.slots sh.extent with
  | some kb =>
    obtain ⟨k, b⟩ := kb
    obtain ⟨hmem, hext⟩ := residency_some _ _ _ _ hres
    simp only [hres] at h
    split at h
    · obtain rfl := Option.some.inj h
      exact .single (.touch hmem (.written hactive _ _ _) fun hp => .inl hp)
    · next hflash =>
      obtain rfl := Option.some.inj h
      simp only [boundToFlash, Bool.or_eq_true, decide_eq_true_eq, Bool.not_eq_true', not_or, ne_eq, not_not] at hflash
      obtain ⟨⟨⟨hmiss, -⟩, -⟩, -⟩ := hflash
      have hdiff : BlockSet.diff b.dirty sh.blocks = b.dirty := BitVec.eq_of_getLsbD_eq fun o _ => by
        have hbit := congrArg (BitVec.getLsbD · o) hmiss
        rw [BlockSet.getLsbD_diff]
        simp only [BlockSet.none, BitVec.getLsbD_and] at hbit
        cases hd : b.dirty.getLsbD o <;> simp_all
      refine .single (.touch hmem ⟨rfl, fun hb => hb.without _, fun o ho => .inl ?_, fun _ => ?_⟩ fun hp => .inl hp)
      · show (BlockSet.diff b.dirty sh.blocks).getLsbD o = true
        rw [hdiff, ho]
      · refine .of_eq rfl rfl (by simp [Binding.without]) (by simp [Binding.without]) rfl fun hd => ?_
        show BlockSet.diff b.dirty sh.blocks ≠ 0#64
        rwa [hdiff]
  | none =>
    simp only [hres] at h
    split at h
    · obtain rfl := Option.some.inj h; exact .refl
    · split at h
      · obtain ⟨⟨k, strikes⟩, htake, rfl⟩ := Option.map_eq_some_iff.mp h
        have hslot : Takeable c.n p.slots k strikes := hn ▸ takeable_of_takeSlot htake
        exact .single (.bind hslot (newBinding_fresh hactive _ _ _ _ hslot.1) hx hres fun hp => absurd rfl hp)
      · simp at h

theorem planShares_moves {touches : Nat → Bool} {shares : List Share} {p p1 : Plan} (hactive : c.isActive = true)
    (hn : s.bt.n = c.n) (hx : ∀ sh ∈ shares, sh.extent < c.e) (h : planShares s touches p shares = some p1) :
    Moves c p.tables p1.tables := by
  induction shares generalizing p with
  | nil => obtain rfl := Option.some.inj h; exact .refl
  | cons sh shares ih =>
    obtain ⟨p2, h2, h1⟩ := Option.bind_eq_some_iff.mp h
    exact (planShare_move hactive hn (hx sh (by simp)) h2).trans (ih (fun sh' h' => hx sh' (by simp [h'])) h1)

theorem planOf_moves {start count : Nat} {p : Plan} (hactive : c.isActive = true) (hn : s.bt.n = c.n)
    (hc : 0 < count) (hle : start + count ≤ c.e * 64) (h : planOf s start count = some p) :
    Moves c s.tables p.tables :=
  planShares_moves hactive hn (fun _ hsh => extent_lt_of_mem_sharesOf hc hle hsh) h

/-! ### Discards (R92 to R94) -/

theorem discardShare_move {d : Discarding} {sh : Share}
    (hlose : ∀ k o, sh.blocks.getLsbD o = true → c.mayLose k sh.extent o) :
    Moves c d.state.tables (discardShare d sh).state.tables := by
  unfold discardShare
  cases hres : residency d.state.bt.slots sh.extent with
  | none => exact .refl
  | some kb =>
    obtain ⟨k, b⟩ := kb
    obtain ⟨hmem, hext⟩ := residency_some _ _ _ _ hres
    dsimp only
    split
    · next hheld =>
      unfold discardHeld
      by_cases hretire : ((b.without sh.blocks).condemned && !(b.without sh.blocks).isDirty) = true
      · rw [if_pos hretire]
        simp only [Bool.and_eq_true, Bool.not_eq_true', Binding.isDirty_eq_false] at hretire
        refine .single (.retire hmem ⟨fun _ o ho => ?_, fun _ => hheld⟩)
        by_contra hkeep
        have hblk : sh.blocks.getLsbD o = false := by
          by_contra hb
          exact hkeep (hext ▸ hlose k o (by simpa using hb))
        have hbit := congrArg (BitVec.getLsbD · o) hretire.2
        simp [Binding.without, BlockSet.getLsbD_diff, ho, hblk] at hbit
      · rw [if_neg hretire]
        simp only [Bool.and_eq_true, Bool.not_eq_true', Binding.isDirty_eq_false, Binding.condemned_eq_true,
          not_and] at hretire
        split
        · next hfree =>
          simp only [Bool.and_eq_true, Bool.not_eq_true', decide_eq_true_eq] at hfree
          refine .single (.free hmem ⟨fun hl o ho => ?_, fun _ => hheld⟩ (.inl rfl))
          by_contra hkeep
          have hblk : sh.blocks.getLsbD o = false := by
            by_contra hb
            exact hkeep (hext ▸ hlose k o (by simpa using hb))
          have hbit := congrArg (BitVec.getLsbD · o) hfree.2
          simp [Binding.without, BlockSet.getLsbD_diff, hl.dirty_valid o ho, hblk, BlockSet.none] at hbit
        · exact .single (setBinding_move hmem
            (.without _ (fun o hr _ => hext ▸ hlose k o hr) fun _ hs => hretire hs) rfl)
    · next hheld =>
      exact .single (setBinding_move hmem
        (.without _ (fun o hr _ => hext ▸ hlose k o hr) fun h => absurd h hheld) rfl)

theorem discardShares_moves {shares : List Share} (d : Discarding)
    (hlose : ∀ sh ∈ shares, ∀ k o, sh.blocks.getLsbD o = true → c.mayLose k sh.extent o) :
    Moves c d.state.tables (shares.foldl discardShare d).state.tables := by
  induction shares generalizing d with
  | nil => exact .refl
  | cons sh shares ih =>
    exact (discardShare_move (hlose sh (by simp))).trans (ih _ fun sh' h => hlose sh' (by simp [h]))

/-! ### Pins (R143, R144, R146) -/

def Pinning.tables (p : Pinning) : Tables := ⟨p.slots, p.rows⟩

theorem pinExtent_moves {owner x : Nat} {covers : Nat → Bool} (hactive : c.isActive = true) (hn : s.bt.n = c.n)
    (hlimit : s.policy.pinLimit = c.pinLimit) (hx : x < c.e) (p : Pinning) :
    Moves c p.tables (pinExtent s owner covers p x).tables := by
  unfold pinExtent
  cases hres : residency p.slots x with
  | some kb =>
    obtain ⟨k, b⟩ := kb
    dsimp only
    split
    · exact .refl
    · split
      · next hpin =>
        refine .single (.touch (residency_some _ _ _ _ hres).1 (.setOwners _) fun _ => ?_)
        rw [← hlimit]
        simpa using hpin
      · exact .refl
  | none =>
    dsimp only
    split
    · next hlt =>
      split
      · next k strikes htake =>
        have hslot : Takeable c.n p.slots k strikes := hn ▸ takeable_of_takeSlot htake
        exact .single (.bind hslot (newBinding_fresh hactive _ _ _ _ hslot.1) hx hres fun _ => hlimit ▸ hlt)
      · exact .refl
    · exact .refl

theorem pinExtents_moves {owner : Nat} {covers : Nat → Bool} {xs : List Nat} (hactive : c.isActive = true)
    (hn : s.bt.n = c.n) (hlimit : s.policy.pinLimit = c.pinLimit) (hx : ∀ x ∈ xs, x < c.e) (p : Pinning) :
    Moves c p.tables (xs.foldl (pinExtent s owner covers) p).tables := by
  induction xs generalizing p with
  | nil => exact .refl
  | cons x xs ih =>
    exact (pinExtent_moves hactive hn hlimit (hx x (by simp)) p).trans (ih (fun y hy => hx y (by simp [hy])) _)

theorem mem_extentRange {first count x : Nat} : x ∈ extentRange first count ↔ first ≤ x ∧ x < first + count := by
  simp only [extentRange, List.mem_map, List.mem_range]
  constructor
  · rintro ⟨i, hi, rfl⟩; omega
  · rintro ⟨h1, h2⟩; exact ⟨x - first, by omega, by omega⟩

theorem pinPlan_moves {owner first count : Nat} (hactive : c.isActive = true) (hn : s.bt.n = c.n)
    (hlimit : s.policy.pinLimit = c.pinLimit) (hle : first + count ≤ c.e) :
    Moves c s.tables (pinPlan s owner first count).tables := by
  have hx : ∀ x ∈ extentRange first count, x < c.e := fun x hx => by
    have := mem_extentRange.mp hx
    omega
  exact pinExtents_moves (p := ⟨s.bt.slots, s.ct.rows, [], 0⟩) hactive hn hlimit hx

theorem unpinSlot_moves (owner : Nat) (u : Unpinning) (k : Nat) :
    Moves c u.state.tables (unpinSlot owner u k).state.tables := by
  unfold unpinSlot
  cases hb : bindingAt u.state.bt.slots k with
  | none => exact .refl
  | some b =>
    have hmem := mem_bindingsOf_of_bindingAt hb
    have hset : Moves c u.state.tables (u.state.setBinding k
        { b with owners := b.owners &&& ~~~(ownerBit owner) }).tables :=
      .single (.touch hmem (.setOwners _) fun hp => .inl fun h0 => hp (by simp [h0]))
    dsimp only
    split
    · next hleft =>
      simp only [Bool.and_eq_true, decide_eq_true_eq] at hleft
      obtain ⟨⟨-, hheld⟩, hvalid⟩ := hleft
      split
      · split
        · exact hset
        · next hclean =>
          have hclean : b.dirty = 0#64 := by simpa using hclean
          exact .single (.retire hmem ⟨fun _ o ho => by simp [hclean] at ho, fun _ => hheld⟩)
      · refine .single (.free hmem ⟨fun hl o ho => ?_, fun _ => hheld⟩ (.inl rfl))
        have := hl.dirty_valid o ho
        simp [hvalid, BlockSet.none] at this
    · exact hset

theorem unpinSlots_moves (owner : Nat) (ks : List Nat) (u : Unpinning) :
    Moves c u.state.tables (ks.foldl (unpinSlot owner) u).state.tables := by
  induction ks generalizing u with
  | nil => exact .refl
  | cons k ks ih => exact (unpinSlot_moves owner u k).trans (ih _)

/-! ### RESET WARM (R16, R21) -/

theorem mem_tset_of_ne {α : Type} {l : List (Nat × α)} {k : Nat} {a : α} {p : Nat × α} (h : p ∈ l) (hne : p.1 ≠ k) :
    p ∈ tset l k a := by
  induction l with
  | nil => simp at h
  | cons q rest ih =>
    simp only [tset]
    split
    · exact List.mem_cons_of_mem _ h
    · split
      · next heq =>
        rcases List.mem_cons.mp h with rfl | h
        · exact absurd heq.symm hne
        · exact List.mem_cons_of_mem _ h
      · rcases List.mem_cons.mp h with rfl | h
        · exact List.mem_cons_self
        · exact List.mem_cons_of_mem _ (ih h)

theorem warmState_move (s : State) (hno : ¬ c.ordersStand) : Move c s.tables (warmState s).tables := by
  have hrows : s.ct.rows = s.ct.rows.map fun p => (p.1, (fun _ r => r : Nat → Row → Row) p.1 p.2) := by simp
  rw [show (warmState s).tables = ⟨warmSlots s.bt.slots, s.ct.rows⟩ from rfl]
  conv => rhs; rw [hrows]
  refine .sweep Slot.warm (fun _ r => r) rfl (fun kb _ => ?_) (fun _ _ => rfl) fun _ _ h => h
  obtain ⟨k, b⟩ := kb
  cases hst : b.state with
  | filling =>
    by_cases hkeep : (decide (b.valid ≠ BlockSet.none) || b.pinned) = true
    · exact .inl ⟨_, by simp only [Slot.warm, hst, hkeep, if_true], .orderless hno .held, id⟩
    · refine .inr ⟨.inl (by simp only [Slot.warm, hst, hkeep, if_false, Bool.false_eq_true]),
        fun hl o ho => ?_, fun h => absurd h hno⟩
      have hvalid : b.valid = 0#64 := by simp at hkeep; exact hkeep.1
      have := hl.dirty_valid o ho
      simp [hvalid] at this
  | held => exact .inl ⟨_, by simp only [Slot.warm, hst], .orderless' hno, id⟩
  | draining => exact .inl ⟨_, by simp only [Slot.warm, hst], .orderless hno .held, id⟩

theorem mem_bindingsOf_tset_ne {slots : List (Nat × Slot)} {k : Nat} {v : Slot} {p : Nat × Binding}
    (h : p ∈ bindingsOf slots) (hne : p.1 ≠ k) : p ∈ bindingsOf (tset slots k v) := by
  obtain ⟨j, b⟩ := p
  rw [mem_bindingsOf] at h ⊢
  exact mem_tset_of_ne h hne

theorem retireAll_moves (gone : List (Nat × Binding)) (hno : ¬ c.ordersStand) (s : State)
    (hnodup : (gone.map Prod.fst).Nodup)
    (hgone : ∀ kb ∈ gone, kb ∈ bindingsOf s.bt.slots ∧ kb.2.dirty = 0#64) :
    Moves c s.tables (gone.foldl (fun t kb => t.retire kb.1 kb.2) s).tables := by
  induction gone generalizing s with
  | nil => exact .refl
  | cons kb gone ih =>
    obtain ⟨k, b⟩ := kb
    obtain ⟨hmem, hclean⟩ := hgone (k, b) (by simp)
    rw [List.map_cons, List.nodup_cons] at hnodup
    have hmove : Move c s.tables (s.retire k b).tables :=
      .retire hmem ⟨fun _ o ho => by rw [hclean] at ho; simp at ho, fun h => absurd h hno⟩
    refine .head hmove (ih _ hnodup.2 fun jb hjb => ?_)
    obtain ⟨hj, hjclean⟩ := hgone jb (by simp [hjb])
    refine ⟨mem_bindingsOf_tset_ne hj fun heq => hnodup.1 ?_, hjclean⟩
    exact List.mem_map.mpr ⟨jb, hjb, heq⟩

end

end Sys2Proof.Machine
end


section
/-! SUPPORT. What the commands keep besides the tables, and each command as moves of the tables. -/

namespace Sys2Proof.Machine

/-! ### The offsets of a share (R1) -/

theorem BlockSet.getLsbD_span {lo hi o : Nat} (hlo : lo ≤ hi) (ho : o < 64) :
    (BlockSet.span lo hi).getLsbD o = true ↔ lo ≤ o ∧ o < hi := by
  have hfactor : 2 ^ hi - 2 ^ lo = (2 ^ (hi - lo) - 1) * 2 ^ lo := by
    rw [Nat.sub_mul, one_mul, ← Nat.pow_add, Nat.sub_add_cancel hlo]
  rw [BlockSet.span, hfactor, BitVec.getLsbD_ofNat, Nat.testBit_mul_two_pow, Nat.testBit_two_pow_sub_one]
  simp only [ho, decide_true, Bool.true_and, Bool.and_eq_true, decide_eq_true_eq]
  omega

/-- The share of a touched extent holds the offsets of the range's blocks in it. -/
theorem Share.getLsbD_blocks {start count x o : Nat} (hc : 0 < count) (hlo : start / 64 ≤ x)
    (hx : x ≤ (start + count - 1) / 64) (ho : o < 64) :
    (shareOf start count x).blocks.getLsbD o = true ↔ start ≤ 64 * x + o ∧ 64 * x + o < start + count := by
  have hle : start - 64 * x ≤ min 64 (start + count - 64 * x) := by
    have : 64 * x ≤ start + count - 1 := by omega
    omega
  rw [Share.blocks, shareOf, BlockSet.getLsbD_span hle ho]
  omega

/-! ### Changes of slots alone -/

/-- `t` differs from `s` in the slots and the Pin Unit alone. -/
def State.OnlySlots (s t : State) : Prop := ∃ slots pu, t = { s.withSlots slots with pu := pu }

namespace State.OnlySlots
variable {s t u : State}

theorem refl (s : State) : s.OnlySlots s := ⟨s.bt.slots, s.pu, rfl⟩

theorem trans (h : s.OnlySlots t) (h' : t.OnlySlots u) : s.OnlySlots u := by
  obtain ⟨slots, pu, rfl⟩ := h
  obtain ⟨slots', pu', rfl⟩ := h'
  exact ⟨slots', pu', rfl⟩

theorem retire (s : State) (k : Nat) (b : Binding) : s.OnlySlots (s.retire k b) :=
  ⟨tset s.bt.slots k .retired, s.pu.raise b.owners .pinsDropped, rfl⟩

theorem release (s : State) (k : Nat) : s.OnlySlots (s.release k) := ⟨terase s.bt.slots k, s.pu, rfl⟩

theorem setBinding (s : State) (k : Nat) (b : Binding) : s.OnlySlots (s.setBinding k b) :=
  ⟨tset s.bt.slots k (.bound b), s.pu, rfl⟩

theorem startScanIf (s : State) (c : Bool) : s.OnlySlots (s.startScanIf c) := by
  cases c
  · exact .refl s
  · exact ⟨s.bt.slots, { s.pu with scansOwed := s.pu.scansOwed + 1 }, rfl⟩

theorem foldl {α : Type} {f : State → α → State} (h : ∀ (s : State) a, s.OnlySlots (f s a)) (l : List α) (s : State) :
    s.OnlySlots (l.foldl f s) := by
  induction l generalizing s with
  | nil => exact .refl s
  | cons a l ih => exact (h s a).trans (ih _)

end State.OnlySlots

/-! ### The ranges of the fault table and the Heat Unit -/

/-- The fault table and its overflow count are in range (R187). -/
structure FaultUnit.InRange (c : FaultUnit) : Prop where
  faults : c.faults.length ≤ 8
  overflow : c.overflow ≤ 65535
  nodup : (c.faults.map fun e => (e.kind, e.subject)).Nodup

/-- The places of the Heat Unit are in range (R22 to R28, R34). -/
structure HeatUnit.InRange (h : HeatUnit) : Prop where
  intake : h.intake.length ≤ 64
  lapseCount : h.lapseCount ≤ 65535
  trackers : h.trackers.length ≤ 4
  wheel : h.wheel < 32

theorem recordFault_inRange (s : State) (kind : FaultKind) (subject : Subject) (h : s.cfu.InRange) :
    (s.recordFault kind subject).cfu.InRange := by
  refine ⟨?_, ?_, recordFault_nodup kind subject h.nodup⟩ <;>
    cases hfold : foldFault s.seconds kind subject s.cfu.faults with
    | some entries =>
      rw [recordFault_of_some hfold]
      have hlen := congrArg List.length (foldFault_keys hfold)
      simp only [List.length_map] at hlen
      simp [hlen, h.faults, h.overflow]
    | none =>
      rcases Nat.lt_or_ge s.cfu.faults.length 8 with hroom | hfull
      · rw [recordFault_of_room hfold hroom]
        simp [h.overflow]
        try omega
      · rw [recordFault_of_full hfold hfull]
        simp [h.faults]

/-! ### What the ends of an order keep -/

/-- `t` differs from `s` in slots and rows, queues, alerts and runs owed, the fault table and the monitor alone. -/
structure State.EndKeeps (s t : State) : Prop where
  seconds : t.seconds = s.seconds
  policy : t.policy = s.policy
  n : t.bt.n = s.bt.n
  e : t.bt.e = s.bt.e
  hu : t.hu = s.hu
  untracked : t.ct.untracked = s.ct.untracked
  tokens : t.au.tokens = s.au.tokens
  acc : t.au.acc = s.au.acc
  mju : t.mju = s.mju
  lif : t.lif = s.lif
  issued : t.ou.issued = s.ou.issued
  tagCounter : t.ou.tagCounter = s.ou.tagCounter
  retry : s.ou.retryCount ≤ 65535 → t.ou.retryCount ≤ 65535
  cfu : s.cfu.InRange → t.cfu.InRange

namespace State.EndKeeps
variable {s t u : State}

theorem refl (s : State) : s.EndKeeps s := ⟨rfl, rfl, rfl, rfl, rfl, rfl, rfl, rfl, rfl, rfl, rfl, rfl, id, id⟩

theorem trans (h : s.EndKeeps t) (h' : t.EndKeeps u) : s.EndKeeps u :=
  ⟨h'.seconds.trans h.seconds, h'.policy.trans h.policy, h'.n.trans h.n, h'.e.trans h.e, h'.hu.trans h.hu,
    h'.untracked.trans h.untracked, h'.tokens.trans h.tokens, h'.acc.trans h.acc, h'.mju.trans h.mju, h'.lif.trans h.lif,
    h'.issued.trans h.issued, h'.tagCounter.trans h.tagCounter, h'.retry ∘ h.retry, h'.cfu ∘ h.cfu⟩

end State.EndKeeps

section
variable (s : State)

theorem recordFault_keeps (kind : FaultKind) (subject : Subject) : s.EndKeeps (s.recordFault kind subject) :=
  ⟨by simp, by simp, by simp, by simp, by simp, by simp, by simp, by simp, by simp, by simp, by simp, by simp, by simp,
    recordFault_inRange s kind subject⟩

theorem leaveOrder_onlySlots (k : Nat) (b : Binding) (free : Bool) : s.OnlySlots (s.leaveOrder k b free) := by
  rcases leaveOrder_cases s k b free with ⟨-, heq⟩ | ⟨-, heq⟩ | ⟨-, heq⟩ <;> rw [heq]
  · exact .retire s k b
  · exact .release s k
  · exact (State.OnlySlots.setBinding s k _).trans (.startScanIf _ _)

theorem State.OnlySlots.endKeeps {s t : State} (h : s.OnlySlots t) : s.EndKeeps t := by
  obtain ⟨slots, pu, rfl⟩ := h
  exact ⟨rfl, rfl, rfl, rfl, rfl, rfl, rfl, rfl, rfl, rfl, rfl, rfl, id, id⟩

theorem leaveOrder_keeps (k : Nat) (b : Binding) (free : Bool) : s.EndKeeps (s.leaveOrder k b free) :=
  (leaveOrder_onlySlots s k b free).endKeeps

theorem setHalted_keeps (q : QueueId) (h : Bool) : s.EndKeeps (s.setHalted q h) :=
  ⟨rfl, rfl, rfl, rfl, rfl, rfl, rfl, rfl, rfl, rfl, by simp [State.setHalted], by simp [State.setHalted],
    by simp [State.setHalted], id⟩

theorem exhaust_endKeeps (o : Order) (b : Binding) : s.EndKeeps (s.exhaust o b) := by
  by_cases hq : o.queue = .heatFill
  case neg =>
    rw [exhaust_halts s o b hq]
    exact ((recordFault_keeps s _ _).trans (leaveOrder_keeps _ _ _ _)).trans (setHalted_keeps _ _ _)
  by_cases hfree : b.dirty = 0#64 ∧ b.owners = 0#4 ∧ b.strikes < 2
  · rw [exhaust_frees hq hfree.1 hfree.2.1 hfree.2.2]
    exact (recordFault_keeps s .orderExhausted (.queue .heatFill)).trans
      ⟨rfl, rfl, rfl, rfl, rfl, rfl, rfl, rfl, rfl, rfl, rfl, rfl, id, id⟩
  · rw [exhaust_keeps hq hfree]
    exact ((recordFault_keeps s .orderExhausted (.queue .heatFill)).trans (leaveOrder_keeps _ o.slot b true)).trans
      ⟨rfl, rfl, rfl, rfl, rfl, rfl, rfl, rfl, rfl, rfl, rfl, rfl, id, id⟩

theorem returnOrder_keeps (o : Order) (b : Binding) (u : Option Time) : s.EndKeeps (s.returnOrder o b u) :=
  ⟨rfl, rfl, by simp, by simp, rfl, rfl, rfl, rfl, rfl, rfl, by simp, by simp, fun _ => by simp, id⟩

theorem countFailure_keeps (o : Order) (b : Binding) : s.EndKeeps (s.countFailure o b) := by
  rw [countFailure_eq]
  split
  · exact exhaust_endKeeps s _ b
  · exact returnOrder_keeps s _ b none

theorem afterAttempt_keeps (o : Order) (b : Binding) (code : CompletionCode) :
    s.EndKeeps (s.afterAttempt o b code) := by
  cases code with
  | partialCopy | flashFault | platterFault => exact countFailure_keeps s o b
  | parked | aborted | done | refused => exact returnOrder_keeps s _ b _

theorem finishFill_keeps (o : Issued) (b : Binding) (code : CompletionCode) : s.EndKeeps (s.finishFill o b code) := by
  unfold State.finishFill
  split
  · exact leaveOrder_keeps s _ b false
  · exact afterAttempt_keeps s _ b code

theorem finishDrain_keeps (o : Issued) (b : Binding) (code : CompletionCode) :
    s.EndKeeps (s.finishDrain o b code) := by
  unfold State.finishDrain
  split
  · exact leaveOrder_keeps s _ b false
  · exact afterAttempt_keeps s _ b code

theorem settleDrainAll_keeps : s.EndKeeps s.settleDrainAll := by
  unfold State.settleDrainAll
  split
  · exact ⟨rfl, rfl, rfl, rfl, rfl, rfl, rfl, rfl, rfl, rfl, rfl, rfl, id, id⟩
  · exact .refl s

/-- The state in which a completion's progress is settled: the fault recorded, the order no longer issued. -/
theorem completion_start_keeps (o : Issued) (code : CompletionCode) :
    (s.dropIssued o.tag).EndKeeps (((s.completionFault o.order code).dropIssued o.tag).moveRest) := by
  have hfault : s.EndKeeps (s.completionFault o.order code) := by
    unfold State.completionFault
    split
    · exact recordFault_keeps s _ _
    · exact recordFault_keeps s _ _
    · exact .refl s
  have hdrop : (s.dropIssued o.tag).EndKeeps ((s.completionFault o.order code).dropIssued o.tag) :=
    ⟨hfault.seconds, hfault.policy, hfault.n, hfault.e, hfault.hu, hfault.untracked, hfault.tokens, hfault.acc, hfault.mju,
      by simp [hfault.lif], by simp [hfault.issued], by simp [hfault.tagCounter], by simpa using hfault.retry, hfault.cfu⟩
  refine hdrop.trans ?_
  unfold State.moveRest
  split
  · exact ⟨rfl, rfl, rfl, rfl, rfl, rfl, rfl, rfl, rfl, rfl, rfl, rfl, id, id⟩
  · exact .refl _

theorem completeOrder_keeps (o : Issued) (b : Binding) (code : CompletionCode) (copied : BlockSet) :
    (s.dropIssued o.tag).EndKeeps (completeOrder s o b code copied) := by
  unfold completeOrder
  refine .trans ?_ (settleDrainAll_keeps _)
  cases o.order.queue.kind with
  | fill => exact (completion_start_keeps s o code).trans (finishFill_keeps _ o _ code)
  | drain => exact (completion_start_keeps s o code).trans (finishDrain_keeps _ o _ code)

theorem timeoutChange_keeps (o : Issued) (b : Binding) :
    (s.dropIssued o.tag).EndKeeps (timeoutChange s o b) :=
  .trans (t := (s.recordFault .orderTimeout (.slot o.order.slot)).dropIssued o.tag)
    ⟨by simp, by simp, by simp, by simp, by simp, by simp, by simp, by simp, by simp, by simp, by simp, by simp, by simp,
      recordFault_inRange s _ _⟩
    (countFailure_keeps _ _ b)

end

/-! ### What the runs, discards and unpins keep -/

theorem discardHeld_onlySlots (s : State) (k : Nat) (b : Binding) : s.OnlySlots (discardHeld s k b) := by
  unfold discardHeld
  split
  · exact .retire s k b
  · split
    · exact .release s k
    · exact .setBinding s k b

theorem discardShare_onlySlots (d : Discarding) (sh : Share) : d.state.OnlySlots (discardShare d sh).state := by
  unfold discardShare
  split
  · exact .refl _
  · dsimp only
    split
    · exact discardHeld_onlySlots _ _ _
    · exact .setBinding _ _ _

theorem discardShares_onlySlots (shares : List Share) (d : Discarding) :
    d.state.OnlySlots (shares.foldl discardShare d).state := by
  induction shares generalizing d with
  | nil => exact .refl _
  | cons sh shares ih => exact (discardShare_onlySlots d sh).trans (ih _)

theorem unpinSlot_onlySlots (owner : Nat) (u : Unpinning) (k : Nat) :
    u.state.OnlySlots (unpinSlot owner u k).state := by
  unfold unpinSlot
  split
  · exact .refl _
  · dsimp only
    split
    · split
      · split
        · exact .setBinding _ _ _
        · exact .retire _ _ _
      · exact .release _ _
    · exact .setBinding _ _ _

theorem unpinSlots_onlySlots (owner : Nat) (ks : List Nat) (u : Unpinning) :
    u.state.OnlySlots (ks.foldl (unpinSlot owner) u).state := by
  induction ks generalizing u with
  | nil => exact .refl _
  | cons k ks ih => exact (unpinSlot_onlySlots owner u k).trans (ih _)

/-- `t` differs from `s` in slots and rows, the Order Unit, the Admission Unit, the log and the request for the lane alone:
what a run of a picker or a scan may change. -/
structure State.RunKeeps (s t : State) : Prop where
  seconds : t.seconds = s.seconds
  policy : t.policy = s.policy
  n : t.bt.n = s.bt.n
  e : t.bt.e = s.bt.e
  hu : t.hu = s.hu
  untracked : t.ct.untracked = s.ct.untracked
  tokens : t.au.tokens ≤ s.au.tokens
  acc : t.au.acc = s.au.acc
  life : t.mju.life = s.mju.life
  cfu : t.cfu = s.cfu
  issued : t.ou.issued = s.ou.issued
  tagCounter : t.ou.tagCounter = s.ou.tagCounter
  retry : t.ou.retryCount = s.ou.retryCount
  frames : t.lif.orderFrames = s.lif.orderFrames

namespace State.RunKeeps
variable {s t u : State}

theorem refl (s : State) : s.RunKeeps s := ⟨rfl, rfl, rfl, rfl, rfl, rfl, le_rfl, rfl, rfl, rfl, rfl, rfl, rfl, rfl⟩

theorem trans (h : s.RunKeeps t) (h' : t.RunKeeps u) : s.RunKeeps u :=
  ⟨h'.seconds.trans h.seconds, h'.policy.trans h.policy, h'.n.trans h.n, h'.e.trans h.e, h'.hu.trans h.hu,
    h'.untracked.trans h.untracked, h'.tokens.trans h.tokens, h'.acc.trans h.acc, h'.life.trans h.life, h'.cfu.trans h.cfu,
    h'.issued.trans h.issued, h'.tagCounter.trans h.tagCounter, h'.retry.trans h.retry, h'.frames.trans h.frames⟩

end State.RunKeeps

theorem queueDrain_keeps (s : State) (k : Nat) (b : Binding) : s.RunKeeps (queueDrain s k b) :=
  ⟨rfl, rfl, rfl, rfl, rfl, rfl, le_rfl, rfl, rfl, rfl, rfl, rfl, rfl, rfl⟩

theorem drainLoop_keeps (fuel : Nat) (s : State) : s.RunKeeps (drainLoop fuel s) := by
  induction fuel generalizing s with
  | zero => exact .refl s
  | succ fuel ih =>
    unfold drainLoop
    split
    · exact .refl s
    · split
      · exact .refl s
      · exact (queueDrain_keeps s _ _).trans (ih _)

theorem queuePinFill_keeps (s : State) (k : Nat) (b : Binding) : s.RunKeeps (queuePinFill s k b) :=
  ⟨rfl, rfl, rfl, rfl, rfl, rfl, Nat.sub_le _ _, rfl, rfl, rfl, rfl, rfl, rfl, rfl⟩

theorem refillLoop_keeps (fuel : Nat) (s : State) : s.RunKeeps (refillLoop fuel s) := by
  induction fuel generalizing s with
  | zero => exact .refl s
  | succ fuel ih =>
    unfold refillLoop
    split
    · exact .refl s
    · split
      · exact .refl s
      · exact (queuePinFill_keeps s _ _).trans (ih _)

theorem promote_keeps (s : State) (i : Nat) (w : Watch) (k strikes : Nat) : s.RunKeeps (promote s i w k strikes) :=
  ⟨rfl, rfl, rfl, rfl, rfl, rfl, Nat.sub_le _ _, rfl, rfl, rfl, rfl, rfl, rfl, rfl⟩

theorem clearFlag_keeps (s : State) (i : Nat) (w : Watch) : s.RunKeeps (clearFlag s i w) :=
  ⟨rfl, rfl, rfl, rfl, rfl, rfl, le_rfl, rfl, rfl, rfl, rfl, rfl, rfl, rfl⟩

theorem promoteLoop_keeps (fuel : Nat) (s : State) : s.RunKeeps (promoteLoop fuel s) := by
  induction fuel generalizing s with
  | zero => exact .refl s
  | succ fuel ih =>
    unfold promoteLoop
    split
    · exact .refl s
    · split
      · exact .refl s
      · split
        · exact (clearFlag_keeps s _ _).trans (ih _)
        · split
          · exact .refl s
          · exact (promote_keeps s _ _ _ _).trans (ih _)

end Sys2Proof.Machine
end


section
/-! SUPPORT. Each command, the resets and those that open or import a map apart, as moves of the tables. -/

namespace Sys2Proof.Machine

/-! ### A request, told by its service (R172, R173) -/

/-- The request taken behind a REPLY is served in a state that differs in the link alone. -/
theorem replySent_onlyLink (s : State) :
    ∃ lif, s.replySent = { s with lif := lif } ∧ lif.intake = s.lif.intake ∧ lif.orderFrames = s.lif.orderFrames := by
  rcases replySent_cases s with heq | ⟨-, heq⟩
  · exact ⟨s.lif, heq, rfl, rfl⟩
  · exact ⟨s.finishFrame.lif, by rw [heq, finishFrame_eq], by simp, by rw [finishFrame_eq]⟩

/-- A relation that every refusal, and every service of a request of the row, satisfies holds of the taking of a request. -/
theorem takeRequest_induction {R : State → State → Prop} {row : RequestRow} {serve : Frame → State → State} {s : State}
    (hsame : R s s)
    (hrefuse : ∀ lif f key code n, lif.orderFrames = s.lif.orderFrames →
      R s (({ s with lif := lif } : State).refer f key code n))
    (hserve : ∀ lif f rest, lif.orderFrames = s.lif.orderFrames → s.lif.intake = f :: rest → requestRow f = row →
      phaseRefusal row s.mju.life = none → lengthOk row f.body.length = true → R s (serve f { s with lif := lif })) :
    R s (takeRequest row serve s) := by
  obtain ⟨lif, hu, hintake, hframes⟩ := replySent_onlyLink s
  rcases takeRequest_cases row serve s with heq | ⟨u, f, rest, rfl, -, hi, hrow, hcase⟩
  · rw [heq]; exact hsame
  · rw [hu] at hi hcase
    have hs : s.lif.intake = f :: rest := hintake.symm.trans hi
    rcases hcase with ⟨code, -, heq⟩ | ⟨-, -, heq⟩ | ⟨hp, hl, heq⟩ <;> rw [heq]
    · exact hrefuse { lif with intake := rest } f _ _ _ hframes
    · exact hrefuse { lif with intake := rest } f _ _ _ hframes
    · exact hserve { lif with intake := rest } f rest hframes hs hrow hp hl

/-- The rows that only ACTIVE serves. -/
theorem active_of_phaseRefusal {row : RequestRow} {s : State} (h : phaseRefusal row s.mju.life = none)
    (hrow : row ∈ [RequestRow.exportMap, .sync, .lookup, .planWrite, .discard, .pin, .unpin, .unpinAll, .complete, .skipOn,
      .skipOff, .resume, .drainAll]) : active s = true := by
  cases hl : s.mju.life with
  | active => simp [active, hl]
  | unbound => rw [hl] at h; fin_cases hrow <;> simp [phaseRefusal] at h
  | importing => rw [hl] at h; fin_cases hrow <;> simp [phaseRefusal] at h

/-! ### Steps of the tables -/

/-- `t` has the map, the policy and the lifecycle of `s`. -/
structure State.Quiet (s t : State) : Prop where
  bt : t.bt = s.bt
  rows : t.ct.rows = s.ct.rows
  policy : t.policy = s.policy
  life : t.mju.life = s.mju.life

namespace State.Quiet
variable {s t u : State}

theorem refl (s : State) : s.Quiet s := ⟨rfl, rfl, rfl, rfl⟩

theorem trans (h : s.Quiet t) (h' : t.Quiet u) : s.Quiet u :=
  ⟨h'.bt.trans h.bt, h'.rows.trans h.rows, h'.policy.trans h.policy, h'.life.trans h.life⟩

theorem tables (h : s.Quiet t) : t.tables = s.tables := by simp [State.tables, h.bt, h.rows]

theorem active (h : s.Quiet t) : active t = active s := by simp [Machine.active, h.life]

theorem onlyLink (s : State) (lif : Link) : s.Quiet { s with lif := lif } := ⟨rfl, rfl, rfl, rfl⟩

theorem recordFault (s : State) (kind : FaultKind) (subject : Subject) : s.Quiet (s.recordFault kind subject) := by
  constructor <;> simp

theorem settleCredit (s : State) : s.Quiet s.settleCredit := by constructor <;> simp

theorem finishFrame (s : State) : s.Quiet s.finishFrame := by rw [finishFrame_eq]; exact .onlyLink s _

end State.Quiet

/-! ### Commands that leave the map and the orders -/

/-- What the laws read of the Order Unit: the orders of the queues, the issued set, the tag counter and the retry count. -/
def OrderUnit.view (ou : OrderUnit) : List Order × List Order × List Order × List Issued × Tag × Nat :=
  (ou.ordersIn .pinFill, ou.ordersIn .heatFill, ou.ordersIn .drain, ou.issued, ou.tagCounter, ou.retryCount)

/-- `t` has the map, the orders, the policy and the lifecycle of `s`; ORDER frames and log entries may have been sent, faults
recorded and items taken in. -/
structure State.Calm (s t : State) : Prop extends s.Quiet t where
  tokens : t.au.tokens = s.au.tokens
  acc : t.au.acc = s.au.acc
  untracked : t.ct.untracked ≤ s.ct.untracked
  hu : s.hu.InRange → t.hu.InRange
  cfu : s.cfu.InRange → t.cfu.InRange
  orders : t.ou.view = s.ou.view
  frames : t.lif.orderFrames.Sublist s.lif.orderFrames
  log : t.mju.log <:+ s.mju.log

/-- The fields that the laws of the map, the orders, the log and the units read. -/
def State.view (s : State) :=
  (s.bt, s.ct, s.policy, s.mju.life, s.au.tokens, s.au.acc, s.hu, s.cfu.faults, s.cfu.overflow, s.ou.view, s.lif.orderFrames,
    s.mju.log)

namespace State.Calm
variable {s t u : State}

theorem of_view (h : t.view = s.view) : s.Calm t := by
  simp only [State.view, Prod.mk.injEq] at h
  obtain ⟨hbt, hct, hpolicy, hlife, htokens, hacc, hhu, hfaults, hoverflow, hou, hframes, hlog⟩ := h
  refine ⟨⟨hbt, by rw [hct], hpolicy, hlife⟩, htokens, hacc, by rw [hct], by rw [hhu]; exact id, fun hc => ?_, hou,
    by rw [hframes], by rw [hlog]⟩
  exact ⟨hfaults ▸ hc.faults, hoverflow ▸ hc.overflow, hfaults ▸ hc.nodup⟩

theorem refl (s : State) : s.Calm s := of_view rfl

theorem withHeat {hu : HeatUnit} (h : s.hu.InRange → hu.InRange) : s.Calm { s with hu := hu } :=
  { refl s with hu := h }

theorem withLog {log : List LogEntry} (h : log <:+ s.mju.log) : s.Calm { s with mju := { s.mju with log := log } } :=
  { refl s with log := h }

theorem withFrames {frames : List OrderFrame} (h : frames.Sublist s.lif.orderFrames) :
    s.Calm { s with lif := { s.lif with orderFrames := frames } } :=
  { refl s with frames := h }

theorem trans (h : s.Calm t) (h' : t.Calm u) : s.Calm u :=
  ⟨h.toQuiet.trans h'.toQuiet, h'.tokens.trans h.tokens, h'.acc.trans h.acc, h'.untracked.trans h.untracked, h'.hu ∘ h.hu,
    h'.cfu ∘ h.cfu, h'.orders.trans h.orders, h'.frames.trans h.frames, h'.log.trans h.log⟩

theorem onlyLink (s : State) {lif : Link} (h : lif.orderFrames = s.lif.orderFrames) : s.Calm { s with lif := lif } :=
  of_view (by simp only [State.view, h])

theorem recordFault (s : State) (kind : FaultKind) (subject : Subject) : s.Calm (s.recordFault kind subject) :=
  ⟨.recordFault s kind subject, by simp, by simp, by simp, by simp, recordFault_inRange s kind subject, by simp, by simp,
    by simp⟩

theorem settleCredit (s : State) : s.Calm s.settleCredit := of_view (by simp [State.view])

theorem finishFrame (s : State) : s.Calm s.finishFrame := by rw [finishFrame_eq]; exact .of_view rfl

theorem frameEnd (s : State) : s.Calm s.frameEnd := by
  unfold State.frameEnd
  split
  · exact .finishFrame s
  · exact .refl s

theorem foldl {α : Type} {f : State → α → State} (h : ∀ (s : State) a, s.Calm (f s a)) (l : List α) (s : State) :
    s.Calm (l.foldl f s) := by
  induction l generalizing s with
  | nil => exact .refl s
  | cons a l ih => exact (h s a).trans (ih _)

end State.Calm

/-- The rules of the moves of one command in `s`. -/
def State.rules (s : State) (stands : Prop) (lose : Nat → Nat → Nat → Prop) : MoveRules :=
  ⟨active s, s.bt.n, s.bt.e, s.policy.pinLimit, stands, lose⟩

/-- A command of a part that goes on in its lifecycle, with its map and policy: its tables have moved. -/
structure TableStep (stands : Prop) (lose : Nat → Nat → Nat → Prop) (s t : State) : Prop where
  n : t.bt.n = s.bt.n
  e : t.bt.e = s.bt.e
  policy : t.policy = s.policy
  life : t.mju.life = s.mju.life
  moves : Moves (s.rules stands lose) s.tables t.tables

namespace TableStep
variable {stands : Prop} {lose : Nat → Nat → Nat → Prop} {s t u : State}

theorem of_quiet (h : s.Quiet t) : TableStep stands lose s t where
  n := by rw [h.bt]
  e := by rw [h.bt]
  policy := h.policy
  life := h.life
  moves := by rw [h.tables]

theorem refl (s : State) : TableStep stands lose s s := of_quiet (.refl s)

theorem trans (h : TableStep stands lose s t) (h' : TableStep stands lose t u) : TableStep stands lose s u where
  n := h'.n.trans h.n
  e := h'.e.trans h.e
  policy := h'.policy.trans h.policy
  life := h'.life.trans h.life
  moves := by
    have hrules : t.rules stands lose = s.rules stands lose := by
      simp [State.rules, active, h.life, h.n, h.e, h.policy]
    exact h.moves.trans (hrules ▸ h'.moves)

/-- A command after or before which only the rest of the part changes. -/
theorem quiet_left (hq : s.Quiet t) (h : TableStep stands lose t u) : TableStep stands lose s u := (of_quiet hq).trans h

theorem quiet_right (h : TableStep stands lose s t) (hq : t.Quiet u) : TableStep stands lose s u := h.trans (of_quiet hq)

theorem of_onlySlots (h : s.OnlySlots t) (hm : Moves (s.rules stands lose) s.tables t.tables) :
    TableStep stands lose s t := by
  obtain ⟨slots, pu, rfl⟩ := h
  exact ⟨rfl, rfl, rfl, rfl, hm⟩

theorem of_endKeeps (h : s.EndKeeps t) (hm : Moves (s.rules stands lose) s.tables t.tables) :
    TableStep stands lose s t :=
  ⟨h.n, h.e, h.policy, by rw [h.mju], hm⟩

theorem of_runKeeps (h : s.RunKeeps t) (hm : Moves (s.rules stands lose) s.tables t.tables) :
    TableStep stands lose s t :=
  ⟨h.n, h.e, h.policy, h.life, hm⟩

/-- A request whose service moves the tables. -/
theorem request {row : RequestRow} {serve : Frame → State → State}
    (hserve : ∀ lif f rest, s.lif.intake = f :: rest → requestRow f = row → phaseRefusal row s.mju.life = none →
      lengthOk row f.body.length = true →
      TableStep stands lose { s with lif := lif } (serve f { s with lif := lif })) :
    TableStep stands lose s (takeRequest row serve s) :=
  takeRequest_induction (R := TableStep stands lose) (.refl s) (fun _ _ _ _ _ _ => .of_quiet ⟨rfl, rfl, rfl, rfl⟩)
    fun lif f rest _ hi hr hp hl => .quiet_left (.onlyLink s lif) (hserve lif f rest hi hr hp hl)

end TableStep

/-! ### The commands, one after another -/

section
variable {stands : Prop} {lose : Nat → Nat → Nat → Prop} (s : State)

theorem quiet_rows (s : State) (rows : List (Nat × Row)) (hm : Moves (s.rules stands lose) s.tables ⟨s.bt.slots, rows⟩) :
    TableStep stands lose s (s.withRows rows) := ⟨rfl, rfl, rfl, rfl, hm⟩

theorem secondsAdvance_tableStep :
    TableStep stands lose s (if active s then tickActive (tick s) else tick s) := by
  have htick : s.Quiet (tick s) := ⟨rfl, rfl, rfl, rfl⟩
  split
  · exact .quiet_left htick ⟨rfl, rfl, rfl, rfl, .single (tickActive_move _)⟩
  · exact .of_quiet htick

theorem rowExpiry_tableStep {row : Nat} {t : State} (h : execRowExpiry row s = .next t) : TableStep stands lose s t := by
  have hgone : TableStep stands lose s (s.withRows (terase s.ct.rows row)) := quiet_rows s _ (.single (.rowErase row))
  obtain rfl := Host.Outcome.next.inj h
  split
  · split
    · split
      · exact hgone
      · exact .refl s
    · exact .refl s
    · exact .refl s
  · exact .refl s

theorem barEnd_tableStep {row : Nat} {t : State} (h : execBarEnd row s = .next t) : TableStep stands lose s t := by
  have hgone : TableStep stands lose s (s.withRows (terase s.ct.rows row)) := quiet_rows s _ (.single (.rowErase row))
  obtain rfl := Host.Outcome.next.inj h
  split
  · split
    · split
      · exact hgone
      · exact .refl s
    · exact .refl s
    · exact .refl s
  · exact .refl s

theorem bindingAt_mem {slots : List (Nat × Slot)} {k : Nat} {b : Binding} (h : bindingAt slots k = some b) :
    (k, b) ∈ bindingsOf slots := mem_bindingsOf_of_bindingAt h

/-- The log and the lane after a change of the tables. -/
theorem logChange_quiet (s : State) (before : List (Nat × Slot)) (ks : List Nat) : s.Quiet (s.logChange before ks) :=
  ⟨rfl, rfl, rfl, rfl⟩

theorem timeoutOrder_tableStep (hno : ¬ stands) (hactive : active s = true) {o : Issued} {b : Binding}
    (hb : bindingAt s.bt.slots o.order.slot = some b) : TableStep stands lose s (timeoutOrder s o b) := by
  have hmove : TableStep stands lose s (timeoutChange s o b) :=
    .quiet_left (t := s.dropIssued o.tag) ⟨rfl, rfl, rfl, rfl⟩
      (.of_endKeeps (timeoutChange_keeps s o b) (.single (timeoutChange_move (bindingAt_mem hb) hno hactive)))
  unfold timeoutOrder
  dsimp only
  split
  · exact (hmove.quiet_right (logChange_quiet _ _ _)).quiet_right (.settleCredit _)
  · exact .refl s

theorem orderTimeout_tableStep (hno : ¬ stands) {tag : Tag} {t : State} (h : execOrderTimeout tag s = .next t) :
    TableStep stands lose s t := by
  obtain rfl := Host.Outcome.next.inj h
  split
  · next hactive =>
    split
    · split
      · next b hb =>
        split
        · exact timeoutOrder_tableStep s hno hactive hb
        · exact .refl s
      · exact .refl s
    · exact .refl s
  · exact .refl s

theorem drainPickerRun_tableStep (hno : ¬ stands) {t : State} (h : execDrainPickerRun s = .next t) :
    TableStep stands lose s t := by
  obtain rfl := Host.Outcome.next.inj h
  split
  · dsimp only
    split
    · exact .quiet_left (t := { s with psm := { s.psm with drainRunsOwed := s.psm.drainRunsOwed - 1 } })
        ⟨rfl, rfl, rfl, rfl⟩ (.of_runKeeps (drainLoop_keeps _ _) (drainLoop_moves hno _ _))
    · exact .of_quiet ⟨rfl, rfl, rfl, rfl⟩
  · exact .refl s

theorem refillScan_tableStep (hno : ¬ stands) {t : State} (h : execRefillScan s = .next t) :
    TableStep stands lose s t := by
  obtain rfl := Host.Outcome.next.inj h
  split
  · exact .quiet_left (t := { s with pu := { s.pu with scansOwed := s.pu.scansOwed - 1 } })
      ⟨rfl, rfl, rfl, rfl⟩ (.of_runKeeps (refillLoop_keeps _ _) (refillLoop_moves hno _ _))
  · exact .refl s

theorem promotionPickerRun_tableStep (hno : ¬ stands) {t : State} (h : execPromotionPickerRun s = .next t) :
    TableStep stands lose s t := by
  obtain rfl := Host.Outcome.next.inj h
  split
  · next hrun =>
    have hactive : active s = true := (Bool.and_eq_true _ _ ▸ hrun).1
    refine .quiet_right (.quiet_left (t := { s with au := { s.au with runsOwed := s.au.runsOwed - 1 } })
      ⟨rfl, rfl, rfl, rfl⟩ (.of_runKeeps (promoteLoop_keeps _ _) ?_)) (.settleCredit _)
    exact promoteLoop_moves hactive hno _ _ rfl
  · exact .refl s

theorem selectOrder_tableStep (hno : ¬ stands) {q : QueueId} {w : Waiting} {b : Binding}
    (hb : bindingAt s.bt.slots w.order.slot = some b) : TableStep stands lose s (selectOrder s q w b) := by
  unfold selectOrder
  split
  · have hend : (endAtSelection s q w b).bt.n = s.bt.n ∧ (endAtSelection s q w b).bt.e = s.bt.e
        ∧ (endAtSelection s q w b).policy = s.policy ∧ (endAtSelection s q w b).mju.life = s.mju.life := by
      have hkeep := leaveOrder_keeps (s.setWaiting q (withoutFirstReady s q)) w.order.slot b false
      simp [endAtSelection, hkeep.n, hkeep.e, hkeep.policy, hkeep.mju]
    exact ⟨hend.1, hend.2.1, hend.2.2.1, hend.2.2.2, .single (endAtSelection_move (bindingAt_mem hb) hno)⟩
  · exact ⟨by simp [dispatchOrder], by simp [dispatchOrder], by simp [dispatchOrder], by simp [dispatchOrder],
      .single (dispatchOrder_move (bindingAt_mem hb) hno)⟩

theorem dispatch_tableStep (hno : ¬ stands) {t : State} (h : execDispatch s = .next t) : TableStep stands lose s t := by
  obtain rfl := Host.Outcome.next.inj h
  split
  · split
    · exact .refl s
    · split
      · exact .refl s
      · split
        · next w _ b hb => exact selectOrder_tableStep s hno hb
        · exact .refl s
  · exact .refl s

/-- `t` differs from `s` in the slots and the Candidate Table alone. -/
def State.OnlyHeat (s t : State) : Prop := ∃ slots ct, t = { s.withSlots slots with ct := ct }

theorem State.OnlyHeat.trans {s t u : State} (h : s.OnlyHeat t) (h' : t.OnlyHeat u) : s.OnlyHeat u := by
  obtain ⟨slots, ct, rfl⟩ := h
  obtain ⟨slots', ct', rfl⟩ := h'
  exact ⟨slots', ct', rfl⟩

theorem State.OnlyHeat.withRows (s : State) (rows : List (Nat × Row)) : s.OnlyHeat (s.withRows rows) :=
  ⟨s.bt.slots, { s.ct with rows := rows }, rfl⟩

theorem applyHeat_onlyHeat (x n : Nat) (acc : State × Bool) : acc.1.OnlyHeat (applyHeat x n acc).1 := by
  unfold applyHeat
  dsimp only
  split
  · next k b _ => exact ⟨tset acc.1.bt.slots k (.bound { b with heat := warmed b.heat n, idle := b.idle % 8 }), acc.1.ct, rfl⟩
  · split
    · exact .withRows _ _
    · exact ⟨acc.1.bt.slots, acc.1.ct, rfl⟩
    · split
      · exact .withRows _ _
      · exact ⟨acc.1.bt.slots, { acc.1.ct with untracked := min 65535 (acc.1.ct.untracked + 1) }, rfl⟩

theorem applyShares_onlyHeat (weight : Nat) (shares : List Share) (acc : State × Bool) :
    acc.1.OnlyHeat (shares.foldl (applyShare weight) acc).1 := by
  induction shares generalizing acc with
  | nil => exact ⟨acc.1.bt.slots, acc.1.ct, rfl⟩
  | cons sh shares ih => exact (applyHeat_onlyHeat _ _ acc).trans (ih _)

/-- An item changes the trackers, the bindings and rows it warms, the untracked count, and the runs owed. -/
theorem applyItem_eq (s : State) (item : AccessItem) :
    ∃ slots ct trackers owed, applyItem s item =
      { s.withSlots slots with
        ct := ct
        hu := { s.hu with trackers := trackers }
        au := { s.au with runsOwed := owed } } := by
  unfold applyItem
  split
  · exact ⟨s.bt.slots, s.ct, s.hu.trackers, s.au.runsOwed, rfl⟩
  · obtain ⟨slots, ct, heq⟩ := applyShares_onlyHeat
      (itemWeight item.kind item.served (isStreaming s.policy.streamThreshold (s.track item).hu.trackers))
      (sharesOf item.start item.count) (s.track item, false)
    dsimp only
    generalize List.foldl _ _ _ = done at heq ⊢
    obtain ⟨u, started⟩ := done
    obtain rfl : u = _ := heq
    cases hkind : item.kind <;> cases started <;>
      exact ⟨slots, ct, _, _, by simp only [State.track, hkind, State.startPickerIf]; rfl⟩

theorem takeItem_tableStep {t : State} (h : execTakeItem s = .next t) : TableStep stands lose s t := by
  obtain rfl := Host.Outcome.next.inj h
  unfold takeOneItem
  split
  · next hactive =>
    split
    · exact .refl s
    · next item rest _ =>
      have hdrop : s.Quiet (s.dropItem rest) := ⟨rfl, rfl, rfl, rfl⟩
      refine .quiet_left hdrop ?_
      have hmoves := applyItem_moves (s := s.dropItem rest) (c := (s.dropItem rest).rules stands lose) hactive rfl item
      obtain ⟨slots, ct, trackers, owed, heq⟩ := applyItem_eq (s.dropItem rest) item
      rw [heq] at hmoves ⊢
      exact ⟨rfl, rfl, rfl, rfl, hmoves⟩
  · exact .refl s

end

end Sys2Proof.Machine
end


section
/-! SUPPORT. The requests of ACTIVE as moves of the tables, and every command that goes on with the map it has. -/

namespace Sys2Proof.Machine

section
variable {stands : Prop} {lose : Nat → Nat → Nat → Prop} (s : State)

theorem answerOk_quiet (tag : Tag) (b : OkBody) : s.Quiet (s.answerOk tag b) := ⟨rfl, rfl, rfl, rfl⟩
theorem refer_quiet (f : Frame) (key : CondKey) (code : CondCode) (n : Nat) : s.Quiet (s.refer f key code n) :=
  ⟨rfl, rfl, rfl, rfl⟩
theorem reply_quiet (tag : Tag) (body : ReplyBody) : s.Quiet (s.reply tag body) := ⟨rfl, rfl, rfl, rfl⟩

/-- A change made whole and answered OK: the log, the lane and the condition record follow it. -/
theorem TableStep.made {t : State} (h : TableStep stands lose s t) (before : List (Nat × Slot)) (ks : List Nat)
    (tag : Tag) (b : OkBody) : TableStep stands lose s ((t.logChange before ks).answerOk tag b) :=
  (h.quiet_right (logChange_quiet t before ks)).quiet_right (answerOk_quiet _ tag b)

theorem range_of_inRange {e : Nat} {f : Frame} (h : ¬ outOfRange e (rangeStart f) (rangeCount f) = true) :
    0 < clampedCount (rangeCount f) ∧ rangeStart f + clampedCount (rangeCount f) ≤ e * 64 := by
  obtain ⟨hc, hle⟩ := (outOfRange_eq_false _ _ _).mp (Bool.eq_false_iff.mpr h)
  simp only [clampedCount]
  omega

/-- A request over a block range whose service moves the tables. -/
theorem serveRange_tableStep {serve : Nat → Nat → Frame → State → State} (f : Frame)
    (hserve : 0 < clampedCount (rangeCount f) → rangeStart f + clampedCount (rangeCount f) ≤ s.bt.e * 64 →
      TableStep stands lose s (serve (rangeStart f) (clampedCount (rangeCount f)) f s)) :
    TableStep stands lose s (serveRange serve f s) := by
  unfold serveRange
  split
  · exact .of_quiet (refer_quiet s _ _ _ _)
  · next h =>
    obtain ⟨hc, hle⟩ := range_of_inRange h
    exact hserve hc hle

theorem servePlanWrite_tableStep (hactive : active s = true) {start count : Nat} (hc : 0 < count)
    (hle : start + count ≤ s.bt.e * 64) (f : Frame) :
    TableStep stands lose s (servePlanWrite start count f s) := by
  unfold servePlanWrite
  split
  · exact .of_quiet (reply_quiet s _ _)
  · next p hp =>
    split
    · have hmoves : Moves (s.rules stands lose) s.tables p.tables := planOf_moves hactive rfl hc hle hp
      have hmade : TableStep stands lose s ((s.withSlots p.slots).withRows p.rows) := ⟨rfl, rfl, rfl, rfl, hmoves⟩
      exact TableStep.made s hmade _ _ _ _
    · exact .of_quiet (reply_quiet s _ _)

theorem serveDiscard_tableStep {start count : Nat} (hc : 0 < count)
    (hlose : ∀ k x o, o < 64 → start ≤ 64 * x + o → 64 * x + o < start + count → lose k x o) (f : Frame) :
    TableStep stands lose s (serveDiscard start count f s) := by
  have hmoves : TableStep stands lose s ((sharesOf start count).foldl discardShare ⟨s, [], false, false⟩).state := by
    refine .of_onlySlots (discardShares_onlySlots (sharesOf start count) ⟨s, [], false, false⟩)
      (discardShares_moves ⟨s, [], false, false⟩ fun sh hsh k o ho => ?_)
    obtain ⟨x, h1, h2, rfl⟩ := (mem_sharesOf_pos hc).mp hsh
    have ho64 : o < 64 := by
      by_contra hge
      simp [BitVec.getLsbD_of_ge _ _ (Nat.le_of_not_lt hge)] at ho
    obtain ⟨hlo, hhi⟩ := (Share.getLsbD_blocks hc h1 h2 ho64).mp ho
    exact hlose k x o ho64 hlo hhi
  unfold serveDiscard
  dsimp only
  split
  · exact TableStep.made s (hmoves.quiet_right (by constructor <;> simp)) _ _ _ _
  · exact .of_quiet (reply_quiet s _ _)

/-- A request of an owner whose service moves the tables. -/
theorem checkOwner_tableStep {serve : Frame → State → State} (f : Frame)
    (hserve : TableStep stands lose s (serve f s)) : TableStep stands lose s (checkOwner serve f s) := by
  unfold checkOwner
  split
  · exact .of_quiet (refer_quiet s _ _ _ _)
  · split
    · exact .of_quiet (refer_quiet s _ _ _ _)
    · split
      · exact .of_quiet ⟨rfl, rfl, rfl, rfl⟩
      · exact hserve

theorem servePin_tableStep (hactive : active s = true) (f : Frame) : TableStep stands lose s (servePin f s) := by
  unfold servePin
  split
  · exact .of_quiet (refer_quiet s _ _ _ _)
  · split
    · exact .of_quiet (refer_quiet s _ _ _ _)
    · next hle =>
      unfold makePin
      dsimp only
      split
      · have hmoves : Moves (s.rules stands lose) s.tables (pinPlan s (pinOwner f) (pinFirst f) (pinCount f)).tables :=
          pinPlan_moves hactive rfl rfl (Nat.le_of_not_lt hle)
        have hmade : TableStep stands lose s (((s.withSlots (pinPlan s (pinOwner f) (pinFirst f) (pinCount f)).slots).withRows
            (pinPlan s (pinOwner f) (pinFirst f) (pinCount f)).rows).startScan) := ⟨rfl, rfl, rfl, rfl, hmoves⟩
        exact TableStep.made s hmade _ _ _ _
      · exact .of_quiet (reply_quiet s _ _)

theorem makeUnpin_tableStep (ks : List Nat) (f : Frame) : TableStep stands lose s (makeUnpin ks f s) := by
  have hmoves : TableStep stands lose s (ks.foldl (unpinSlot (pinOwner f)) ⟨s, false⟩).state :=
    .of_onlySlots (unpinSlots_onlySlots _ ks ⟨s, false⟩) (unpinSlots_moves _ ks ⟨s, false⟩)
  unfold makeUnpin
  dsimp only
  split
  · exact TableStep.made s (hmoves.quiet_right (by constructor <;> simp)) _ _ _ _
  · exact .of_quiet (reply_quiet s _ _)

theorem serveUnpin_tableStep (f : Frame) : TableStep stands lose s (serveUnpin f s) := by
  unfold serveUnpin
  split
  · exact .of_quiet (refer_quiet s _ _ _ _)
  · exact makeUnpin_tableStep s _ f

theorem serveComplete_tableStep (hactive : active s = true) (hno : ¬ stands) (f : Frame)
    (hlose : ∀ i b code k x o, completionOf (fieldAt f.body 2 1) = some code →
      issuedWith s.ou.issued (completeTag f) = some i → bindingAt s.bt.slots i.order.slot = some b →
      DrainLoses i b code (completeCopied f) k x o → lose k x o) :
    TableStep stands lose s (serveComplete f s) := by
  unfold serveComplete
  split
  · exact .of_quiet (refer_quiet s _ _ _ _)
  · next code hcode =>
    split
    · exact .of_quiet (refer_quiet s _ _ _ _)
    · next i hi =>
      split
      · exact .of_quiet (refer_quiet s _ _ _ _)
      · next b hb =>
        have hmove : TableStep stands lose s (completeOrder s i b code (completeCopied f)) :=
          .quiet_left (t := s.dropIssued i.tag) ⟨rfl, rfl, rfl, rfl⟩
            (.of_endKeeps (completeOrder_keeps s i b code _) (.single (completeOrder_move (bindingAt_mem hb) hno hactive
              code _ fun k x o h => hlose i b code k x o hcode hi hb h)))
        unfold acceptCompletion
        dsimp only
        split
        · exact TableStep.made s hmove _ _ _ _
        · exact .of_quiet (reply_quiet s _ _)

theorem warmRetirements_mem {slots : List (Nat × Slot)} {kb : Nat × Binding} (h : kb ∈ warmRetirements slots) :
    kb ∈ bindingsOf slots ∧ kb.2.state = .held ∧ 2 ≤ kb.2.strikes ∧ kb.2.dirty = 0#64 := by
  simpa [warmRetirements, and_assoc] using h

theorem bindingsOf_nodup {slots : List (Nat × Slot)} (h : tsorted slots = true) :
    ((bindingsOf slots).map Prod.fst).Nodup :=
  List.pairwise_map.mpr ((bindingsOf_pairwise h).imp fun hlt => hlt.ne)

theorem warmRetirements_nodup {slots : List (Nat × Slot)} (h : tsorted slots = true) :
    ((warmRetirements slots).map Prod.fst).Nodup :=
  (bindingsOf_nodup h).sublist (List.filter_sublist.map _)

theorem serveResetWarm_tableStep (hno : ¬ stands) (hs : tsorted s.bt.slots = true) (f : Frame) :
    TableStep stands lose s (serveResetWarm f s) := by
  unfold serveResetWarm
  split
  · split
    · have hwarm : TableStep stands lose s (warmState s) := ⟨rfl, rfl, rfl, rfl, .single (warmState_move s hno)⟩
      have hgone : TableStep stands lose (warmState s)
          ((warmRetirements (warmState s).bt.slots).foldl (fun t kb => t.retire kb.1 kb.2) (warmState s)) :=
        .of_onlySlots (.foldl (fun t (kb : Nat × Binding) => .retire t kb.1 kb.2) _ _) (retireAll_moves _ hno _
          (warmRetirements_nodup (tsorted_filterMap hs Slot.warm)) fun kb hkb =>
            ⟨(warmRetirements_mem hkb).1, (warmRetirements_mem hkb).2.2.2⟩)
      have hend : TableStep stands lose s (warmEnd (warmState s)) :=
        (hwarm.trans hgone).quiet_right ⟨rfl, rfl, rfl, rfl⟩
      exact hend.quiet_right (answerOk_quiet _ _ _)
    · exact .of_quiet (refer_quiet s _ _ _ _)
    · exact .of_quiet (refer_quiet s _ _ _ _)
  · exact .of_quiet (refer_quiet s _ _ _ _)

end

/-! ### Every command that goes on with the map it has -/

/-- What a command may lose of the dirty blocks: a DISCARD those of its range, a COMPLETE those its drain has copied. -/
def State.mayLose (s : State) (c : Instr) (k x o : Nat) : Prop :=
  (c = .discard ∧ ∃ f rest, s.lif.intake = f :: rest
    ∧ fieldAt f.body 0 4 ≤ 64 * x + o ∧ 64 * x + o < fieldAt f.body 0 4 + min 256 (fieldAt f.body 4 2))
  ∨ (c = .complete ∧ ∃ f rest i b, s.lif.intake = f :: rest
    ∧ issuedWith s.ou.issued (BitVec.ofNat 16 (fieldAt f.body 0 2)) = some i ∧ i.order.queue = .drain
    ∧ i.order.slot = k ∧ bindingAt s.bt.slots k = some b ∧ i.blocks.getLsbD o = true
    ∧ (b.redirtied.getD 0#64).getLsbD o = false
    ∧ (fieldAt f.body 2 1 = 0 ∨ (BitVec.ofNat 64 (fieldAt f.body 3 8)).getLsbD o = true))

/-- The commands that open, import or empty the map, or set the policy. -/
def remaps : Instr → Bool
  | .powerOn | .resetLine | .resetCold | .attach | .importBegin | .importPut | .importEnd | .policy => true
  | _ => false

/-- The commands that may change an order or the state of a slot that has one. -/
def movesOrders : Instr → Bool
  | .orderTimeout _ | .drainPickerRun | .promotionPickerRun | .refillScan | .dispatch | .complete | .resetWarm => true
  | _ => false

theorem completionOf_eq_done {v : Nat} (h : completionOf v = some .done) : v = 0 := by
  unfold completionOf at h
  split at h <;> simp_all

theorem mayLose_of_drainLoses {s : State} {f : Frame} {rest : List Frame} (hi : s.lif.intake = f :: rest) {i : Issued}
    {b : Binding} {code : CompletionCode} {k x o : Nat} (hcode : completionOf (fieldAt f.body 2 1) = some code)
    (hissued : issuedWith s.ou.issued (completeTag f) = some i) (hb : bindingAt s.bt.slots i.order.slot = some b)
    (h : DrainLoses i b code (completeCopied f) k x o) : s.mayLose .complete k x o := by
  obtain ⟨hq, rfl, rfl, hcopied, hredirtied⟩ := h
  refine .inr ⟨rfl, f, rest, i, b, hi, hissued, hq, rfl, hb, ?_, hredirtied, ?_⟩ <;> unfold copiedWithin at hcopied
  · split at hcopied
    · exact hcopied
    · simp_all
  · split at hcopied
    · next hdone => exact .inl (completionOf_eq_done (hdone ▸ hcode))
    · right; simp_all [completeCopied]

section
variable (s : State)

/-- The commands that leave the map, the policy and the lifecycle as they are. -/
def leavesMap : Instr → Bool
  | .backoffEnd _ | .deltaDelayExpiry | .spinUpCadence | .mainsCadence | .restAdvice
  | .pullByte _ | .badFrame _ | .requestIntake _ | .access _ | .platter _ | .supply _
  | .exportMap | .sync | .lookup | .skipOn | .skipOff | .resume | .drainAll
  | .status | .condition | .faults | .faultsClear | .unknownKindRequest
  | .sendReply | .sendOrder | .delta | .exportData | .exportEnd | .sendAdvice => true
  | _ => false

theorem receiveNotice_calm {kind : Byte} {serve : Frame → State → State} (bytes : List Byte)
    (h : ∀ f (u : State), u.Calm (serve f u)) : s.Calm (receiveNotice kind serve bytes s) := by
  rcases receiveNotice_cases kind serve bytes s with heq | ⟨held, -, heq⟩ | ⟨f, rest, -, -, heq⟩ <;> rw [heq]
  · exact .refl s
  · exact .of_view rfl
  · exact State.Calm.trans (t := s.withRx rest) (.of_view rfl) (h f _)

theorem request_calm {row : RequestRow} {serve : Frame → State → State}
    (h : ∀ f (u : State), u.Calm (serve f u)) : s.Calm (takeRequest row serve s) :=
  takeRequest_induction (R := State.Calm) (.refl s) (fun _ _ _ _ _ hf => (State.Calm.onlyLink s hf).trans (.of_view rfl))
    fun _ f _ hf _ _ _ _ => (State.Calm.onlyLink s hf).trans (h f _)

theorem takeAccess_calm (f : Frame) : s.Calm (takeAccess f s) := by
  have hoffer : ∀ (u : State) item, u.Calm (offerItem u item) := fun u item => by
    unfold offerItem
    split
    · exact .withHeat fun h => ⟨h.intake, Nat.min_le_left _ _, h.trackers, h.wheel⟩
    · split
      · next hroom => exact .withHeat fun h => ⟨by simpa using hroom, h.lapseCount, h.trackers, h.wheel⟩
      · exact State.Calm.trans (t := { u with hu := { u.hu with lapse := true, lapseCount := min 65535 (u.hu.lapseCount + 1) } })
          (.withHeat fun h => ⟨h.intake, Nat.min_le_left _ _, h.trackers, h.wheel⟩) (.recordFault _ _ _)
  unfold takeAccess
  split
  · split
    · split
      · exact .foldl hoffer _ s
      · exact .recordFault s _ _
    · exact .refl s
  · exact .recordFault s _ _

theorem takePlatter_calm (f : Frame) : s.Calm (takePlatter f s) := by
  have hleave : ∀ u : State, u.Calm (leaveReady u) := fun u => by
    unfold leaveReady
    dsimp only
    split <;> exact .of_view rfl
  unfold takePlatter
  split
  · split
    · next p _ =>
      unfold recordPlatter
      dsimp only
      split
      · exact .refl s
      · split
        · split
          · exact .of_view rfl
          · split
            · exact State.Calm.trans (t := { s with psm := { s.psm with platter := p } }) (.of_view rfl) (hleave _)
            · exact .of_view rfl
        · exact .of_view rfl
    · exact .recordFault s _ _
  · exact .recordFault s _ _

theorem takeSupply_calm (f : Frame) : s.Calm (takeSupply f s) := by
  unfold takeSupply
  split
  · split
    · exact .of_view rfl
    · exact .recordFault s _ _
  · exact .recordFault s _ _

theorem lowerMark_calm (sent : Nat) : s.Calm (s.lowerMark sent) := by
  unfold State.lowerMark
  split
  · exact .refl s
  · split <;> exact .of_view rfl

theorem sendDelta_calm : s.Calm (sendDelta s) :=
  State.Calm.trans (t := { s with mju := { s.mju with log := s.mju.log.drop 16 } }) (.withLog (List.drop_suffix _ _))
    ((lowerMark_calm _ _).trans (.of_view rfl))

theorem sendExportData_calm (x : Exporting) : s.Calm (sendExportData s x) := by
  unfold sendExportData
  split <;> exact .of_view rfl

theorem spinUpTest_calm (stage : HoldStage) : s.Calm (spinUpTest s stage) := by
  unfold spinUpTest
  split
  · exact .of_view rfl
  · split
    · exact .of_view rfl
    · split
      · split <;> exact .of_view rfl
      · exact .of_view rfl

theorem mainsTest_calm : s.Calm (mainsTest s) := by
  unfold mainsTest
  split
  · split
    · exact .of_view rfl
    · split <;> exact .of_view rfl
  · exact .of_view rfl

theorem restTest_calm : s.Calm (restTest s) := by
  unfold restTest
  split <;> exact .of_view rfl

theorem queueControl_calm {act : QueueId → State → State} (h : ∀ q (u : State), u.Calm (act q u)) (f : Frame) :
    s.Calm (serveQueueControl act f s) := by
  unfold serveQueueControl
  split
  · exact .of_view rfl
  · split
    · exact .of_view rfl
    · exact (h _ s).trans (.of_view rfl)

theorem setSkip_calm (q : QueueId) (k : Bool) : s.Calm (s.setSkip q k) := by cases q <;> exact .of_view rfl

theorem resumeQueue_calm (q : QueueId) (u : State) : u.Calm (resumeQueue q u) := by
  cases q <;> exact .of_view rfl

theorem ordersIn_endBackoff (now : Time) (k : Nat) (ws : List Waiting) :
    (endBackoff now k ws).map Waiting.order = ws.map Waiting.order := by
  rw [endBackoff, List.map_map]
  refine List.map_congr_left fun w _ => ?_
  simp only [Function.comp_apply]
  split
  · split <;> rfl
  · rfl

theorem serveStatus_calm (f : Frame) : s.Calm (serveStatus f s) :=
  { State.Calm.refl s with
    untracked := Nat.zero_le _
    hu := fun h => ⟨h.intake, Nat.zero_le _, h.trackers, h.wheel⟩
    cfu := fun h => ⟨h.faults, h.overflow, h.nodup⟩ }

theorem serveFaultsClear_calm (f : Frame) : s.Calm (serveFaultsClear f s) :=
  { State.Calm.refl s with cfu := fun _ => ⟨Nat.zero_le _, Nat.zero_le _, List.nodup_nil⟩ }

theorem exec_calm {c : Instr} {t : State} (hc : leavesMap c = true) (h : exec c s = .next t) : s.Calm t := by
  cases c with
  | backoffEnd slot =>
    obtain rfl := Host.Outcome.next.inj h
    split
    · refine .of_view ?_
      simp only [State.view, Prod.mk.injEq]
      refine ⟨rfl, rfl, rfl, rfl, rfl, rfl, rfl, rfl, rfl, ?_, rfl, rfl⟩
      exact Prod.ext (ordersIn_endBackoff _ _ _) (Prod.ext (ordersIn_endBackoff _ _ _)
        (Prod.ext (ordersIn_endBackoff _ _ _) rfl))
    · exact .refl s
  | deltaDelayExpiry =>
    obtain rfl := Host.Outcome.next.inj h
    split
    · exact State.Calm.trans (t := s.askDelta) (.of_view rfl) (.settleCredit _)
    · exact .refl s
  | spinUpCadence =>
    obtain rfl := Host.Outcome.next.inj h
    split
    · exact State.Calm.trans (t := { s with psm := { s.psm with spinUpDue := false } }) (.of_view rfl)
        (spinUpTest_calm _ _)
    · exact .refl s
  | mainsCadence =>
    obtain rfl := Host.Outcome.next.inj h
    split
    · exact State.Calm.trans (t := { s with psm := { s.psm with mainsDue := false } }) (.of_view rfl)
        (mainsTest_calm _)
    · exact .refl s
  | restAdvice =>
    obtain rfl := Host.Outcome.next.inj h
    split
    · exact State.Calm.trans (t := { s with psm := { s.psm with restDue := false } }) (.of_view rfl)
        (restTest_calm _)
    · exact .refl s
  | pullByte bytes =>
    obtain rfl := Host.Outcome.next.inj h
    split
    · unfold takePull; split <;> exact .of_view rfl
    · exact .of_view rfl
    · exact .refl s
    · exact .refl s
  | badFrame bytes =>
    obtain rfl := Host.Outcome.next.inj h
    split
    · next rest _ => exact State.Calm.trans (t := s.withRx rest) (.of_view rfl) (.recordFault _ _ _)
    · exact .of_view rfl
    · exact .refl s
    · exact .refl s
  | requestIntake bytes =>
    obtain rfl := Host.Outcome.next.inj h
    split
    · next f rest _ =>
      by_cases hnotice : isNotice f.kind = true
      · rw [if_pos hnotice]; exact .refl s
      · rw [if_neg hnotice]
        refine State.Calm.trans (t := s.withRx rest) (.of_view rfl) ?_
        unfold offerRequest
        split
        · exact .of_view rfl
        · exact .recordFault _ _ _
    · exact .of_view rfl
    · exact .refl s
    · exact .refl s
  | access bytes => obtain rfl := Host.Outcome.next.inj h; exact receiveNotice_calm s bytes fun f u => takeAccess_calm u f
  | platter bytes => obtain rfl := Host.Outcome.next.inj h; exact receiveNotice_calm s bytes fun f u => takePlatter_calm u f
  | supply bytes => obtain rfl := Host.Outcome.next.inj h; exact receiveNotice_calm s bytes fun f u => takeSupply_calm u f
  | exportMap =>
    obtain rfl := Host.Outcome.next.inj h
    exact request_calm s fun f u => by unfold serveExport; split <;> exact .of_view rfl
  | sync =>
    obtain rfl := Host.Outcome.next.inj h
    exact request_calm s fun f u => by unfold serveSync; split <;> exact .of_view rfl
  | lookup =>
    obtain rfl := Host.Outcome.next.inj h
    exact request_calm s fun f u => by unfold serveRange; split <;> exact .of_view rfl
  | skipOn =>
    obtain rfl := Host.Outcome.next.inj h
    exact request_calm s fun f u => queueControl_calm u (act := fun q t => t.setSkip q true) (fun q u => setSkip_calm u q true) f
  | skipOff =>
    obtain rfl := Host.Outcome.next.inj h
    exact request_calm s fun f u => queueControl_calm u (act := fun q t => t.setSkip q false) (fun q u => setSkip_calm u q false) f
  | resume =>
    obtain rfl := Host.Outcome.next.inj h
    exact request_calm s fun f u => queueControl_calm u resumeQueue_calm f
  | drainAll =>
    obtain rfl := Host.Outcome.next.inj h
    exact request_calm s fun f u => by unfold serveDrainAll; split <;> exact .of_view rfl
  | status => obtain rfl := Host.Outcome.next.inj h; exact request_calm s fun f u => serveStatus_calm u f
  | condition => obtain rfl := Host.Outcome.next.inj h; exact request_calm s fun f u => .of_view rfl
  | faults => obtain rfl := Host.Outcome.next.inj h; exact request_calm s fun f u => .of_view rfl
  | faultsClear => obtain rfl := Host.Outcome.next.inj h; exact request_calm s fun f u => serveFaultsClear_calm u f
  | unknownKindRequest => obtain rfl := Host.Outcome.next.inj h; exact request_calm s fun f u => .of_view rfl
  | sendReply =>
    obtain rfl := Host.Outcome.next.inj h
    split
    · split
      · exact .of_view rfl
      · exact .refl s
    · exact .frameEnd s
  | sendOrder =>
    obtain rfl := Host.Outcome.next.inj h
    split
    · split
      · next o rest hframes =>
        exact State.Calm.trans (.withFrames (by rw [hframes]; exact List.sublist_cons_self o rest)) (.of_view rfl)
      · exact .refl s
    · exact .frameEnd s
  | delta =>
    obtain rfl := Host.Outcome.next.inj h
    split
    · split
      · exact .refl s
      · exact sendDelta_calm s
    · exact .frameEnd s
  | exportData =>
    obtain rfl := Host.Outcome.next.inj h
    split
    · split
      · split
        · exact sendExportData_calm s _
        · exact .refl s
      · exact .refl s
    · exact .frameEnd s
  | exportEnd =>
    obtain rfl := Host.Outcome.next.inj h
    split
    · split
      · split
        · exact .of_view rfl
        · exact .refl s
      · exact .refl s
    · exact .frameEnd s
  | sendAdvice =>
    obtain rfl := Host.Outcome.next.inj h
    split
    · split
      · exact .of_view rfl
      · exact .refl s
    · exact .frameEnd s
  | _ => cases hc

theorem true_ne_false : ¬ (true = false) := by decide

/-- Every command but those that open, import or empty the map or set the policy moves the tables, and leaves every order as
it stands unless it is one of the runs and ends of orders. -/
theorem exec_tableStep {c : Instr} {t : State} (hc : remaps c = false) (hs : c = .resetWarm → tsorted s.bt.slots = true)
    (h : exec c s = .next t) : TableStep (movesOrders c = false) (s.mayLose c) s t := by
  have hactive : ∀ {row : RequestRow} {lif : Link}, phaseRefusal row s.mju.life = none →
      row ∈ [RequestRow.exportMap, .sync, .lookup, .planWrite, .discard, .pin, .unpin, .unpinAll, .complete, .skipOn,
        .skipOff, .resume, .drainAll] → active ({ s with lif := lif } : State) = true :=
    fun hp hrow => active_of_phaseRefusal (s := s) hp hrow
  by_cases hquiet : leavesMap c = true
  · exact .of_quiet (exec_calm s hquiet h).toQuiet
  cases c with
  | secondsAdvance => obtain rfl := Host.Outcome.next.inj h; exact secondsAdvance_tableStep s
  | rowExpiry row => exact rowExpiry_tableStep s h
  | barEnd row => exact barEnd_tableStep s h
  | orderTimeout tag => exact orderTimeout_tableStep s true_ne_false h
  | drainPickerRun => exact drainPickerRun_tableStep s true_ne_false h
  | promotionPickerRun => exact promotionPickerRun_tableStep s true_ne_false h
  | refillScan => exact refillScan_tableStep s true_ne_false h
  | dispatch => exact dispatch_tableStep s true_ne_false h
  | takeItem => exact takeItem_tableStep s h
  | planWrite =>
    obtain rfl := Host.Outcome.next.inj h
    exact .request fun lif f rest _ _ hp _ => serveRange_tableStep _ f fun hcount hle =>
      servePlanWrite_tableStep _ (hactive hp (by decide)) hcount hle f
  | discard =>
    obtain rfl := Host.Outcome.next.inj h
    refine .request fun lif f rest hi _ _ _ => serveRange_tableStep _ f fun hcount _ =>
      serveDiscard_tableStep _ hcount (fun k x o _ hlo hhi => ?_) f
    exact .inl ⟨rfl, f, rest, hi, hlo, hhi⟩
  | pin =>
    obtain rfl := Host.Outcome.next.inj h
    exact .request fun lif f rest _ _ hp _ => checkOwner_tableStep _ f (servePin_tableStep _ (hactive hp (by decide)) f)
  | unpin =>
    obtain rfl := Host.Outcome.next.inj h
    exact .request fun lif f rest _ _ _ _ => checkOwner_tableStep _ f (serveUnpin_tableStep _ f)
  | unpinAll =>
    obtain rfl := Host.Outcome.next.inj h
    exact .request fun lif f rest _ _ _ _ => checkOwner_tableStep _ f (makeUnpin_tableStep _ _ f)
  | complete =>
    obtain rfl := Host.Outcome.next.inj h
    exact .request fun lif f rest hi _ hp _ => serveComplete_tableStep _ (hactive hp (by decide))
      true_ne_false f fun i b code k x o hcode hissued hb hl => mayLose_of_drainLoses hi hcode hissued hb hl
  | resetWarm =>
    obtain rfl := Host.Outcome.next.inj h
    exact .request fun lif f rest _ _ _ _ => serveResetWarm_tableStep { s with lif := lif } true_ne_false (hs rfl) f
  | _ => simp_all [leavesMap, remaps]

end

end Sys2Proof.Machine
end


section
/-! SUPPORT. The commands that open, import or empty the map or set the policy, and the laws of the tables over every step:
the obligations on bindings, the map, the policy and lost blocks. -/

namespace Sys2Proof.Machine

/-! ### A law of the map over every command -/

/-- What a law of the map, the policy and the lifecycle needs for every command to keep it. -/
structure MapLawKept (P : State → Prop) (s : State) : Prop where
  calm : ∀ {u v : State}, u.Calm v → P u → P v
  powerOn : P (powerOnState s)
  cold : ∀ {u}, s.Calm u → P (coldState u)
  opened : ∀ {u} f, s.Calm u → u.mju.life = .unbound → P (becomeActive (openMap f u))
  importing : ∀ {u : State} f, s.Calm u → u.mju.life = .unbound →
    P { openMap f u with mju := { u.mju with life := .importing, accepted := 0, rejected := 0 } }
  record : ∀ {u} bytes, u.mju.life = .importing → P u → P (importRecord u (recordOfBytes bytes))
  commit : ∀ {u}, u.mju.life = .importing → P u → P (commitImport u)
  drop : ∀ {u}, u.mju.life = .importing → P u → P (dropImport u)
  pair : ∀ {u} pair, P u → P (applyPair u pair)

section
variable {P : State → Prop} {s : State}

theorem answerOk_calm (s : State) (tag : Tag) (b : OkBody) : s.Calm (s.answerOk tag b) := .of_view rfl

theorem refer_calm (s : State) (f : Frame) (key : CondKey) (code : CondCode) (n : Nat) : s.Calm (s.refer f key code n) :=
  .of_view rfl

theorem importRecord_life (u : State) (r : Record) : (importRecord u r).mju.life = u.mju.life := by
  unfold importRecord
  split <;> rfl

theorem importRecords_law (hP : MapLawKept P s) (bodies : List (List Byte)) {u : State} (hl : u.mju.life = .importing)
    (hu : P u) : P ((bodies.map recordOfBytes).foldl importRecord u) := by
  induction bodies generalizing u with
  | nil => exact hu
  | cons body bodies ih => exact ih ((importRecord_life u _).trans hl) (hP.record body hl hu)

theorem applyPairs_law (hP : MapLawKept P s) (pairs : List (Nat × Nat)) {u : State} (hu : P u) :
    P (pairs.foldl applyPair u) := by
  induction pairs generalizing u with
  | nil => exact hu
  | cons pair pairs ih => exact ih (hP.pair pair hu)

theorem importing_of_phaseRefusal {row : RequestRow} {life : Lifecycle} (h : phaseRefusal row life = none)
    (hrow : row = .importPut ∨ row = .importEnd) : life = .importing := by
  rcases hrow with rfl | rfl <;> cases life <;> simp_all [phaseRefusal]

theorem unbound_of_phaseRefusal {row : RequestRow} {life : Lifecycle} (h : phaseRefusal row life = none)
    (hrow : row = .attach ∨ row = .importBegin) : life = .unbound := by
  rcases hrow with rfl | rfl <;> cases life <;> simp_all [phaseRefusal]

/-- A law that the moves of the tables keep, and these commands, is kept by every command. -/
theorem MapLawKept.exec (hP : MapLawKept P s) {c : Instr} {t : State} (h : exec c s = .next t) (hs : P s)
    (hmoves : remaps c = false → P t) : P t := by
  have request : ∀ {row serve}, (∀ lif f, s.Calm { s with lif := lif } → phaseRefusal row s.mju.life = none →
      P (serve f { s with lif := lif })) → P (takeRequest row serve s) := fun hserve =>
    takeRequest_induction (R := fun _ v => P v) hs
      (fun lif f key code n hframes => hP.calm ((State.Calm.onlyLink s hframes).trans (refer_calm _ f key code n)) hs)
      fun lif f _ hframes _ _ hp _ => hserve lif f (.onlyLink s hframes) hp
  cases c with
  | powerOn => obtain rfl := Host.Outcome.next.inj h; exact hP.powerOn
  | resetLine => obtain rfl := Host.Outcome.next.inj h; exact hP.powerOn
  | resetCold =>
    obtain rfl := Host.Outcome.next.inj h
    exact request fun lif f hc _ => hP.calm (answerOk_calm _ _ _) (hP.cold hc)
  | attach =>
    obtain rfl := Host.Outcome.next.inj h
    refine request fun lif f hc hp => hP.calm (u := becomeActive (openMap f { s with lif := lif })) ?_
      (hP.opened f hc (unbound_of_phaseRefusal hp (.inl rfl)))
    exact .of_view rfl
  | importBegin =>
    obtain rfl := Host.Outcome.next.inj h
    exact request fun lif f hc hp => hP.calm (answerOk_calm _ _ _)
      (hP.importing f hc (unbound_of_phaseRefusal hp (.inr rfl)))
  | importPut =>
    obtain rfl := Host.Outcome.next.inj h
    exact request fun lif f hc hp => hP.calm (answerOk_calm _ _ _)
      (importRecords_law hP _ (importing_of_phaseRefusal hp (.inl rfl)) (hP.calm hc hs))
  | importEnd =>
    obtain rfl := Host.Outcome.next.inj h
    refine request fun lif f hc hp => ?_
    have hl := importing_of_phaseRefusal hp (.inr rfl)
    have hu : P { s with lif := lif } := hP.calm hc hs
    unfold serveImportEnd
    dsimp only
    split
    · exact hP.calm (answerOk_calm _ _ _) (hP.commit hl hu)
    · exact hP.calm (refer_calm _ _ _ _ _) (hP.drop hl hu)
  | policy =>
    obtain rfl := Host.Outcome.next.inj h
    refine request fun lif f hc _ => ?_
    have hu : P { s with lif := lif } := hP.calm hc hs
    unfold servePolicy
    split
    · exact hP.calm (refer_calm _ _ _ _ _) hu
    · exact hP.calm (answerOk_calm _ _ _) (applyPairs_law hP _ hu)
  | _ => exact hmoves rfl

end

/-- What one step is: the command at the front of the queue, or the last byte of a frame, or nothing. -/
theorem step_cases {s t : State} (h : step s = .next t) :
    (∃ c rest, s.pending = c :: rest ∧ exec c { s with pending := rest } = .next t) ∨ t = s.finishFrame ∨ t = s := by
  unfold step at h
  cases hp : s.pending with
  | cons c rest => rw [hp] at h; exact .inl ⟨c, rest, rfl, h⟩
  | nil =>
    rw [hp] at h
    obtain rfl := Host.Outcome.next.inj h
    right
    split
    · exact .inl rfl
    · exact .inr rfl

/-- A step of the tables' laws: a quiet one, or that of a command. -/
theorem step_law {P : State → Prop} (hquiet : ∀ {u v : State}, u.Quiet v → P u → P v)
    (hexec : ∀ (s t : State) c, P s → exec c s = .next t → P t) {s t : State} (hs : P s) (h : step s = .next t) : P t := by
  rcases step_cases h with ⟨c, rest, -, hexec'⟩ | rfl | rfl
  · exact hexec _ t c (hquiet (u := s) (v := { s with pending := rest }) ⟨rfl, rfl, rfl, rfl⟩ hs) hexec'
  · exact hquiet (.finishFrame s) hs
  · exact hs

/-! ### The law of bindings -/

theorem bindingLaw_quiet {u v : State} (h : u.Quiet v) (hu : bindingLaw u = true) : bindingLaw v = true := by
  rw [bindingLaw_iff] at hu ⊢
  rw [h.active, h.rows, h.bt]
  exact hu

theorem recordOfBytes_bounds (bytes : List Byte) :
    (recordOfBytes bytes).heat ≤ 4095 ∧ (recordOfBytes bytes).strikes ≤ 2 :=
  ⟨Nat.min_le_left _ _, Nat.min_le_left _ _⟩

/-- The binding of an accepted record is lawful while IMPORTING (R4, R19). -/
theorem importedBinding_lawful {r : Record} (hsub : BlockSet.subset r.dirty r.valid = true) (hheat : r.heat ≤ 4095)
    (hstrikes : r.strikes ≤ 2) : (importedBinding r).Lawful false where
  dirty_valid := (BlockSet.subset_iff _ _).mp hsub
  overtaken_valid := by simp [importedBinding]
  redirtied_dirty := by simp [importedBinding]
  heat_le := hheat
  idle_le := Nat.zero_le _
  strikes_le := by
    show (if _ then 2 else r.strikes) ≤ 2
    split
    · exact le_rfl
    · exact hstrikes
  dirtySince_iff := by simp [importedBinding]

theorem recordRejected_eq_false {bt : BindingTable} {r : Record} (h : recordRejected bt r = false) :
    r.slot < bt.n ∧ r.pstate ≤ 2 ∧ (r.pstate = 1 → r.extent < bt.e) ∧ BlockSet.subset r.dirty r.valid = true
      ∧ (bindsExtent r = true → heldElsewhere bt.slots r = false) := by
  simp only [recordRejected, Bool.or_eq_false_iff, Bool.and_eq_false_iff, decide_eq_false_iff_not,
    Bool.not_eq_false'] at h
  obtain ⟨⟨⟨⟨h1, h2⟩, h3⟩, h4⟩, h5⟩ := h
  refine ⟨by omega, by omega, fun hp => ?_, h4, fun hb => ?_⟩
  · rcases h3 with h3 | h3
    · exact absurd hp h3
    · omega
  · rcases h5 with h5 | h5
    · simp [hb] at h5
    · exact h5

theorem importRecord_lawful {u : State} (bytes : List Byte) (hl : u.mju.life = .importing) (hu : bindingLaw u = true) :
    bindingLaw (importRecord u (recordOfBytes bytes)) = true := by
  have hactive : active u = false := by simp [active, hl]
  obtain ⟨hheat, hstrikes⟩ := recordOfBytes_bounds bytes
  revert hheat hstrikes
  generalize recordOfBytes bytes = r
  intro hheat hstrikes
  rw [bindingLaw_iff] at hu
  unfold importRecord
  split
  · exact (bindingLaw_iff _).mpr hu
  · next hrej =>
    obtain ⟨-, -, -, hsub, -⟩ := recordRejected_eq_false (Bool.eq_false_iff.mpr hrej)
    refine (bindingLaw_iff _).mpr ⟨fun kb hkb => ?_, hu.row⟩
    change kb ∈ bindingsOf (importSlots u.bt.slots r) at hkb
    show kb.2.Lawful (active u)
    unfold importSlots at hkb
    split at hkb
    · rcases mem_bindingsOf_tset hkb with rfl | hold
      · rw [hactive]; exact importedBinding_lawful hsub hheat hstrikes
      · exact hu.binding _ hold
    · split at hkb
      · exact hu.binding _ (mem_bindingsOf_tset_retired hkb)
      · exact hu.binding _ (mem_bindingsOf_terase hkb)

theorem mem_bindingsOf_commit {slots : List (Nat × Slot)} {now : Time} {k : Nat} {b' : Binding}
    (h : (k, b') ∈ bindingsOf (slots.map fun p => (p.1, p.2.commit now))) :
    ∃ b, (k, b) ∈ bindingsOf slots ∧ ¬ (2 ≤ b.strikes ∧ b.dirty = 0#64)
      ∧ b' = { b with dirtySince := if b.dirty ≠ 0#64 then some now else b.dirtySince } := by
  obtain ⟨⟨j, v⟩, hp, hpa⟩ := List.mem_map.mp ((mem_bindingsOf _ _ _).mp h)
  obtain ⟨rfl, hv⟩ := Prod.mk.inj hpa
  cases v with
  | retired => cases hv
  | bound b =>
    refine ⟨b, (mem_bindingsOf _ _ _).mpr hp, ?_⟩
    simp only [Slot.commit] at hv
    split at hv
    · cases hv
    · next hkeep =>
      refine ⟨fun hc => hkeep (by simpa using hc), ?_⟩
      simpa using (Slot.bound.inj hv).symm

theorem commitImport_lawful {u : State} (hl : u.mju.life = .importing) (hu : bindingLaw u = true) :
    bindingLaw (commitImport u) = true := by
  have hactive : active u = false := by simp [active, hl]
  rw [bindingLaw_iff, hactive] at hu
  refine (bindingLaw_iff _).mpr ⟨fun kb hkb => ?_, hu.row⟩
  obtain ⟨k, b'⟩ := kb
  obtain ⟨b, hb, -, rfl⟩ := mem_bindingsOf_commit (now := u.seconds) hkb
  have hlaw := hu.binding _ hb
  refine ⟨hlaw.dirty_valid, hlaw.overtaken_valid, hlaw.redirtied_dirty, hlaw.heat_le, hlaw.idle_le, hlaw.strikes_le, ?_⟩
  have hnone : b.dirtySince = none := by
    have := hlaw.dirtySince_iff
    cases hd : b.dirtySince <;> simp_all
  show (if b.dirty ≠ 0#64 then some u.seconds else b.dirtySince).isSome = true ↔ true = true ∧ b.dirty ≠ 0#64
  by_cases hd : b.dirty = 0#64 <;> simp [hd, hnone]

theorem bindingLaw_empty {s : State} (hslots : s.bt.slots = []) (hrows : ∀ p ∈ s.ct.rows, p.2.lawful = true) :
    bindingLaw s = true := by
  rw [bindingLaw_iff, hslots]
  exact ⟨fun kb hkb => by simp [bindingsOf] at hkb, hrows⟩

theorem bindingLaw_kept {s : State} (hs : bindingLaw s = true) : MapLawKept (bindingLaw · = true) s where
  calm h := bindingLaw_quiet h.toQuiet
  powerOn := bindingLaw_empty rfl fun _ hp => by cases hp
  cold _ := bindingLaw_empty rfl fun _ hp => by cases hp
  opened _ hq _ := bindingLaw_empty rfl ((bindingLaw_iff _).mp (bindingLaw_quiet hq.toQuiet hs)).row
  importing _ hq _ := bindingLaw_empty rfl ((bindingLaw_iff _).mp (bindingLaw_quiet hq.toQuiet hs)).row
  record := importRecord_lawful
  commit := commitImport_lawful
  drop _ hu := bindingLaw_empty rfl ((bindingLaw_iff _).mp hu).row
  pair _ hu := (bindingLaw_iff _).mpr ((bindingLaw_iff _).mp hu)

theorem TablesLawful.retireAll {isActive : Bool} (gone : List (Nat × Binding)) (s : State)
    (h : TablesLawful isActive s.bt.slots s.ct.rows) :
    TablesLawful isActive (gone.foldl (fun t kb => t.retire kb.1 kb.2) s).bt.slots
      (gone.foldl (fun t kb => t.retire kb.1 kb.2) s).ct.rows := by
  induction gone generalizing s with
  | nil => exact h
  | cons kb gone ih => exact ih _ ⟨fun p hp => h.binding p (mem_bindingsOf_tset_retired hp), h.row⟩

/-- RESET WARM keeps the law of bindings in tables in any order. -/
theorem serveResetWarm_lawful (f : Frame) (s : State) (hs : bindingLaw s = true) :
    bindingLaw (serveResetWarm f s) = true := by
  unfold serveResetWarm
  split
  · split
    · have hmove : Move (s.rules False fun _ _ _ => False) s.tables (warmState s).tables := warmState_move s id
      have hwarm := TablesLawful.move hmove ((bindingLaw_iff s).mp hs)
      have hgone := hwarm.retireAll (warmRetirements (warmState s).bt.slots) (warmState s)
      refine bindingLaw_quiet (answerOk_quiet _ _ _) ((bindingLaw_iff _).mpr ?_)
      have hactive : active (warmEnd (warmState s)) = active s :=
        congrArg (fun l : Lifecycle => decide (l = .active)) (by
          obtain ⟨slots, pu, heq⟩ := State.OnlySlots.foldl
            (fun (t : State) (kb : Nat × Binding) => State.OnlySlots.retire t kb.1 kb.2)
            (warmRetirements (warmState s).bt.slots) (warmState s)
          simp only [warmEnd, heq]
          rfl)
      rw [hactive]
      exact hgone
    · exact bindingLaw_quiet (refer_quiet s _ _ _ _) hs
    · exact bindingLaw_quiet (refer_quiet s _ _ _ _) hs
  · exact bindingLaw_quiet (refer_quiet s _ _ _ _) hs

theorem exec_bindingLaw (s t : State) (c : Instr) (hs : bindingLaw s = true) (h : exec c s = .next t) :
    bindingLaw t = true := by
  refine (bindingLaw_kept hs).exec h hs fun hc => ?_
  by_cases hwarm : c = .resetWarm
  · subst hwarm
    obtain rfl := Host.Outcome.next.inj h
    exact takeRequest_induction (R := fun _ v => bindingLaw v = true) hs
      (fun _ _ _ _ _ _ => bindingLaw_quiet (u := s) ⟨rfl, rfl, rfl, rfl⟩ hs)
      fun lif f _ _ _ _ _ _ => serveResetWarm_lawful f _ (bindingLaw_quiet (.onlyLink s lif) hs)
  · have hstep := exec_tableStep s hc (fun heq => absurd heq hwarm) h
    rw [bindingLaw_iff] at hs ⊢
    have hactive : active t = active s := by simp [active, hstep.life]
    rw [hactive]
    exact hs.moves hstep.moves

/-- Settles O51: what a move of the tables, and each command that opens, imports or empties the map, makes of one binding. -/
theorem everyStepKeepsTheBindingLaw : Obligations.EveryStepKeepsTheBindingLaw := by
  unfold Obligations.EveryStepKeepsTheBindingLaw
  exact fun s t hs h => step_law bindingLaw_quiet exec_bindingLaw hs h

/-! ### The law of the map -/

theorem mapLaw_quiet {u v : State} (h : u.Quiet v) (hu : mapLaw u = true) : mapLaw v = true := by
  rw [mapLaw_iff] at hu ⊢
  rw [h.active, h.rows, h.bt]
  exact hu

theorem MapOk.empty (n e : Nat) : MapOk n e [] [] := by
  constructor <;> simp [tsorted, tget, bindingAt]

theorem mapLaw_empty {s : State} (hslots : s.bt.slots = []) (hrows : s.ct.rows = []) : mapLaw s = true := by
  rw [mapLaw_iff, hslots, hrows]
  exact ⟨.empty _ _, .inr rfl⟩

theorem rows_of_unbound {s u : State} (hs : mapLaw s = true) (hq : s.Quiet u) (hl : u.mju.life = .unbound) :
    u.ct.rows = [] := by
  rcases ((mapLaw_iff u).mp (mapLaw_quiet hq hs)).2 with hactive | hrows
  · simp [active, hl] at hactive
  · exact hrows

theorem rows_of_importing {u : State} (hu : mapLaw u = true) (hl : u.mju.life = .importing) : u.ct.rows = [] := by
  rcases ((mapLaw_iff u).mp hu).2 with hactive | hrows
  · simp [active, hl] at hactive
  · exact hrows

/-- What an accepted record makes of the slots keeps them in order (R19, R163). -/
theorem MapOk.importSlots {n e : Nat} {slots : List (Nat × Slot)} (h : MapOk n e slots []) {r : Record}
    (hrej : recordRejected ⟨n, e, slots⟩ r = false) : MapOk n e (importSlots slots r) [] := by
  obtain ⟨hslot, -, hext, -, helse⟩ := recordRejected_eq_false hrej
  unfold Machine.importSlots
  split
  · next hb =>
    have hp : r.pstate = 1 := by
      simp only [bindsExtent, Bool.and_eq_true, decide_eq_true_eq] at hb
      exact hb.1
    have helse := helse hb
    refine h.bind hslot (hext hp) (fun j d hd heq => ?_) fun i q hq => by simp [tget] at hq
    have hres := h.residency_eq_some.mpr ⟨hd, heq⟩
    by_contra hne
    have hres : residency slots r.extent = some (j, d) := hres
    simp [heldElsewhere, hres, hne] at helse
  · split
    · exact h.retire hslot
    · exact h.erase _

theorem importRecord_mapLaw {u : State} (r : Record) (hl : u.mju.life = .importing) (hu : mapLaw u = true) :
    mapLaw (importRecord u r) = true := by
  have hrows := rows_of_importing hu hl
  have hok := ((mapLaw_iff u).mp hu).1
  unfold importRecord
  split
  · exact mapLaw_quiet ⟨rfl, rfl, rfl, rfl⟩ hu
  · next hrej =>
    rw [hrows] at hok
    refine (mapLaw_iff _).mpr ⟨?_, .inr hrows⟩
    show MapOk u.bt.n u.bt.e (importSlots u.bt.slots r) u.ct.rows
    rw [hrows]
    exact hok.importSlots (Bool.eq_false_iff.mpr hrej)

theorem commit_eq_filterMap (slots : List (Nat × Slot)) (now : Time) :
    (slots.map fun p => (p.1, p.2.commit now)) =
      slots.filterMap fun p => ((some ∘ Slot.commit now) p.2).map fun v => (p.1, v) := by
  simp

theorem commitImport_mapLaw {u : State} (hl : u.mju.life = .importing) (hu : mapLaw u = true) :
    mapLaw (commitImport u) = true := by
  have hrows := rows_of_importing hu hl
  have hok := ((mapLaw_iff u).mp hu).1
  refine (mapLaw_iff _).mpr ⟨?_, .inr hrows⟩
  show MapOk u.bt.n u.bt.e (u.bt.slots.map fun p => (p.1, p.2.commit u.seconds)) u.ct.rows
  have hsorted := tsorted_filterMap hok.slots_sorted (some ∘ Slot.commit u.seconds)
  rw [← commit_eq_filterMap] at hsorted
  refine hok.shrink hsorted (fun {k v} hk => ?_) fun {k b} hb => ?_
  · rw [commit_eq_filterMap, tget_filterMap hok.slots_sorted] at hk
    obtain ⟨w, hw, -⟩ := Option.bind_eq_some_iff.mp hk
    exact hok.slot_lt hw
  · obtain ⟨d, hd, -, rfl⟩ := mem_bindingsOf_commit (mem_bindingsOf_of_bindingAt hb)
    exact ⟨d, (mem_bindingsOf_iff _ hok.slots_sorted _ _).mp hd, rfl⟩

theorem mapLaw_kept {s : State} (hs : mapLaw s = true) : MapLawKept (mapLaw · = true) s where
  calm h := mapLaw_quiet h.toQuiet
  powerOn := mapLaw_empty rfl rfl
  cold _ := mapLaw_empty rfl rfl
  opened {u} _ hq hl := mapLaw_empty rfl (rows_of_unbound (u := u) hs hq.toQuiet hl)
  importing {u} _ hq hl := mapLaw_empty rfl (rows_of_unbound (u := u) hs hq.toQuiet hl)
  record _ := importRecord_mapLaw _
  commit := commitImport_mapLaw
  drop {u} hl hu := mapLaw_empty rfl (rows_of_importing (u := u) hu hl)
  pair _ hu := (mapLaw_iff _).mpr ((mapLaw_iff _).mp hu)

/-- Outside ACTIVE no move makes a row. -/
theorem rows_moves {c : MoveRules} {T T' : Tables} (h : Moves c T T') (hl : c.isActive = false) (hrows : T.rows = []) :
    T'.rows = [] := by
  induction h with
  | refl => exact hrows
  | @tail T1 T2 _ hmove ih =>
    cases hmove with
    | touch _ _ _ => exact ih
    | retire _ _ => exact ih
    | free _ _ h =>
      rcases h with rfl | ⟨hactive, -⟩
      · exact ih
      · rw [hl] at hactive; cases hactive
    | bind _ _ _ _ _ => simp only [] at ih; subst ih; rfl
    | promote _ _ hrow _ _ => simp only [] at ih; subst ih; cases hrow
    | rowTouch hrow _ _ => simp only [] at ih; subst ih; cases hrow
    | rowNew _ _ _ _ _ hactive => rw [hl] at hactive; cases hactive
    | rowErase _ => simp only [] at ih; subst ih; rfl
    | sweep f g _ _ _ _ => simp only [] at ih; subst ih; rfl

theorem MapOk.tableStep {stands : Prop} {lose : Nat → Nat → Nat → Prop} {s t : State}
    (hs : MapOk s.bt.n s.bt.e s.bt.slots s.ct.rows) (h : TableStep stands lose s t) :
    MapOk t.bt.n t.bt.e t.bt.slots t.ct.rows := by
  rw [h.n, h.e]
  exact MapOk.moves h.moves hs

theorem mapLaw_tableStep {stands : Prop} {lose : Nat → Nat → Nat → Prop} {s t : State} (hs : mapLaw s = true)
    (h : TableStep stands lose s t) : mapLaw t = true := by
  have hlaw := (mapLaw_iff s).mp hs
  refine (mapLaw_iff t).mpr ⟨hlaw.1.tableStep h, ?_⟩
  rcases hlaw.2 with hactive | hrows
  · left; simpa [active, h.life] using hactive
  · by_cases hl : active s = true
    · left; simpa [active, h.life] using hl
    · exact .inr (rows_moves h.moves (Bool.eq_false_iff.mpr hl) hrows)

theorem exec_mapLaw (s t : State) (c : Instr) (hs : mapLaw s = true) (h : exec c s = .next t) : mapLaw t = true :=
  (mapLaw_kept hs).exec h hs fun hc =>
    mapLaw_tableStep hs (exec_tableStep s hc (fun _ => ((mapLaw_iff s).mp hs).1.slots_sorted) h)

/-- Settles O52: what a move of the tables, and each command that opens, imports or empties the map, makes of the two
tables. -/
theorem everyStepKeepsTheMapLaw : Obligations.EveryStepKeepsTheMapLaw := by
  unfold Obligations.EveryStepKeepsTheMapLaw
  exact fun s t hs h => step_law mapLaw_quiet exec_mapLaw hs h

/-! ### The policy law -/

/-- The policy parameters that no map bounds are in their ranges (R177). -/
structure Policy.InRange (p : Policy) : Prop where
  aBase : 16 ≤ p.aBase ∧ p.aBase ≤ 2048
  hyst : p.hyst ≤ 1024
  bMax : 64 ≤ p.bMax ∧ p.bMax ≤ 16384
  rate : p.rate ≤ 600
  pc : isPeriod p.pc = true
  pr : isPeriod p.pr = true
  lifetime : 10 ≤ p.lifetime ∧ p.lifetime ≤ 1023
  barPeriod : 60 ≤ p.barPeriod ∧ p.barPeriod ≤ 65535
  streamThreshold : 16 ≤ p.streamThreshold ∧ p.streamThreshold ≤ 4096
  hHold : 60 ≤ p.hHold ∧ p.hHold ≤ 3600
  drainDelay : p.drainDelay ≤ 600
  orderTimeout : 5 ≤ p.orderTimeout ∧ p.orderTimeout ≤ 255
  flushCount : 1 ≤ p.flushCount ∧ p.flushCount ≤ 16
  deltaDelay : p.deltaDelay ≤ 60
  restDelay : 5 ≤ p.restDelay ∧ p.restDelay ≤ 600
  window : 1 ≤ p.window ∧ p.window ≤ 8

/-- The staging limit and the pin limit are within N, the pinned count within the pin limit (R127, R139). -/
structure Policy.InMap (p : Policy) (n : Nat) (slots : List (Nat × Slot)) : Prop where
  sLim : p.sLim ≤ n
  pinned : pinnedCount slots ≤ p.pinLimit
  pinLimit : p.pinLimit ≤ n

theorem policyLaw_iff (s : State) :
    policyLaw s = true ↔ s.policy.InRange ∧ s.policy.InMap s.bt.n s.bt.slots := by
  simp only [policyLaw, Bool.and_eq_true, decide_eq_true_eq, and_assoc]
  constructor
  · rintro ⟨h1, h2, h3, h4, h5, h6, h7, h8, h9, h10, h11, h12, h13, h14, h15, h16, h17, h18, h19, h20, h21, h22, h23, h24,
      h25, h26, h27, h28, h29⟩
    exact ⟨⟨⟨h1, h2⟩, h3, ⟨h4, h5⟩, h6, h7, h8, ⟨h9, h10⟩, ⟨h11, h12⟩, ⟨h13, h14⟩, ⟨h16, h17⟩, h18, ⟨h21, h22⟩,
      ⟨h23, h24⟩, h25, ⟨h26, h27⟩, ⟨h28, h29⟩⟩, ⟨h15, h19, h20⟩⟩
  · rintro ⟨⟨⟨h1, h2⟩, h3, ⟨h4, h5⟩, h6, h7, h8, ⟨h9, h10⟩, ⟨h11, h12⟩, ⟨h13, h14⟩, ⟨h16, h17⟩, h18, ⟨h21, h22⟩,
      ⟨h23, h24⟩, h25, ⟨h26, h27⟩, ⟨h28, h29⟩⟩, ⟨h15, h19, h20⟩⟩
    exact ⟨h1, h2, h3, h4, h5, h6, h7, h8, h9, h10, h11, h12, h13, h14, h15, h16, h17, h18, h19, h20, h21, h22, h23, h24,
      h25, h26, h27, h28, h29⟩

theorem clampTo_bounds {lo hi : Nat} (h : lo ≤ hi) (v : Nat) : lo ≤ clampTo lo hi v ∧ clampTo lo hi v ≤ hi := by
  simp only [clampTo]
  omega

theorem clampTo_le (hi v : Nat) : clampTo 0 hi v ≤ hi := (clampTo_bounds (Nat.zero_le hi) v).2

theorem isPeriod_clampPeriod (v : Nat) : isPeriod (clampPeriod v) = true := by
  unfold clampPeriod
  repeat' split
  all_goals decide

/-- One pair of a POLICY leaves every parameter in its range (R177). -/
theorem Policy.InRange.set {p : Policy} (h : p.InRange) (n pinned id v : Nat) : (p.set n pinned id v).InRange := by
  unfold Policy.set
  split
  · exact { h with aBase := clampTo_bounds (by decide) v }
  · exact { h with hyst := clampTo_le _ v }
  · exact { h with bMax := clampTo_bounds (by decide) v }
  · exact { h with rate := clampTo_le _ v }
  · exact { h with pc := isPeriod_clampPeriod v }
  · exact { h with pr := isPeriod_clampPeriod v }
  · exact { h with lifetime := clampTo_bounds (by decide) v }
  · exact { h with barPeriod := clampTo_bounds (by decide) v }
  · exact { h with streamThreshold := clampTo_bounds (by decide) v }
  · exact { h with }
  · exact { h with hHold := clampTo_bounds (by decide) v }
  · exact { h with drainDelay := clampTo_le _ v }
  · exact { h with }
  · exact { h with orderTimeout := clampTo_bounds (by decide) v }
  · exact { h with flushCount := clampTo_bounds (by decide) v }
  · exact { h with deltaDelay := clampTo_le _ v }
  · exact { h with restDelay := clampTo_bounds (by decide) v }
  · exact { h with window := clampTo_bounds (by decide) v }
  · exact h

theorem Policy.set_limits (p : Policy) (n pinned id v : Nat) :
    ((p.set n pinned id v).sLim = p.sLim ∨ (p.set n pinned id v).sLim = clampTo 0 n v)
      ∧ ((p.set n pinned id v).pinLimit = p.pinLimit ∨ (p.set n pinned id v).pinLimit = clampTo pinned n v) := by
  unfold Policy.set
  split <;> simp

theorem Policy.InMap.set {p : Policy} {n : Nat} {slots : List (Nat × Slot)} (h : p.InMap n slots) (id v : Nat) :
    (p.set n (pinnedCount slots) id v).InMap n slots := by
  have hpin := clampTo_bounds (h.pinned.trans h.pinLimit) v
  have hlim := clampTo_le n v
  obtain ⟨hs, hl⟩ := p.set_limits n (pinnedCount slots) id v
  have h1 := h.sLim
  have h2 := h.pinned
  have h3 := h.pinLimit
  constructor <;> rcases hs with hs | hs <;> rcases hl with hl | hl <;> omega

theorem policyLaw_quiet {u v : State} (h : u.Quiet v) (hu : policyLaw u = true) : policyLaw v = true := by
  rw [policyLaw_iff] at hu ⊢
  rw [h.policy, h.bt]
  exact hu

theorem tsorted_length_le {α : Type} {l : List (Nat × α)} {n : Nat} (h : tsorted l = true) (hlt : ∀ p ∈ l, p.1 < n) :
    l.length ≤ n := by
  have hnodup : (l.map Prod.fst).Nodup :=
    List.pairwise_map.mpr (((tsorted_iff_pairwise l).mp h).imp fun hlt => hlt.ne)
  have hsub : l.map Prod.fst ⊆ List.range n := fun k hk => by
    obtain ⟨p, hp, rfl⟩ := List.mem_map.mp hk
    exact List.mem_range.mpr (hlt p hp)
  simpa using hnodup.length_le_of_subset hsub

theorem countBindings_le (slots : List (Nat × Slot)) (p : Binding → Bool) : countBindings slots p ≤ slots.length := by
  refine List.countP_le_length.trans ?_
  induction slots with
  | nil => rfl
  | cons q rest ih =>
    obtain ⟨i, v⟩ := q
    cases v with
    | bound b => exact Nat.succ_le_succ ih
    | retired => exact ih.trans (Nat.le_succ _)

theorem MapOk.pinnedCount_le {n e : Nat} {slots : List (Nat × Slot)} {rows : List (Nat × Row)} (h : MapOk n e slots rows) :
    pinnedCount slots ≤ n :=
  (countBindings_le slots _).trans (tsorted_length_le h.slots_sorted fun p hp =>
    h.slot_lt ((tget_eq_some _ h.slots_sorted p.1 p.2).mpr hp))

/-- The two laws together: the map bounds the pinned count by N. -/
def mapPolicyLaw (s : State) : Prop := mapLaw s = true ∧ policyLaw s = true

theorem mapPolicyLaw_quiet {u v : State} (h : u.Quiet v) (hu : mapPolicyLaw u) : mapPolicyLaw v :=
  ⟨mapLaw_quiet h hu.1, policyLaw_quiet h hu.2⟩

theorem importRecord_policyLaw {u : State} (r : Record) (hl : u.mju.life = .importing) (hu : mapPolicyLaw u) :
    mapPolicyLaw (importRecord u r) := by
  have hmap := importRecord_mapLaw r hl hu.1
  refine ⟨hmap, ?_⟩
  have hpinned := ((mapLaw_iff _).mp hmap).1.pinnedCount_le
  have hpolicy := (policyLaw_iff u).mp hu.2
  unfold importRecord at hpinned ⊢
  split
  · exact hu.2
  · next hrej =>
    rw [if_neg hrej] at hpinned
    have hlim := hpolicy.2.pinLimit
    refine (policyLaw_iff _).mpr ⟨{ hpolicy.1 with }, hpolicy.2.sLim, Nat.le_max_right _ _, max_le hlim hpinned⟩

theorem takenW_bounds (f : Frame) : 1 ≤ takenW f ∧ takenW f ≤ 8 := clampTo_bounds (by decide) _

theorem openMap_policy {u : State} (f : Frame) (hu : policyLaw u = true) : policyLaw (openMap f u) = true := by
  have hpolicy := (policyLaw_iff u).mp hu
  refine (policyLaw_iff _).mpr ⟨{ hpolicy.1 with window := takenW_bounds f }, Nat.div_le_self _ _, Nat.zero_le _,
    Nat.div_le_self _ _⟩

theorem noMap_policy {u v : State} (hu : policyLaw u = true)
    (hp : v.policy = { u.policy with sLim := 0, pinLimit := 0 }) (hslots : v.bt.slots = []) : policyLaw v = true := by
  have hpolicy := (policyLaw_iff u).mp hu
  refine (policyLaw_iff _).mpr ?_
  rw [hp, hslots]
  exact ⟨{ hpolicy.1 with }, Nat.zero_le _, le_rfl, Nat.zero_le _⟩

theorem pinnedCount_commit_le {slots : List (Nat × Slot)} (now : Time) :
    pinnedCount (slots.map fun p => (p.1, p.2.commit now)) ≤ pinnedCount slots := by
  rw [commit_eq_filterMap]
  refine pinnedCount_filterMap_le _ rfl fun kb _ b' hf hp => ?_
  simp only [Function.comp_apply, Option.some.injEq, Slot.commit] at hf
  split at hf
  · cases hf
  · obtain rfl := Slot.bound.inj hf
    exact hp

theorem mapPolicyLaw_kept {s : State} (hs : mapPolicyLaw s) : MapLawKept mapPolicyLaw s where
  calm h := mapPolicyLaw_quiet h.toQuiet
  powerOn := ⟨(mapLaw_kept hs.1).powerOn, policyLaw_quiet (u := State.reset) ⟨rfl, rfl, rfl, rfl⟩ (by decide)⟩
  cold {u} hq := ⟨(mapLaw_kept hs.1).cold hq, noMap_policy (u := u) (policyLaw_quiet hq.toQuiet hs.2) rfl rfl⟩
  opened {u} f hq hl := ⟨(mapLaw_kept hs.1).opened f hq hl, openMap_policy f (policyLaw_quiet hq.toQuiet hs.2)⟩
  importing {u} f hq hl := ⟨(mapLaw_kept hs.1).importing f hq hl, openMap_policy f (policyLaw_quiet hq.toQuiet hs.2)⟩
  record _ := importRecord_policyLaw _
  commit {u} hl hu := by
    have hpolicy := (policyLaw_iff u).mp hu.2
    exact ⟨commitImport_mapLaw hl hu.1, (policyLaw_iff _).mpr ⟨hpolicy.1, hpolicy.2.sLim,
      (pinnedCount_commit_le u.seconds).trans hpolicy.2.pinned, hpolicy.2.pinLimit⟩⟩
  drop {u} hl hu := ⟨(mapLaw_kept hu.1).drop hl hu.1, noMap_policy (u := u) hu.2 rfl rfl⟩
  pair {u} pair hu := by
    have hpolicy := (policyLaw_iff u).mp hu.2
    exact ⟨(mapLaw_kept hu.1).pair pair hu.1,
      (policyLaw_iff _).mpr ⟨hpolicy.1.set _ _ _ _, hpolicy.2.set _ _⟩⟩

theorem exec_mapPolicyLaw (s t : State) (c : Instr) (hs : mapPolicyLaw s) (h : exec c s = .next t) : mapPolicyLaw t := by
  refine (mapPolicyLaw_kept hs).exec h hs fun hc => ?_
  have hok := ((mapLaw_iff s).mp hs.1).1
  have hpolicy := (policyLaw_iff s).mp hs.2
  have hstep := exec_tableStep s hc (fun _ => hok.slots_sorted) h
  refine ⟨mapLaw_tableStep hs.1 hstep, (policyLaw_iff t).mpr ?_⟩
  rw [hstep.policy, hstep.n]
  exact ⟨hpolicy.1, hpolicy.2.sLim, pinnedCount_moves hstep.moves hok hpolicy.2.pinned, hpolicy.2.pinLimit⟩

/-- Settles O56: what each command makes of the policy, and what a move of the tables makes of the pinned count. -/
theorem everyStepKeepsThePolicyLaw : Obligations.EveryStepKeepsThePolicyLaw := by
  unfold Obligations.EveryStepKeepsThePolicyLaw
  exact fun s t hmap hpolicy h => (step_law mapPolicyLaw_quiet exec_mapPolicyLaw ⟨hmap, hpolicy⟩ h).2

/-! ### No dirty block is lost -/

/-- In ACTIVE the map stands over every command that does not move the tables, the resets that empty it apart. -/
theorem exec_remaps_bt {s t : State} {c : Instr} (hl : s.mju.life = .active) (hc : remaps c = true)
    (hreset : c ∉ [Instr.powerOn, .resetLine, .resetCold]) (h : exec c s = .next t) : t.bt = s.bt := by
  have refused : ∀ {row serve}, phaseRefusal row s.mju.life ≠ none → (takeRequest row serve s).bt = s.bt := fun hp =>
    takeRequest_induction (R := fun _ v => v.bt = s.bt) rfl (fun _ _ _ _ _ _ => rfl) fun _ _ _ _ _ _ hp' _ => absurd hp' hp
  cases c with
  | attach => obtain rfl := Host.Outcome.next.inj h; exact refused (by simp [phaseRefusal, hl])
  | importBegin => obtain rfl := Host.Outcome.next.inj h; exact refused (by simp [phaseRefusal, hl])
  | importPut => obtain rfl := Host.Outcome.next.inj h; exact refused (by simp [phaseRefusal, hl])
  | importEnd => obtain rfl := Host.Outcome.next.inj h; exact refused (by simp [phaseRefusal, hl])
  | policy =>
    obtain rfl := Host.Outcome.next.inj h
    have hpairs : ∀ (pairs : List (Nat × Nat)) (u : State), (pairs.foldl applyPair u).bt = u.bt := fun pairs => by
      induction pairs with
      | nil => exact fun _ => rfl
      | cons pair pairs ih => exact fun u => ih _
    refine takeRequest_induction (R := fun _ v => v.bt = s.bt) rfl (fun _ _ _ _ _ _ => rfl) fun lif f _ _ _ _ _ _ => ?_
    unfold servePolicy
    split
    · rfl
    · exact hpairs _ _
  | powerOn => simp at hreset
  | resetLine => simp at hreset
  | resetCold => simp at hreset
  | _ => cases hc

/-- A dirty block stays dirty over every command but the resets that empty the map, or is one that the command may lose. -/
theorem exec_dirty {s t : State} {c : Instr} {k x o : Nat} (hl : s.mju.life = .active) (hb : bindingLaw s = true)
    (hm : mapLaw s = true) (h : exec c s = .next t) (hreset : c ∉ [Instr.powerOn, .resetLine, .resetCold])
    (hd : DirtyIn s.bt.slots k x o) : DirtyIn t.bt.slots k x o ∨ s.mayLose c k x o := by
  have hok := ((mapLaw_iff s).mp hm).1
  by_cases hc : remaps c = true
  · rw [exec_remaps_bt hl hc hreset h]; exact .inl hd
  · have hstep := exec_tableStep s (Bool.eq_false_iff.mpr hc) (fun _ => hok.slots_sorted) h
    exact hd.moves hstep.moves hok ((bindingLaw_iff s).mp hb)

/-- Settles O60: a dirty block stays dirty over every move of the tables, but where a DISCARD or the COMPLETE of a drain takes
it out. -/
theorem noDirtyBlockIsLost : Obligations.NoDirtyBlockIsLost := by
  unfold Obligations.NoDirtyBlockIsLost
  intro s t c k x o hl hb hm h hd
  have hkeep := fun hreset => exec_dirty (c := c) hl hb hm h hreset hd
  refine ⟨fun hc => ?_, ?_, ?_⟩
  · simp only [List.mem_cons, List.not_mem_nil, or_false, not_or] at hc
    obtain ⟨h1, h2, h3, h4, h5⟩ := hc
    exact (hkeep (by simp [h1, h2, h3])).resolve_right fun hlost => hlost.elim (fun h => h4 h.1) fun h => h5 h.1
  · rintro rfl
    exact (hkeep (by decide)).imp id fun hlost => hlost.elim And.right fun h => by cases h.1
  · rintro rfl
    exact (hkeep (by decide)).imp id fun hlost => hlost.elim (fun h => by cases h.1) And.right

end Sys2Proof.Machine
end


section
/-! SUPPORT. The ranges of tokens, intake, trackers, wheel, counts and fault table over every step. -/

namespace Sys2Proof.Machine

/-- The units' places and counts are in range (R22 to R34, R44, R56, R117, R187). -/
structure UnitsOk (s : State) : Prop where
  tokens : s.au.tokens ≤ s.policy.bMax
  acc : s.au.acc < 60
  hu : s.hu.InRange
  untracked : s.ct.untracked ≤ 65535
  cfu : s.cfu.InRange
  retry : s.ou.retryCount ≤ 65535

theorem unitsOk_iff (s : State) : UnitsOk s ↔ tokenLaw s = true ∧ unitLaw s = true := by
  simp only [tokenLaw, unitLaw, Bool.and_eq_true, decide_eq_true_eq]
  constructor
  · rintro ⟨h1, h2, ⟨h3, h4, h5, h6⟩, h7, ⟨h8, h9, h10⟩, h11⟩
    exact ⟨⟨h1, h2⟩, ⟨⟨⟨⟨⟨⟨⟨⟨h3, h4⟩, h5⟩, h6⟩, h7⟩, h8⟩, h9⟩, h10⟩, h11⟩⟩
  · rintro ⟨⟨h1, h2⟩, ⟨⟨⟨⟨⟨⟨⟨⟨h3, h4⟩, h5⟩, h6⟩, h7⟩, h8⟩, h9⟩, h10⟩, h11⟩⟩
    exact ⟨h1, h2, ⟨h3, h4, h5, h6⟩, h7, ⟨h8, h9, h10⟩, h11⟩

/-- A change that gives no token and keeps every range. -/
structure UnitStep (s t : State) : Prop where
  tokens : t.au.tokens ≤ s.au.tokens
  acc : t.au.acc = s.au.acc
  bMax : t.policy.bMax = s.policy.bMax
  hu : s.hu.InRange → t.hu.InRange
  untracked : s.ct.untracked ≤ 65535 → t.ct.untracked ≤ 65535
  cfu : s.cfu.InRange → t.cfu.InRange
  retry : s.ou.retryCount ≤ 65535 → t.ou.retryCount ≤ 65535

theorem UnitsOk.step {s t : State} (hs : UnitsOk s) (h : UnitStep s t) : UnitsOk t :=
  ⟨h.bMax ▸ h.tokens.trans hs.tokens, h.acc ▸ hs.acc, h.hu hs.hu, h.untracked hs.untracked, h.cfu hs.cfu, h.retry hs.retry⟩

namespace UnitStep
variable {s t u : State}

theorem refl (s : State) : UnitStep s s := ⟨le_rfl, rfl, rfl, id, id, id, id⟩

theorem trans (h : UnitStep s t) (h' : UnitStep t u) : UnitStep s u :=
  ⟨h'.tokens.trans h.tokens, h'.acc.trans h.acc, h'.bMax.trans h.bMax, h'.hu ∘ h.hu, h'.untracked ∘ h.untracked,
    h'.cfu ∘ h.cfu, h'.retry ∘ h.retry⟩

theorem of_calm (h : s.Calm t) : UnitStep s t where
  tokens := h.tokens.le
  acc := h.acc
  bMax := by rw [h.policy]
  hu := h.hu
  untracked := h.untracked.trans
  cfu := h.cfu
  retry := by
    have : t.ou.retryCount = s.ou.retryCount := congrArg (·.2.2.2.2.2) h.orders
    rw [this]; exact id

theorem of_endKeeps (h : s.EndKeeps t) : UnitStep s t :=
  ⟨h.tokens.le, h.acc, by rw [h.policy], by rw [h.hu]; exact id, by rw [h.untracked]; exact id, h.cfu, h.retry⟩

theorem of_runKeeps (h : s.RunKeeps t) : UnitStep s t :=
  ⟨h.tokens, h.acc, by rw [h.policy], by rw [h.hu]; exact id, by rw [h.untracked]; exact id, by rw [h.cfu]; exact id,
    by rw [h.retry]; exact id⟩

theorem of_onlySlots (h : s.OnlySlots t) : UnitStep s t := of_endKeeps h.endKeeps

/-- A change made whole and answered OK. -/
theorem made (h : UnitStep s t) (before : List (Nat × Slot)) (ks : List Nat) (tag : Tag) (b : OkBody) :
    UnitStep s ((t.logChange before ks).answerOk tag b) :=
  h.trans ⟨le_rfl, rfl, rfl, id, id, fun hc => ⟨hc.faults, hc.overflow, hc.nodup⟩, id⟩

theorem refer (s : State) (f : Frame) (key : CondKey) (code : CondCode) (n : Nat) : UnitStep s (s.refer f key code n) :=
  ⟨le_rfl, rfl, rfl, id, id, fun hc => ⟨hc.faults, hc.overflow, hc.nodup⟩, id⟩

theorem answerOk (s : State) (tag : Tag) (b : OkBody) : UnitStep s (s.answerOk tag b) :=
  ⟨le_rfl, rfl, rfl, id, id, fun hc => ⟨hc.faults, hc.overflow, hc.nodup⟩, id⟩

theorem onlyLink (s : State) (lif : Link) : UnitStep s { s with lif := lif } := ⟨le_rfl, rfl, rfl, id, id, id, id⟩

theorem reply (s : State) (tag : Tag) (body : ReplyBody) : UnitStep s (s.reply tag body) := ⟨le_rfl, rfl, rfl, id, id, id, id⟩

end UnitStep

/-! ### The items (R25 to R29) -/

theorem takeTracker_length {start : Nat} {trackers : List Tracker} {t : Tracker} {others : List Tracker}
    (h : takeTracker start trackers = some (t, others)) : others.length + 1 = trackers.length := by
  induction trackers generalizing t others with
  | nil => simp [takeTracker] at h
  | cons u rest ih =>
    simp only [takeTracker] at h
    split at h
    · obtain ⟨rfl, rfl⟩ := Prod.mk.inj (Option.some.inj h); rfl
    · obtain ⟨⟨t', others'⟩, hfound, heq⟩ := Option.map_eq_some_iff.mp h
      obtain ⟨rfl, rfl⟩ := Prod.mk.inj heq
      simp [ih hfound]

theorem trackRead_length {trackers : List Tracker} (h : trackers.length ≤ 4) (start count : Nat) :
    (trackRead trackers start count).length ≤ 4 := by
  unfold trackRead
  cases hf : takeTracker start trackers with
  | some found =>
    have := takeTracker_length (t := found.1) (others := found.2) hf
    simp only [List.length_cons]
    omega
  | none => simp only [List.length_cons, List.length_take]; omega

theorem track_inRange (s : State) (item : AccessItem) (h : s.hu.InRange) : (s.track item).hu.InRange := by
  unfold State.track
  split
  · exact ⟨h.intake, h.lapseCount, trackRead_length h.trackers _ _, h.wheel⟩
  · exact h

theorem applyShares_untracked (weight : Nat) (shares : List Share) (acc : State × Bool)
    (h : acc.1.ct.untracked ≤ 65535) : (shares.foldl (applyShare weight) acc).1.ct.untracked ≤ 65535 := by
  induction shares generalizing acc with
  | nil => exact h
  | cons sh shares ih =>
    refine ih _ ?_
    unfold applyShare applyHeat
    dsimp only
    split
    · exact h
    · split
      · exact h
      · exact h
      · split
        · exact h
        · exact Nat.min_le_left _ _

theorem applyItem_unitStep (s : State) (item : AccessItem) : UnitStep s (applyItem s item) := by
  have htrack : UnitStep s (s.track item) := by
    refine ⟨?_, ?_, ?_, track_inRange s item, ?_, ?_, ?_⟩ <;> unfold State.track <;> split <;> simp
  unfold applyItem
  split
  · exact .refl s
  · dsimp only
    generalize hw : itemWeight item.kind item.served
      (isStreaming s.policy.streamThreshold (s.track item).hu.trackers) = weight
    have huntracked := applyShares_untracked weight (sharesOf item.start item.count) (s.track item, false)
    obtain ⟨slots, ct, heq⟩ := applyShares_onlyHeat weight (sharesOf item.start item.count) (s.track item, false)
    generalize (sharesOf item.start item.count).foldl (applyShare weight) (s.track item, false) = done at heq huntracked ⊢
    refine htrack.trans ((?_ : UnitStep (s.track item) done.1).trans ?_)
    · refine ⟨?_, ?_, ?_, ?_, huntracked, ?_, ?_⟩ <;> simp [heq]
    · refine ⟨?_, ?_, ?_, ?_, ?_, ?_, ?_⟩ <;> simp

theorem takeOneItem_unitStep (s : State) : UnitStep s (takeOneItem s) := by
  unfold takeOneItem
  split
  · split
    · exact .refl s
    · next item rest hintake =>
      refine .trans (t := s.dropItem rest) ⟨le_rfl, rfl, rfl, fun h => ⟨?_, h.lapseCount, h.trackers, h.wheel⟩, id, id, id⟩
        (applyItem_unitStep _ item)
      have := h.intake
      rw [hintake] at this
      exact (Nat.le_succ _).trans this
  · exact .refl s

/-! ### The advance (R34, R57) -/

/-- A refill keeps T within B_max and the accumulator below 60 (R56, R57). -/
theorem refilled_inRange {p : Policy} {au : Admission} (ht : au.tokens ≤ p.bMax) :
    (refilled p au).tokens ≤ p.bMax ∧ (refilled p au).acc < 60 := by
  unfold refilled
  split
  · exact ⟨ht, Nat.zero_lt_succ 59⟩
  · next hne =>
    have hgain : refillGain p au = min ((au.acc + p.rate) / 60) (p.bMax - au.tokens) := rfl
    refine ⟨by show au.tokens + refillGain p au ≤ p.bMax; omega, ?_⟩
    show (if au.tokens + refillGain p au = p.bMax then 0 else au.acc + p.rate - 60 * refillGain p au) < 60
    split
    · decide
    · omega

theorem UnitsOk.advance {s : State} (h : UnitsOk s) : UnitsOk (if active s then tickActive (tick s) else tick s) := by
  have hwheel : (s.hu.wheel + 1) % 32 < 32 := Nat.mod_lt _ (by decide)
  have htick : UnitsOk (tick s) := ⟨h.tokens, h.acc, ⟨h.hu.intake, h.hu.lapseCount, h.hu.trackers, hwheel⟩, h.untracked,
    h.cfu, h.retry⟩
  split
  · obtain ⟨ht, ha⟩ := refilled_inRange (p := s.policy) (au := s.au) h.tokens
    exact ⟨ht, ha, htick.hu, htick.untracked, htick.cfu, htick.retry⟩
  · exact htick

/-! ### The commands that move the tables -/

theorem timeoutOrder_unitStep (s : State) (o : Issued) (b : Binding) : UnitStep s (timeoutOrder s o b) := by
  unfold timeoutOrder
  dsimp only
  split
  · have hdrop : UnitStep s (s.dropIssued o.tag) := ⟨le_rfl, rfl, rfl, id, id, id, id⟩
    have hlog : UnitStep (timeoutChange s o b) ((timeoutChange s o b).logChange s.bt.slots [o.order.slot]) :=
      ⟨le_rfl, rfl, rfl, id, id, id, id⟩
    exact ((hdrop.trans (.of_endKeeps (timeoutChange_keeps s o b))).trans hlog).trans (.of_calm (.settleCredit _))
  · exact .refl s

theorem selectOrder_unitStep (s : State) (q : QueueId) (w : Waiting) (b : Binding) :
    UnitStep s (selectOrder s q w b) := by
  unfold selectOrder
  split
  · have hleave := leaveOrder_keeps (s.setWaiting q (withoutFirstReady s q)) w.order.slot b false
    refine .trans (t := s.setWaiting q (withoutFirstReady s q))
      ⟨le_rfl, rfl, rfl, id, id, id, by simp [State.setWaiting]⟩ (.trans (.of_endKeeps hleave) ?_)
    exact ⟨by simp [endAtSelection], by simp [endAtSelection], by simp [endAtSelection], by simp [endAtSelection],
      by simp [endAtSelection], by simp [endAtSelection], by simp [endAtSelection]⟩
  · refine ⟨by simp [dispatchOrder], by simp [dispatchOrder], by simp [dispatchOrder], by simp [dispatchOrder],
      by simp [dispatchOrder], by simp [dispatchOrder], fun h => ?_⟩
    simp only [dispatchOrder, retryAtDispatch]
    simp
    split
    · split
      · exact h
      · exact Nat.zero_le _
    · exact h

theorem serveRange_unitStep {serve : Nat → Nat → Frame → State → State} (f : Frame) (s : State)
    (h : ∀ start count, UnitStep s (serve start count f s)) : UnitStep s (serveRange serve f s) := by
  unfold serveRange
  split
  · exact .refer s _ _ _ _
  · exact h _ _

theorem servePlanWrite_unitStep (start count : Nat) (f : Frame) (s : State) :
    UnitStep s (servePlanWrite start count f s) := by
  unfold servePlanWrite
  split
  · exact .reply s _ _
  · next p _ =>
    split
    · have hplan : UnitStep s ((s.withSlots p.slots).withRows p.rows) := ⟨le_rfl, rfl, rfl, id, id, id, id⟩
      exact hplan.made _ _ _ _
    · exact .reply s _ _

theorem serveDiscard_unitStep (start count : Nat) (f : Frame) (s : State) :
    UnitStep s (serveDiscard start count f s) := by
  unfold serveDiscard
  dsimp only
  split
  · have hshares := UnitStep.of_onlySlots (discardShares_onlySlots (sharesOf start count) ⟨s, [], false, false⟩)
    refine (hshares.trans ?_).made _ _ _ _
    exact ⟨by simp, by simp, by simp, by simp, by simp, by simp, by simp⟩
  · exact .reply s _ _

theorem checkOwner_unitStep {serve : Frame → State → State} (f : Frame) (s : State) (h : UnitStep s (serve f s)) :
    UnitStep s (checkOwner serve f s) := by
  unfold checkOwner
  split
  · exact .refer s _ _ _ _
  · split
    · exact .refer s _ _ _ _
    · split
      · exact ⟨le_rfl, rfl, rfl, id, id, fun hc => ⟨hc.faults, hc.overflow, hc.nodup⟩, id⟩
      · exact h

theorem servePin_unitStep (f : Frame) (s : State) : UnitStep s (servePin f s) := by
  unfold servePin makePin
  dsimp only
  split
  · exact .refer s _ _ _ _
  · split
    · exact .refer s _ _ _ _
    · split
      · exact ⟨le_rfl, rfl, rfl, id, id, fun hc => ⟨hc.faults, hc.overflow, hc.nodup⟩, id⟩
      · exact .reply s _ _

theorem makeUnpin_unitStep (ks : List Nat) (f : Frame) (s : State) : UnitStep s (makeUnpin ks f s) := by
  unfold makeUnpin
  dsimp only
  split
  · have hslots := UnitStep.of_onlySlots (unpinSlots_onlySlots (pinOwner f) ks ⟨s, false⟩)
    refine (hslots.trans ?_).made _ _ _ _
    exact ⟨by simp, by simp, by simp, by simp, by simp, by simp, by simp⟩
  · exact .reply s _ _

theorem serveUnpin_unitStep (f : Frame) (s : State) : UnitStep s (serveUnpin f s) := by
  unfold serveUnpin
  split
  · exact .refer s _ _ _ _
  · exact makeUnpin_unitStep _ f s

theorem serveComplete_unitStep (f : Frame) (s : State) : UnitStep s (serveComplete f s) := by
  unfold serveComplete
  split
  · exact .refer s _ _ _ _
  · split
    · exact .refer s _ _ _ _
    · split
      · exact .refer s _ _ _ _
      · next i _ _ b _ =>
        unfold acceptCompletion
        dsimp only
        split
        · have hdrop : UnitStep s (s.dropIssued i.tag) := ⟨le_rfl, rfl, rfl, id, id, id, id⟩
          exact (hdrop.trans (.of_endKeeps (completeOrder_keeps s i b _ _))).made _ _ _ _
        · exact .reply s _ _

theorem serveResetWarm_unitStep (f : Frame) (s : State) : UnitStep s (serveResetWarm f s) := by
  unfold serveResetWarm
  split
  · split
    · have hwarm : UnitStep s (warmState s) :=
        ⟨le_rfl, rfl, rfl, fun h => ⟨Nat.zero_le _, h.lapseCount, h.trackers, h.wheel⟩, id, id, id⟩
      have hgone : UnitStep (warmState s)
          ((warmRetirements (warmState s).bt.slots).foldl (fun t kb => t.retire kb.1 kb.2) (warmState s)) :=
        .of_onlySlots (.foldl (fun t (kb : Nat × Binding) => .retire t kb.1 kb.2) _ _)
      refine (hwarm.trans hgone).trans (UnitStep.trans (t := warmEnd (warmState s)) ?_ (.answerOk _ _ _))
      exact ⟨le_rfl, rfl, rfl, id, id, id, id⟩
    · exact .refer s _ _ _ _
    · exact .refer s _ _ _ _
  · exact .refer s _ _ _ _

/-- Every command that goes on with the map it has, the advance apart, gives no token and keeps the ranges. -/
theorem exec_unitStep {s t : State} {c : Instr} (hc : remaps c = false) (hadvance : c ≠ .secondsAdvance)
    (h : exec c s = .next t) : UnitStep s t := by
  have request : ∀ {row serve}, (∀ f (u : State), UnitStep u (serve f u)) → UnitStep s (takeRequest row serve s) :=
    fun hserve => takeRequest_induction (R := UnitStep) (.refl s)
      (fun lif _ _ _ _ _ => (UnitStep.onlyLink s lif).trans (.refer _ _ _ _ _))
      fun lif f _ _ _ _ _ _ => (UnitStep.onlyLink s lif).trans (hserve f _)
  by_cases hquiet : leavesMap c = true
  · exact .of_calm (exec_calm s hquiet h)
  cases c with
  | secondsAdvance => exact absurd rfl hadvance
  | rowExpiry row =>
    obtain rfl := Host.Outcome.next.inj h
    split
    · split
      · split
        · exact ⟨le_rfl, rfl, rfl, id, id, id, id⟩
        · exact .refl s
      · exact .refl s
      · exact .refl s
    · exact .refl s
  | barEnd row =>
    obtain rfl := Host.Outcome.next.inj h
    split
    · split
      · split
        · exact ⟨le_rfl, rfl, rfl, id, id, id, id⟩
        · exact .refl s
      · exact .refl s
      · exact .refl s
    · exact .refl s
  | orderTimeout tag =>
    obtain rfl := Host.Outcome.next.inj h
    split
    · split
      · split
        · split
          · exact timeoutOrder_unitStep s _ _
          · exact .refl s
        · exact .refl s
      · exact .refl s
    · exact .refl s
  | drainPickerRun =>
    obtain rfl := Host.Outcome.next.inj h
    split
    · refine .trans (t := { s with psm := { s.psm with drainRunsOwed := s.psm.drainRunsOwed - 1 } })
        ⟨le_rfl, rfl, rfl, id, id, id, id⟩ ?_
      dsimp only
      split
      · exact .of_runKeeps (drainLoop_keeps _ _)
      · exact .refl _
    · exact .refl s
  | promotionPickerRun =>
    obtain rfl := Host.Outcome.next.inj h
    split
    · have htaken : UnitStep s { s with au := { s.au with runsOwed := s.au.runsOwed - 1 } } :=
        ⟨le_rfl, rfl, rfl, id, id, id, id⟩
      exact (htaken.trans (.of_runKeeps (promoteLoop_keeps _ _))).trans (.of_calm (.settleCredit _))
    · exact .refl s
  | refillScan =>
    obtain rfl := Host.Outcome.next.inj h
    split
    · exact UnitStep.trans (t := { s with pu := { s.pu with scansOwed := s.pu.scansOwed - 1 } })
        ⟨le_rfl, rfl, rfl, id, id, id, id⟩ (.of_runKeeps (refillLoop_keeps _ _))
    · exact .refl s
  | dispatch =>
    obtain rfl := Host.Outcome.next.inj h
    split
    · split
      · exact .refl s
      · split
        · exact .refl s
        · split
          · exact selectOrder_unitStep s _ _ _
          · exact .refl s
    · exact .refl s
  | takeItem => obtain rfl := Host.Outcome.next.inj h; exact takeOneItem_unitStep s
  | planWrite =>
    obtain rfl := Host.Outcome.next.inj h
    exact request fun f u => serveRange_unitStep f u fun start count => servePlanWrite_unitStep start count f u
  | discard =>
    obtain rfl := Host.Outcome.next.inj h
    exact request fun f u => serveRange_unitStep f u fun start count => serveDiscard_unitStep start count f u
  | pin =>
    obtain rfl := Host.Outcome.next.inj h
    exact request fun f u => checkOwner_unitStep f u (servePin_unitStep f u)
  | unpin =>
    obtain rfl := Host.Outcome.next.inj h
    exact request fun f u => checkOwner_unitStep f u (serveUnpin_unitStep f u)
  | unpinAll =>
    obtain rfl := Host.Outcome.next.inj h
    exact request fun f u => checkOwner_unitStep f u (makeUnpin_unitStep _ f u)
  | complete => obtain rfl := Host.Outcome.next.inj h; exact request serveComplete_unitStep
  | resetWarm => obtain rfl := Host.Outcome.next.inj h; exact request serveResetWarm_unitStep
  | _ => simp_all [leavesMap, remaps]

/-! ### The commands that open, import or empty the map or set the policy -/

theorem Policy.set_bMax_ne {p : Policy} {n pinned id v : Nat} (h : id ≠ 3) : (p.set n pinned id v).bMax = p.bMax := by
  unfold Policy.set
  split <;> first | rfl | exact absurd rfl h

theorem UnitsOk.applyPair {s : State} (h : UnitsOk s) (pair : Nat × Nat) : UnitsOk (applyPair s pair) := by
  refine ⟨?_, h.acc, h.hu, h.untracked, h.cfu, h.retry⟩
  show (if pair.1 = 3 then _ else s.au.tokens) ≤ (s.policy.set s.bt.n (pinnedCount s.bt.slots) pair.1 pair.2).bMax
  split
  · exact Nat.min_le_right _ _
  · next hne => rw [Policy.set_bMax_ne hne]; exact h.tokens

theorem UnitsOk.applyPairs {s : State} (h : UnitsOk s) (pairs : List (Nat × Nat)) :
    UnitsOk (pairs.foldl Machine.applyPair s) := by
  induction pairs generalizing s with
  | nil => exact h
  | cons pair pairs ih => exact ih (h.applyPair pair)

theorem importRecord_unitStep (s : State) (r : Record) : UnitStep s (importRecord s r) := by
  unfold importRecord
  split <;> exact ⟨le_rfl, rfl, rfl, id, id, id, id⟩

theorem importRecords_unitStep (rs : List Record) (s : State) : UnitStep s (rs.foldl importRecord s) := by
  induction rs generalizing s with
  | nil => exact .refl s
  | cons r rs ih => exact (importRecord_unitStep s r).trans (ih _)

/-- A full allowance (R71). -/
theorem UnitsOk.fullAllowance {s t : State} (h : UnitsOk s) (ht : t.au.tokens = t.policy.bMax) (ha : t.au.acc = 0)
    (hhu : t.hu = s.hu) (hct : t.ct = s.ct) (hcfu : t.cfu = s.cfu) (hou : t.ou = s.ou) : UnitsOk t :=
  ⟨ht.le, by omega, hhu ▸ h.hu, hct ▸ h.untracked, hcfu ▸ h.cfu, hou ▸ h.retry⟩

theorem unitsOk_reset : UnitsOk State.reset := (unitsOk_iff _).mpr (by decide)

theorem exec_unitsOk_remaps {s t : State} {c : Instr} (hc : remaps c = true) (hs : UnitsOk s) (h : exec c s = .next t) :
    UnitsOk t := by
  have request : ∀ {row serve}, (∀ f (u : State), UnitsOk u → UnitsOk (serve f u)) → UnitsOk (takeRequest row serve s) :=
    fun hserve => takeRequest_induction (R := fun _ v => UnitsOk v) hs
      (fun lif _ _ _ _ _ => hs.step ((UnitStep.onlyLink s lif).trans (.refer _ _ _ _ _)))
      fun lif f _ _ _ _ _ _ => hserve f _ (hs.step (.onlyLink s lif))
  cases c with
  | powerOn => obtain rfl := Host.Outcome.next.inj h; exact unitsOk_reset.step ⟨le_rfl, rfl, rfl, id, id, id, id⟩
  | resetLine => obtain rfl := Host.Outcome.next.inj h; exact unitsOk_reset.step ⟨le_rfl, rfl, rfl, id, id, id, id⟩
  | resetCold =>
    obtain rfl := Host.Outcome.next.inj h
    refine request fun f u hu => UnitsOk.step (s := coldState u) ?_ (.answerOk _ _ _)
    exact ⟨le_rfl, (by decide : 0 < 60), unitsOk_reset.hu, Nat.zero_le _, hu.cfu, Nat.zero_le _⟩
  | attach =>
    obtain rfl := Host.Outcome.next.inj h
    refine request fun f u hu => UnitsOk.step (s := becomeActive (openMap f u)) (hu.fullAllowance rfl rfl rfl rfl rfl rfl) ?_
    exact ⟨le_rfl, rfl, rfl, id, id, fun hc => ⟨hc.faults, hc.overflow, hc.nodup⟩, id⟩
  | importBegin =>
    obtain rfl := Host.Outcome.next.inj h
    exact request fun f u hu => hu.step ⟨le_rfl, rfl, rfl, id, id, fun hc => ⟨hc.faults, hc.overflow, hc.nodup⟩, id⟩
  | importPut =>
    obtain rfl := Host.Outcome.next.inj h
    exact request fun f u hu => hu.step ((importRecords_unitStep _ u).trans (.answerOk _ _ _))
  | importEnd =>
    obtain rfl := Host.Outcome.next.inj h
    refine request fun f u hu => ?_
    unfold serveImportEnd
    dsimp only
    split
    · exact UnitsOk.step (s := commitImport u) (hu.fullAllowance rfl rfl rfl rfl rfl rfl) (.answerOk _ _ _)
    · exact UnitsOk.step (s := dropImport u) (hu.step ⟨le_rfl, rfl, rfl, id, id, id, id⟩) (.refer _ _ _ _ _)
  | policy =>
    obtain rfl := Host.Outcome.next.inj h
    refine request fun f u hu => ?_
    unfold servePolicy
    split
    · exact hu.step (.refer u _ _ _ _)
    · exact (hu.applyPairs _).step (.answerOk _ _ _)
  | _ => cases hc

theorem exec_unitsOk (s t : State) (c : Instr) (hs : UnitsOk s) (h : exec c s = .next t) : UnitsOk t := by
  by_cases hc : remaps c = true
  · exact exec_unitsOk_remaps hc hs h
  · by_cases hadvance : c = .secondsAdvance
    · subst hadvance
      obtain rfl := Host.Outcome.next.inj h
      exact hs.advance
    · exact hs.step (exec_unitStep (Bool.eq_false_iff.mpr hc) hadvance h)

/-- Settles O57: no command but the advance, the opening of a map and a POLICY gives a token, and each keeps the ranges. -/
theorem everyStepKeepsTheUnitLaws : Obligations.EveryStepKeepsTheUnitLaws := by
  unfold Obligations.EveryStepKeepsTheUnitLaws
  intro s t _ htokens hunits h
  have hs : UnitsOk s := (unitsOk_iff s).mpr ⟨htokens, hunits⟩
  refine (unitsOk_iff t).mp ?_
  rcases step_cases h with ⟨c, rest, -, hexec⟩ | rfl | rfl
  · exact exec_unitsOk { s with pending := rest } t c (hs.step ⟨le_rfl, rfl, rfl, id, id, id, id⟩) hexec
  · exact hs.step (.of_calm (.finishFrame s))
  · exact hs

end Sys2Proof.Machine
end


section
/-! SUPPORT. The pull credit, the request intake, the request for the lane and the SYNC mark over every step. -/

namespace Sys2Proof.Machine

/-! ### The law of the link, its credit apart -/

/-- The law of the link but that no credit is held while ATTN is deasserted. -/
structure LinkPre (s : State) : Prop where
  credit_le : s.lif.credit ≤ 16
  intake_le : s.lif.intake.length ≤ 8
  asking : s.lif.deltaAsking = true → s.mju.log ≠ []
  sending : sendingReply s = true → s.lif.reply = none
  sync : ∀ w, s.mju.sync = some w → 0 < w.mark ∧ w.mark ≤ s.mju.log.length ∧ s.lif.reply = none

theorem linkLaw_iff (s : State) : linkLaw s = true ↔ (attn s = true ∨ s.lif.credit = 0) ∧ LinkPre s := by
  have himp : ∀ {p q : Bool} {P Q : Prop}, (p = true ↔ P) → (q = true ↔ Q) → ((!p || q) = true ↔ (P → Q)) := by
    intro p q P Q hp hq
    rw [← hp, ← hq]
    cases p <;> simp
  have hasking := himp (P := s.lif.deltaAsking = true) (q := !s.mju.log.isEmpty) (Q := s.mju.log ≠ []) Iff.rfl (by simp)
  have hsending := himp (P := sendingReply s = true) (q := s.lif.reply.isNone) (Q := s.lif.reply = none) Iff.rfl (by simp)
  unfold linkLaw
  simp only [Bool.and_eq_true, decide_eq_true_eq, Bool.or_eq_true (attn s), hasking, hsending]
  cases hw : s.mju.sync with
  | none =>
    constructor
    · rintro ⟨⟨⟨⟨⟨h1, h2⟩, h3⟩, h4⟩, h5⟩, -⟩; exact ⟨h1, h2, h3, h4, h5, fun w h => by rw [hw] at h; cases h⟩
    · rintro ⟨h1, h2, h3, h4, h5, -⟩; exact ⟨⟨⟨⟨⟨h1, h2⟩, h3⟩, h4⟩, h5⟩, rfl⟩
  | some w =>
    constructor
    · rintro ⟨⟨⟨⟨⟨h1, h2⟩, h3⟩, h4⟩, h5⟩, h6⟩
      refine ⟨h1, h2, h3, h4, h5, fun w' h => ?_⟩
      obtain rfl : w = w' := Option.some.inj (hw ▸ h)
      simpa [and_assoc] using h6
    · rintro ⟨h1, h2, h3, h4, h5, h6⟩
      exact ⟨⟨⟨⟨⟨h1, h2⟩, h3⟩, h4⟩, h5⟩, by simpa [and_assoc] using h6 w hw⟩

/-- After the credit is settled the law holds whole (R167). -/
theorem LinkPre.settleCredit {s : State} (h : LinkPre s) : linkLaw s.settleCredit = true := by
  unfold State.settleCredit
  split
  · next hattn => exact (linkLaw_iff s).mpr ⟨.inl hattn, h⟩
  · exact (linkLaw_iff _).mpr ⟨.inr rfl, Nat.zero_le _, h.intake_le, h.asking, h.sending, h.sync⟩

theorem LinkPre.finishFrame {s : State} (h : LinkPre s) : linkLaw s.finishFrame = true :=
  LinkPre.settleCredit ⟨h.credit_le, h.intake_le, h.asking, fun hs => by simp [sendingReply] at hs, h.sync⟩

/-- A change of the part that leaves the lane, the intake, the reply and the SYNC, and lets the log grow. -/
structure LinkStep (s t : State) : Prop where
  upLane : t.lif.upLane = s.lif.upLane
  credit : t.lif.credit = s.lif.credit
  intake : t.lif.intake = s.lif.intake
  reply : t.lif.reply = s.lif.reply
  sync : t.mju.sync = s.mju.sync
  log : s.mju.log.length ≤ t.mju.log.length
  asking : (s.lif.deltaAsking = true → s.mju.log ≠ []) → t.lif.deltaAsking = true → t.mju.log ≠ []

namespace LinkStep
variable {s t u : State}

theorem refl (s : State) : LinkStep s s := ⟨rfl, rfl, rfl, rfl, rfl, le_rfl, id⟩

theorem trans (h : LinkStep s t) (h' : LinkStep t u) : LinkStep s u :=
  ⟨h'.upLane.trans h.upLane, h'.credit.trans h.credit, h'.intake.trans h.intake, h'.reply.trans h.reply,
    h'.sync.trans h.sync, h.log.trans h'.log, h'.asking ∘ h.asking⟩

theorem pre (h : LinkStep s t) (hs : LinkPre s) : LinkPre t where
  credit_le := h.credit ▸ hs.credit_le
  intake_le := h.intake ▸ hs.intake_le
  asking := h.asking hs.asking
  sending := by rw [sendingReply, h.upLane, h.reply]; exact hs.sending
  sync w hw := by
    obtain ⟨h1, h2, h3⟩ := hs.sync w (h.sync ▸ hw)
    exact ⟨h1, h2.trans h.log, h.reply ▸ h3⟩

/-- A change after which ATTN stands as asserted. -/
theorem law (h : LinkStep s t) (hattn : attn s = true → attn t = true) (hs : linkLaw s = true) : linkLaw t = true := by
  obtain ⟨hcredit, hpre⟩ := (linkLaw_iff s).mp hs
  exact (linkLaw_iff t).mpr ⟨hcredit.imp hattn fun h0 => h.credit.trans h0, h.pre hpre⟩

theorem of_eq (hlif : t.lif = s.lif) (hmju : t.mju = s.mju) : LinkStep s t :=
  ⟨by rw [hlif], by rw [hlif], by rw [hlif], by rw [hlif], by rw [hmju], by rw [hmju], by rw [hlif, hmju]; exact id⟩

theorem of_endKeeps (h : s.EndKeeps t) : LinkStep s t := of_eq h.lif h.mju

theorem of_onlySlots (h : s.OnlySlots t) : LinkStep s t := of_endKeeps h.endKeeps

theorem dropIssued (s : State) (t : Tag) : LinkStep s (s.dropIssued t) := ⟨rfl, rfl, rfl, rfl, rfl, le_rfl, id⟩

end LinkStep

/-- The part's other blocks change: the law of the link stands. -/
theorem linkLaw_of_eq {s t : State} (hlif : t.lif = s.lif) (hmju : t.mju = s.mju) (hs : linkLaw s = true) :
    linkLaw t = true :=
  (LinkStep.of_eq hlif hmju).law (by unfold attn; rw [hlif, hmju]; exact id) hs

theorem deltaWanted_log {now : Time} {p : Policy} {j : Journal} (h : deltaWanted now p j = true) : j.log ≠ [] := by
  unfold deltaWanted at h
  split at h
  · cases h
  · next heq => simp [heq]

theorem logChange_linkStep (s : State) (before : List (Nat × Slot)) (ks : List Nat) :
    LinkStep s (s.logChange before ks) :=
  ⟨rfl, rfl, rfl, rfl, rfl, (grownLog_prefix _ _ _ _ _).length_le, fun _ => deltaWanted_log⟩

theorem askDelta_linkStep (s : State) : LinkStep s s.askDelta :=
  ⟨rfl, rfl, rfl, rfl, rfl, le_rfl, fun _ => deltaWanted_log⟩

theorem promoteLoop_linkStep (fuel : Nat) (s : State) : LinkStep s (promoteLoop fuel s) := by
  induction fuel generalizing s with
  | zero => exact .refl s
  | succ fuel ih =>
    unfold promoteLoop
    split
    · exact .refl s
    · split
      · exact .refl s
      · next i w _ =>
        split
        · exact LinkStep.trans (t := clearFlag s i w) (.of_eq rfl rfl) (ih _)
        · split
          · exact .refl s
          · next k strikes _ =>
            refine LinkStep.trans ?_ (ih _)
            exact ⟨rfl, rfl, rfl, rfl, rfl, (grownLog_prefix _ _ _ _ _).length_le, fun _ => deltaWanted_log⟩

theorem drainLoop_link (fuel : Nat) (s : State) : (drainLoop fuel s).lif = s.lif ∧ (drainLoop fuel s).mju = s.mju := by
  induction fuel generalizing s with
  | zero => exact ⟨rfl, rfl⟩
  | succ fuel ih =>
    unfold drainLoop
    split
    · exact ⟨rfl, rfl⟩
    · split
      · exact ⟨rfl, rfl⟩
      · exact ih _

theorem refillLoop_link (fuel : Nat) (s : State) : (refillLoop fuel s).lif = s.lif ∧ (refillLoop fuel s).mju = s.mju := by
  induction fuel generalizing s with
  | zero => exact ⟨rfl, rfl⟩
  | succ fuel ih =>
    unfold refillLoop
    split
    · exact ⟨rfl, rfl⟩
    · split
      · exact ⟨rfl, rfl⟩
      · exact ih _

/-! ### Requests (R158, R172) -/

/-- What the service of a request keeps of the link: all but the reply, ORDER frames withdrawn and the request for the lane. -/
structure LinkServe (s t : State) : Prop where
  upLane : t.lif.upLane = s.lif.upLane
  credit : t.lif.credit = s.lif.credit
  intake : t.lif.intake = s.lif.intake
  sync : s.mju.sync = none → t.mju.sync = none
  asking : (s.lif.deltaAsking = true → s.mju.log ≠ []) → t.lif.deltaAsking = true → t.mju.log ≠ []

namespace LinkServe
variable {s t u : State}

theorem refl (s : State) : LinkServe s s := ⟨rfl, rfl, rfl, id, id⟩

theorem trans (h : LinkServe s t) (h' : LinkServe t u) : LinkServe s u :=
  ⟨h'.upLane.trans h.upLane, h'.credit.trans h.credit, h'.intake.trans h.intake, h'.sync ∘ h.sync, h'.asking ∘ h.asking⟩

theorem of_step (h : LinkStep s t) : LinkServe s t := ⟨h.upLane, h.credit, h.intake, fun hs => h.sync.trans hs, h.asking⟩

theorem of_eq (hlif : t.lif = s.lif) (hmju : t.mju = s.mju) : LinkServe s t := of_step (.of_eq hlif hmju)

end LinkServe

/-- A request taken in `s` is served: it has its reply, or, for a SYNC, a mark to wait for. -/
structure Answered (s t : State) : Prop where
  kept : LinkServe s t ∧ t.lif.reply.isSome = true ∨ s.mju.log ≠ []
    ∧ t.lif = { s.lif with deltaAsking := true } ∧ t.mju.log = s.mju.log ∧ ∃ tag, t.mju.sync = some ⟨tag, s.mju.log.length⟩

namespace Answered
variable {s t : State}

theorem answerOk (h : LinkServe s t) (tag : Tag) (b : OkBody) : Answered s (t.answerOk tag b) :=
  ⟨.inl ⟨⟨h.upLane, h.credit, h.intake, h.sync, h.asking⟩, rfl⟩⟩

theorem refer (h : LinkServe s t) (f : Frame) (key : CondKey) (code : CondCode) (n : Nat) :
    Answered s (t.refer f key code n) :=
  ⟨.inl ⟨⟨h.upLane, h.credit, h.intake, h.sync, h.asking⟩, rfl⟩⟩

theorem reply (h : LinkServe s t) (tag : Tag) (body : ReplyBody) : Answered s (t.reply tag body) :=
  ⟨.inl ⟨⟨h.upLane, h.credit, h.intake, h.sync, h.asking⟩, rfl⟩⟩

/-- A change made whole and answered OK. -/
theorem made (h : LinkServe s t) (before : List (Nat × Slot)) (ks : List Nat) (tag : Tag) (b : OkBody) :
    Answered s ((t.logChange before ks).answerOk tag b) :=
  answerOk (h.trans (.of_step (logChange_linkStep t before ks))) tag b

/-- The law of the link where the handler was free (R172). -/
theorem law {u : State} (h : Answered u t) (hfree : u.mju.sync = none ∧ u.lif.reply = none ∧ sendingReply u = false)
    (hu : LinkPre u) : linkLaw t = true := by
  obtain ⟨hsync, hreply, hsending⟩ := hfree
  rw [linkLaw_iff]
  rcases h.kept with ⟨hkept, hanswer⟩ | ⟨hlog, hlif, hlog', tag, hwait⟩
  · have hidle : sendingReply t = false := by rw [sendingReply, hkept.upLane]; exact hsending
    refine ⟨.inl (by simp [attn, hanswer]), hkept.credit ▸ hu.credit_le, hkept.intake ▸ hu.intake_le, hkept.asking hu.asking,
      fun hs => absurd (hidle.symm.trans hs) Bool.false_ne_true, fun w hw => ?_⟩
    rw [hkept.sync hsync] at hw
    cases hw
  · have hasking : t.lif.deltaAsking = true := by rw [hlif]
    refine ⟨.inl (by simp [attn, hasking]), by rw [hlif]; exact hu.credit_le, by rw [hlif]; exact hu.intake_le,
      fun _ => hlog' ▸ hlog, fun _ => by rw [hlif]; exact hreply, fun w hw => ?_⟩
    obtain rfl : w = ⟨tag, u.mju.log.length⟩ := by rw [hwait] at hw; exact (Option.some.inj hw).symm
    exact ⟨List.length_pos_iff.mpr hlog, by rw [hlog'], by rw [hlif]; exact hreply⟩

end Answered

/-- A request whose every service answers it. -/
theorem takeRequest_linkLaw {row : RequestRow} {serve : Frame → State → State} {s : State} (hs : linkLaw s = true)
    (hserve : ∀ f (u : State), Answered u (serve f u)) : linkLaw (takeRequest row serve s) = true := by
  rcases takeRequest_cases row serve s with heq | ⟨u, f, rest, rfl, hfree, hi, -, hcase⟩
  · rw [heq]; exact hs
  obtain ⟨hsync, hreply, hsending, -⟩ := (handlerFree_iff _).mp hfree
  have hu : LinkPre s.replySent := by
    rcases replySent_cases s with heq | ⟨-, heq⟩ <;> rw [heq]
    · exact ((linkLaw_iff s).mp hs).2
    · exact ((linkLaw_iff _).mp ((linkLaw_iff s).mp hs).2.finishFrame).2
  have htaken : LinkPre (s.replySent.taken rest) :=
    ⟨hu.credit_le, by have := hu.intake_le; rw [hi] at this; exact (Nat.le_succ _).trans this, hu.asking, hu.sending, hu.sync⟩
  have hanswered : Answered (s.replySent.taken rest) (takeRequest row serve s) := by
    rcases hcase with ⟨code, -, heq⟩ | ⟨-, -, heq⟩ | ⟨-, -, heq⟩ <;> rw [heq]
    · exact .refer (.refl _) _ _ _ _
    · exact .refer (.refl _) _ _ _ _
    · exact hserve f _
  exact hanswered.law ⟨hsync, hreply, hsending⟩ htaken

section
variable (f : Frame) (s : State)

theorem serveRange_answered {serve : Nat → Nat → Frame → State → State} (h : ∀ start count, Answered s (serve start count f s)) :
    Answered s (serveRange serve f s) := by
  unfold serveRange
  split
  · exact .refer (.refl s) _ _ _ _
  · exact h _ _

theorem servePlanWrite_answered (start count : Nat) : Answered s (servePlanWrite start count f s) := by
  unfold servePlanWrite
  split
  · exact .reply (.refl s) _ _
  · next p _ =>
    split
    · have hplan : LinkServe s ((s.withSlots p.slots).withRows p.rows) := .of_eq rfl rfl
      exact .made hplan _ _ _ _
    · exact .reply (.refl s) _ _

theorem serveDiscard_answered (start count : Nat) : Answered s (serveDiscard start count f s) := by
  unfold serveDiscard
  dsimp only
  split
  · have hshares := LinkStep.of_onlySlots (discardShares_onlySlots (sharesOf start count) ⟨s, [], false, false⟩)
    exact .made (.of_step (hshares.trans (.of_eq (by simp) (by simp)))) _ _ _ _
  · exact .reply (.refl s) _ _

theorem checkOwner_answered {serve : Frame → State → State} (h : Answered s (serve f s)) :
    Answered s (checkOwner serve f s) := by
  unfold checkOwner
  split
  · exact .refer (.refl s) _ _ _ _
  · split
    · exact .refer (.refl s) _ _ _ _
    · split
      · have halert : LinkServe s { s with pu := s.pu.setAlert (pinOwner f) none } := .of_eq rfl rfl
        exact .refer halert _ _ _ _
      · exact h

theorem servePin_answered : Answered s (servePin f s) := by
  unfold servePin makePin
  dsimp only
  split
  · exact .refer (.refl s) _ _ _ _
  · split
    · exact .refer (.refl s) _ _ _ _
    · split
      · refine .made (.of_eq ?_ ?_) _ _ _ _ <;> rfl
      · exact .reply (.refl s) _ _

theorem makeUnpin_answered (ks : List Nat) : Answered s (makeUnpin ks f s) := by
  unfold makeUnpin
  dsimp only
  split
  · have hslots := LinkStep.of_onlySlots (unpinSlots_onlySlots (pinOwner f) ks ⟨s, false⟩)
    exact .made (.of_step (hslots.trans (.of_eq (by simp) (by simp)))) _ _ _ _
  · exact .reply (.refl s) _ _

theorem serveUnpin_answered : Answered s (serveUnpin f s) := by
  unfold serveUnpin
  split
  · exact .refer (.refl s) _ _ _ _
  · exact makeUnpin_answered f s _

theorem serveComplete_answered : Answered s (serveComplete f s) := by
  unfold serveComplete
  split
  · exact .refer (.refl s) _ _ _ _
  · split
    · exact .refer (.refl s) _ _ _ _
    · split
      · exact .refer (.refl s) _ _ _ _
      · next i _ _ b _ =>
        unfold acceptCompletion
        dsimp only
        split
        · exact .made (.of_step ((LinkStep.dropIssued s i.tag).trans (.of_endKeeps (completeOrder_keeps s i b _ _)))) _ _ _ _
        · exact .reply (.refl s) _ _

theorem serveResetWarm_answered : Answered s (serveResetWarm f s) := by
  unfold serveResetWarm
  split
  · split
    · have hwarm : LinkServe s (warmState s) := ⟨rfl, rfl, rfl, id, fun _ h => by cases h⟩
      have hgone : LinkServe (warmState s)
          ((warmRetirements (warmState s).bt.slots).foldl (fun t kb => t.retire kb.1 kb.2) (warmState s)) :=
        .of_step (.of_onlySlots (.foldl (fun t (kb : Nat × Binding) => .retire t kb.1 kb.2) _ _))
      refine .answerOk (t := warmEnd (warmState s)) ((hwarm.trans hgone).trans ?_) _ _
      exact ⟨rfl, rfl, rfl, id, fun _ => deltaWanted_log⟩
    · exact .refer (.refl s) _ _ _ _
    · exact .refer (.refl s) _ _ _ _
  · exact .refer (.refl s) _ _ _ _

theorem serveQueueControl_answered {act : QueueId → State → State} (h : ∀ q, LinkServe s (act q s)) :
    Answered s (serveQueueControl act f s) := by
  unfold serveQueueControl
  split
  · exact .refer (.refl s) _ _ _ _
  · split
    · exact .refer (.refl s) _ _ _ _
    · exact .answerOk (h _) _ _

theorem importRecords_link (rs : List Record) (s : State) : LinkServe s (rs.foldl importRecord s) := by
  induction rs generalizing s with
  | nil => exact .refl s
  | cons r rs ih =>
    refine LinkServe.trans ?_ (ih _)
    unfold importRecord
    split <;> exact ⟨rfl, rfl, rfl, id, id⟩

theorem applyPairs_link (pairs : List (Nat × Nat)) (s : State) : LinkServe s (pairs.foldl applyPair s) := by
  induction pairs generalizing s with
  | nil => exact .refl s
  | cons pair pairs ih => exact LinkServe.trans (t := applyPair s pair) ⟨rfl, rfl, rfl, id, id⟩ (ih _)

theorem serveSync_answered : Answered s (serveSync f s) := by
  unfold serveSync
  split
  · exact .answerOk (.refl s) _ _
  · next hlog =>
    have hlog : s.mju.log ≠ [] := by simpa using hlog
    refine ⟨.inr ⟨hlog, ?_, rfl, f.tag, rfl⟩⟩
    have hwanted : deltaWanted s.seconds s.policy { s.mju with sync := some ⟨f.tag, s.mju.log.length⟩ } = true := by
      obtain ⟨e, log, heq⟩ := List.exists_cons_of_ne_nil hlog
      simp [deltaWanted, heq]
    simp [hwanted]

end

/-! ### The down lane and the up lane -/

theorem LinkStep.withRx (s : State) (rx : List Byte) : LinkStep s (s.withRx rx) := ⟨rfl, rfl, rfl, rfl, rfl, le_rfl, id⟩

theorem withRx_linkLaw {s : State} (hs : linkLaw s = true) (rx : List Byte) : linkLaw (s.withRx rx) = true :=
  (LinkStep.withRx s rx).law id hs

theorem recordFault_linkLaw {s : State} (hs : linkLaw s = true) (kind : FaultKind) (subject : Subject) :
    linkLaw (s.recordFault kind subject) = true := linkLaw_of_eq (by simp) (by simp) hs

/-- An ADVICE frame made leaves ATTN asserted. -/
theorem advise_linkLaw {s t : State} (hs : linkLaw s = true) {a : Option Advice} (ha : a.isSome = true)
    (hlif : t.lif = { s.lif with advice := a }) (hmju : t.mju = s.mju) : linkLaw t = true := by
  refine LinkStep.law (s := s) ⟨by rw [hlif], by rw [hlif], by rw [hlif], by rw [hlif], by rw [hmju], by rw [hmju],
    by rw [hlif, hmju]; exact id⟩ (fun _ => ?_) hs
  rw [attn, hlif]
  simp [ha]

theorem takePull_linkLaw {s : State} (hs : linkLaw s = true) : linkLaw (takePull s) = true := by
  unfold takePull
  split
  · next hattn =>
    have hpre := ((linkLaw_iff s).mp hs).2
    exact (linkLaw_iff _).mpr ⟨.inl hattn, Nat.min_le_left _ _, hpre.intake_le, hpre.asking, hpre.sending, hpre.sync⟩
  · exact hs

theorem offerRequest_linkLaw {s : State} (hs : linkLaw s = true) (f : Frame) : linkLaw (offerRequest f s) = true := by
  unfold offerRequest
  split
  · next hroom =>
    obtain ⟨hcredit, hpre⟩ := (linkLaw_iff s).mp hs
    refine (linkLaw_iff _).mpr ⟨hcredit, hpre.credit_le, ?_, hpre.asking, hpre.sending, hpre.sync⟩
    simpa using hroom
  · exact recordFault_linkLaw hs _ _

theorem offerItem_link (s : State) (item : AccessItem) : (offerItem s item).lif = s.lif ∧ (offerItem s item).mju = s.mju := by
  unfold offerItem
  split
  · exact ⟨rfl, rfl⟩
  · split
    · exact ⟨rfl, rfl⟩
    · simp

theorem takeAccess_linkLaw {s : State} (hs : linkLaw s = true) (f : Frame) : linkLaw (takeAccess f s) = true := by
  have hoffers : ∀ (items : List AccessItem) (u : State), (items.foldl offerItem u).lif = u.lif
      ∧ (items.foldl offerItem u).mju = u.mju := fun items => by
    induction items with
    | nil => exact fun _ => ⟨rfl, rfl⟩
    | cons item items ih =>
      exact fun u => ⟨(ih _).1.trans (offerItem_link u item).1, (ih _).2.trans (offerItem_link u item).2⟩
  unfold takeAccess
  split
  · split
    · split
      · exact linkLaw_of_eq (hoffers _ s).1 (hoffers _ s).2 hs
      · exact recordFault_linkLaw hs _ _
    · exact hs
  · exact recordFault_linkLaw hs _ _

theorem leaveReady_linkLaw {s : State} (hs : linkLaw s = true) : linkLaw (leaveReady s) = true := by
  unfold leaveReady
  dsimp only
  split
  · exact linkLaw_of_eq rfl rfl hs
  all_goals exact advise_linkLaw hs rfl rfl rfl

theorem takePlatter_linkLaw {s : State} (hs : linkLaw s = true) (f : Frame) : linkLaw (takePlatter f s) = true := by
  unfold takePlatter
  split
  · split
    · unfold recordPlatter
      dsimp only
      split
      · exact hs
      · split
        · split
          · exact linkLaw_of_eq rfl rfl hs
          · split
            · exact leaveReady_linkLaw (linkLaw_of_eq rfl rfl hs)
            · exact linkLaw_of_eq rfl rfl hs
        · exact linkLaw_of_eq rfl rfl hs
    · exact recordFault_linkLaw hs _ _
  · exact recordFault_linkLaw hs _ _

theorem takeSupply_linkLaw {s : State} (hs : linkLaw s = true) (f : Frame) : linkLaw (takeSupply f s) = true := by
  unfold takeSupply
  split
  · split
    · exact linkLaw_of_eq rfl rfl hs
    · exact recordFault_linkLaw hs _ _
  · exact recordFault_linkLaw hs _ _

theorem receiveNotice_linkLaw {kind : Byte} {serve : Frame → State → State} {s : State} (bytes : List Byte)
    (hs : linkLaw s = true) (h : ∀ f (u : State), linkLaw u = true → linkLaw (serve f u) = true) :
    linkLaw (receiveNotice kind serve bytes s) = true := by
  rcases receiveNotice_cases kind serve bytes s with heq | ⟨held, -, heq⟩ | ⟨f, rest, -, -, heq⟩ <;> rw [heq]
  · exact hs
  · exact withRx_linkLaw hs held
  · exact h f _ (withRx_linkLaw hs rest)

theorem frameEnd_linkLaw {s : State} (hs : linkLaw s = true) : linkLaw s.frameEnd = true := by
  unfold State.frameEnd
  split
  · exact ((linkLaw_iff s).mp hs).2.finishFrame
  · exact hs

/-- The law reads of the Journal the log and the SYNC alone, and of the link no ORDER frame or ADVICE. -/
theorem LinkPre.of_eq {s t : State} (hs : LinkPre s) (hcredit : t.lif.credit = s.lif.credit)
    (hintake : t.lif.intake = s.lif.intake) (hasking : t.lif.deltaAsking = s.lif.deltaAsking)
    (hlane : t.lif.upLane = s.lif.upLane) (hreply : t.lif.reply = s.lif.reply) (hlog : t.mju.log = s.mju.log)
    (hsync : t.mju.sync = s.mju.sync) : LinkPre t where
  credit_le := hcredit ▸ hs.credit_le
  intake_le := hintake ▸ hs.intake_le
  asking := by rw [hasking, hlog]; exact hs.asking
  sending := by rw [sendingReply, hlane, hreply]; exact hs.sending
  sync := by rw [hsync, hlog, hreply]; exact hs.sync

/-- A frame that is no REPLY starts: ATTN stays asserted while it is sent. -/
theorem startFrame_linkLaw {s : State} (hs : LinkPre s) {f : Frame} (hf : f.kind ≠ Kind.reply) :
    linkLaw (s.startFrame f) = true := by
  refine (linkLaw_iff _).mpr ⟨.inl (by simp [attn]), (Nat.sub_le _ _).trans hs.credit_le, hs.intake_le, hs.asking,
    fun hsend => ?_, hs.sync⟩
  simp [sendingReply, hf] at hsend

theorem sendDelta_linkLaw {s : State} (hs : LinkPre s) : linkLaw (sendDelta s) = true := by
  have hsent : s.mju.log.length - min 16 s.mju.log.length = (s.mju.log.drop 16).length := by
    rw [List.length_drop]; omega
  have hkind : (⟨Kind.delta, 0#16, recordsBody (deltaRecords s)⟩ : Frame).kind ≠ Kind.reply := by simp [Kind.delta, Kind.reply]
  unfold sendDelta State.lowerMark
  dsimp only
  cases hsync : s.mju.sync with
  | none =>
    refine (linkLaw_iff _).mpr ⟨.inl (by simp [attn]), (Nat.sub_le _ _).trans hs.credit_le, hs.intake_le, deltaWanted_log,
      fun hsend => ?_, fun w hw => ?_⟩
    · simp [sendingReply, Kind.delta, Kind.reply] at hsend
    · simp at hw
  | some w =>
    obtain ⟨hpos, hle, hreply⟩ := hs.sync w hsync
    dsimp only
    split
    · refine (linkLaw_iff _).mpr ⟨.inl (by simp [attn]), (Nat.sub_le _ _).trans hs.credit_le, hs.intake_le, deltaWanted_log,
        fun hsend => ?_, fun w hw => ?_⟩
      · simp [sendingReply, Kind.delta, Kind.reply] at hsend
      · simp at hw
    · next hmark =>
      refine (linkLaw_iff _).mpr ⟨.inl (by simp [attn]), (Nat.sub_le _ _).trans hs.credit_le, hs.intake_le, deltaWanted_log,
        fun hsend => ?_, fun w' hw => ?_⟩
      · simp [sendingReply, Kind.delta, Kind.reply] at hsend
      · obtain rfl : (⟨w.tag, w.mark - min 16 s.mju.log.length⟩ : SyncWait) = w' := Option.some.inj hw
        refine ⟨Nat.sub_pos_of_lt (Nat.lt_of_not_le hmark), ?_, hreply⟩
        show w.mark - min 16 s.mju.log.length ≤ (s.mju.log.drop 16).length
        omega

/-- A frame is started with what it carries taken off its place, which the law does not read. -/
theorem startFrame_of_linkPre {s u : State} (hs : LinkPre s) (hcredit : u.lif.credit = s.lif.credit)
    (hintake : u.lif.intake = s.lif.intake) (hasking : u.lif.deltaAsking = s.lif.deltaAsking)
    (hlane : u.lif.upLane = s.lif.upLane) (hreply : u.lif.reply = s.lif.reply) (hlog : u.mju.log = s.mju.log)
    (hsync : u.mju.sync = s.mju.sync) {f : Frame} (hf : f.kind ≠ Kind.reply) : linkLaw (u.startFrame f) = true :=
  startFrame_linkLaw (hs.of_eq hcredit hintake hasking hlane hreply hlog hsync) hf

theorem sendExportEnd_linkLaw {s : State} (hs : LinkPre s) (sent : Nat) : linkLaw (sendExportEnd s sent) = true :=
  startFrame_of_linkPre (u := { s with mju := { s.mju with exporting := none, stale := false } }) hs rfl rfl rfl rfl rfl
    rfl rfl (by simp [Kind.exportEnd, Kind.reply])

theorem sendExportData_linkLaw {s : State} (hs : LinkPre s) (x : Exporting) :
    linkLaw (sendExportData s x) = true := by
  unfold sendExportData
  split
  · exact sendExportEnd_linkLaw hs x.sent
  · next k ks _ =>
    exact startFrame_of_linkPre
      (u := { s with mju := { s.mju with
        exporting := some ⟨cursorAfter s.bt.n (k :: ks), x.sent + (k :: ks).length⟩ } })
      hs rfl rfl rfl rfl rfl rfl rfl (by simp [Kind.exportData, Kind.reply])

/-! ### The rows of the lane -/

section
variable {s t : State} (hs : linkLaw s = true)
include hs

theorem linkPre_of_linkLaw : LinkPre s := ((linkLaw_iff s).mp hs).2

theorem execSendReply_linkLaw (h : exec .sendReply s = .next t) : linkLaw t = true := by
  obtain rfl := Host.Outcome.next.inj h
  have hpre := linkPre_of_linkLaw hs
  split
  · split
    · exact (linkLaw_iff _).mpr ⟨.inl (by simp [attn]), (Nat.sub_le _ _).trans hpre.credit_le, hpre.intake_le, hpre.asking,
        fun _ => rfl, fun w hw => ⟨(hpre.sync w hw).1, (hpre.sync w hw).2.1, rfl⟩⟩
    · exact hs
  · exact frameEnd_linkLaw hs

theorem execSendOrder_linkLaw (h : exec .sendOrder s = .next t) : linkLaw t = true := by
  obtain rfl := Host.Outcome.next.inj h
  split
  · split
    · next o rest _ =>
      exact startFrame_of_linkPre (u := { s with lif := { s.lif with orderFrames := rest } }) (linkPre_of_linkLaw hs)
        rfl rfl rfl rfl rfl rfl rfl (by simp [orderFrameOf, Kind.order, Kind.reply])
    · exact hs
  · exact frameEnd_linkLaw hs

theorem execDelta_linkLaw (h : exec .delta s = .next t) : linkLaw t = true := by
  obtain rfl := Host.Outcome.next.inj h
  split
  · split
    · exact hs
    · exact sendDelta_linkLaw (linkPre_of_linkLaw hs)
  · exact frameEnd_linkLaw hs

theorem execExportData_linkLaw (h : exec .exportData s = .next t) : linkLaw t = true := by
  obtain rfl := Host.Outcome.next.inj h
  split
  · split
    · next x _ =>
      split
      · exact sendExportData_linkLaw (linkPre_of_linkLaw hs) x
      · exact hs
    · exact hs
  · exact frameEnd_linkLaw hs

theorem execExportEnd_linkLaw (h : exec .exportEnd s = .next t) : linkLaw t = true := by
  obtain rfl := Host.Outcome.next.inj h
  split
  · split
    · next x _ =>
      split
      · exact sendExportEnd_linkLaw (linkPre_of_linkLaw hs) x.sent
      · exact hs
    · exact hs
  · exact frameEnd_linkLaw hs

theorem execSendAdvice_linkLaw (h : exec .sendAdvice s = .next t) : linkLaw t = true := by
  obtain rfl := Host.Outcome.next.inj h
  split
  · split
    · next a _ =>
      exact startFrame_of_linkPre (u := { s with lif := { s.lif with advice := none } }) (linkPre_of_linkLaw hs)
        rfl rfl rfl rfl rfl rfl rfl (by simp [adviceFrame, Kind.advice, Kind.reply])
    · exact hs
  · exact frameEnd_linkLaw hs

end

/-! ### Every step -/

theorem exec_linkLaw (s t : State) (c : Instr) (hs : linkLaw s = true) (h : exec c s = .next t) : linkLaw t = true := by
  have hpre := linkPre_of_linkLaw hs
  cases c with
  | powerOn | resetLine =>
    obtain rfl := Host.Outcome.next.inj h
    exact linkLaw_of_eq (s := State.reset) rfl rfl (by decide)
  | secondsAdvance =>
    obtain rfl := Host.Outcome.next.inj h
    split <;> exact linkLaw_of_eq rfl rfl hs
  | rowExpiry row =>
    obtain rfl := Host.Outcome.next.inj h
    split
    · split
      · split
        · exact linkLaw_of_eq rfl rfl hs
        · exact hs
      · exact hs
      · exact hs
    · exact hs
  | barEnd row =>
    obtain rfl := Host.Outcome.next.inj h
    split
    · split
      · split
        · exact linkLaw_of_eq rfl rfl hs
        · exact hs
      · exact hs
      · exact hs
    · exact hs
  | backoffEnd slot =>
    obtain rfl := Host.Outcome.next.inj h
    split
    · exact linkLaw_of_eq rfl rfl hs
    · exact hs
  | orderTimeout tag =>
    obtain rfl := Host.Outcome.next.inj h
    split
    · split
      · next o _ =>
        split
        · next b _ =>
          split
          · unfold timeoutOrder
            dsimp only
            split
            · exact LinkPre.settleCredit ((((LinkStep.dropIssued s o.tag).trans
                (.of_endKeeps (timeoutChange_keeps s o b))).trans (logChange_linkStep _ _ _)).pre hpre)
            · exact hs
          · exact hs
        · exact hs
      · exact hs
    · exact hs
  | deltaDelayExpiry =>
    obtain rfl := Host.Outcome.next.inj h
    split
    · exact ((askDelta_linkStep s).pre hpre).settleCredit
    · exact hs
  | spinUpCadence =>
    obtain rfl := Host.Outcome.next.inj h
    split
    · unfold spinUpTest
      split
      · exact linkLaw_of_eq rfl rfl hs
      · split
        · exact advise_linkLaw hs rfl rfl rfl
        · split
          · split
            · exact advise_linkLaw hs rfl rfl rfl
            · exact linkLaw_of_eq rfl rfl hs
          · exact advise_linkLaw hs rfl rfl rfl
    · exact hs
  | mainsCadence =>
    obtain rfl := Host.Outcome.next.inj h
    split
    · unfold mainsTest
      split
      · split
        · exact advise_linkLaw hs rfl rfl rfl
        · split
          · exact advise_linkLaw hs rfl rfl rfl
          · exact linkLaw_of_eq rfl rfl hs
      · exact linkLaw_of_eq rfl rfl hs
    · exact hs
  | restAdvice =>
    obtain rfl := Host.Outcome.next.inj h
    split
    · unfold restTest
      split
      · exact advise_linkLaw hs rfl rfl rfl
      · exact linkLaw_of_eq rfl rfl hs
    · exact hs
  | drainPickerRun =>
    obtain rfl := Host.Outcome.next.inj h
    split
    · dsimp only
      split
      · exact linkLaw_of_eq (drainLoop_link _ _).1 (drainLoop_link _ _).2 (linkLaw_of_eq rfl rfl hs)
      · exact linkLaw_of_eq rfl rfl hs
    · exact hs
  | promotionPickerRun =>
    obtain rfl := Host.Outcome.next.inj h
    split
    · refine (LinkStep.pre (promoteLoop_linkStep _ _) ?_).settleCredit
      exact LinkStep.pre (s := s) (.of_eq rfl rfl) hpre
    · exact hs
  | refillScan =>
    obtain rfl := Host.Outcome.next.inj h
    split
    · exact linkLaw_of_eq (refillLoop_link _ _).1 (refillLoop_link _ _).2 (linkLaw_of_eq rfl rfl hs)
    · exact hs
  | dispatch =>
    obtain rfl := Host.Outcome.next.inj h
    split
    · split
      · exact hs
      · next q _ =>
        split
        · exact hs
        · next w _ =>
          split
          · next b _ =>
            unfold selectOrder
            split
            · have hleave : LinkStep (s.setWaiting q (withoutFirstReady s q))
                  ((s.setWaiting q (withoutFirstReady s q)).leaveOrder w.order.slot b false) :=
                .of_endKeeps (leaveOrder_keeps _ _ _ _)
              have hstart : LinkStep s ((s.setWaiting q (withoutFirstReady s q)).leaveOrder w.order.slot b false) :=
                LinkStep.trans (t := s.setWaiting q (withoutFirstReady s q)) ⟨rfl, rfl, rfl, rfl, rfl, le_rfl, id⟩ hleave
              exact (LinkStep.pre ((hstart.trans (.of_eq (by simp) (by simp))).trans (logChange_linkStep _ _ _))
                hpre).settleCredit
            · refine LinkStep.law ⟨?_, ?_, ?_, ?_, ?_, ?_, ?_⟩ (fun _ => ?_) hs
              all_goals simp [dispatchOrder, attn]
          · exact hs
    · exact hs
  | takeItem =>
    obtain rfl := Host.Outcome.next.inj h
    unfold takeOneItem
    split
    · split
      · exact hs
      · next item rest _ =>
        obtain ⟨slots, ct, trackers, owed, heq⟩ := applyItem_eq (s.dropItem rest) item
        rw [heq]
        exact linkLaw_of_eq rfl rfl hs
    · exact hs
  | pullByte bytes =>
    obtain rfl := Host.Outcome.next.inj h
    split
    · exact withRx_linkLaw (takePull_linkLaw hs) _
    · exact withRx_linkLaw hs _
    · exact hs
    · exact hs
  | badFrame bytes =>
    obtain rfl := Host.Outcome.next.inj h
    split
    · exact recordFault_linkLaw (withRx_linkLaw hs _) _ _
    · exact withRx_linkLaw hs _
    · exact hs
    · exact hs
  | requestIntake bytes =>
    obtain rfl := Host.Outcome.next.inj h
    split
    · next f rest _ =>
      by_cases hnotice : isNotice f.kind = true
      · rw [if_pos hnotice]; exact hs
      · rw [if_neg hnotice]; exact offerRequest_linkLaw (withRx_linkLaw hs _) f
    · exact withRx_linkLaw hs _
    · exact hs
    · exact hs
  | access bytes => obtain rfl := Host.Outcome.next.inj h; exact receiveNotice_linkLaw bytes hs fun f _ hu => takeAccess_linkLaw hu f
  | platter bytes => obtain rfl := Host.Outcome.next.inj h; exact receiveNotice_linkLaw bytes hs fun f _ hu => takePlatter_linkLaw hu f
  | supply bytes => obtain rfl := Host.Outcome.next.inj h; exact receiveNotice_linkLaw bytes hs fun f _ hu => takeSupply_linkLaw hu f
  | attach =>
    obtain rfl := Host.Outcome.next.inj h
    exact takeRequest_linkLaw hs fun f u => ⟨.inl ⟨⟨rfl, rfl, rfl, id, id⟩, rfl⟩⟩
  | importBegin =>
    obtain rfl := Host.Outcome.next.inj h
    exact takeRequest_linkLaw hs fun f u => ⟨.inl ⟨⟨rfl, rfl, rfl, id, id⟩, rfl⟩⟩
  | importPut =>
    obtain rfl := Host.Outcome.next.inj h
    exact takeRequest_linkLaw hs fun f u => .answerOk (importRecords_link _ u) _ _
  | importEnd =>
    obtain rfl := Host.Outcome.next.inj h
    refine takeRequest_linkLaw hs fun f u => ?_
    unfold serveImportEnd
    dsimp only
    split <;> exact ⟨.inl ⟨⟨rfl, rfl, rfl, id, id⟩, rfl⟩⟩
  | exportMap =>
    obtain rfl := Host.Outcome.next.inj h
    refine takeRequest_linkLaw hs fun f u => ?_
    unfold serveExport
    split <;> exact ⟨.inl ⟨⟨rfl, rfl, rfl, id, id⟩, rfl⟩⟩
  | sync => obtain rfl := Host.Outcome.next.inj h; exact takeRequest_linkLaw hs serveSync_answered
  | lookup =>
    obtain rfl := Host.Outcome.next.inj h
    exact takeRequest_linkLaw hs fun f u => serveRange_answered f u fun _ _ => .answerOk (.refl u) _ _
  | planWrite =>
    obtain rfl := Host.Outcome.next.inj h
    exact takeRequest_linkLaw hs fun f u => serveRange_answered f u fun _ _ => servePlanWrite_answered f u _ _
  | discard =>
    obtain rfl := Host.Outcome.next.inj h
    exact takeRequest_linkLaw hs fun f u => serveRange_answered f u fun _ _ => serveDiscard_answered f u _ _
  | pin =>
    obtain rfl := Host.Outcome.next.inj h
    exact takeRequest_linkLaw hs fun f u => checkOwner_answered f u (servePin_answered f u)
  | unpin =>
    obtain rfl := Host.Outcome.next.inj h
    exact takeRequest_linkLaw hs fun f u => checkOwner_answered f u (serveUnpin_answered f u)
  | unpinAll =>
    obtain rfl := Host.Outcome.next.inj h
    exact takeRequest_linkLaw hs fun f u => checkOwner_answered f u (makeUnpin_answered f u _)
  | complete => obtain rfl := Host.Outcome.next.inj h; exact takeRequest_linkLaw hs serveComplete_answered
  | skipOn =>
    obtain rfl := Host.Outcome.next.inj h
    exact takeRequest_linkLaw hs fun f u => serveQueueControl_answered f u fun _ => .of_eq rfl rfl
  | skipOff =>
    obtain rfl := Host.Outcome.next.inj h
    exact takeRequest_linkLaw hs fun f u => serveQueueControl_answered f u fun _ => .of_eq rfl rfl
  | resume =>
    obtain rfl := Host.Outcome.next.inj h
    refine takeRequest_linkLaw hs fun f u => serveQueueControl_answered f u fun q => ?_
    cases q <;> exact .of_eq rfl rfl
  | drainAll =>
    obtain rfl := Host.Outcome.next.inj h
    refine takeRequest_linkLaw hs fun f u => ?_
    unfold serveDrainAll
    split <;> exact ⟨.inl ⟨⟨rfl, rfl, rfl, id, id⟩, rfl⟩⟩
  | policy =>
    obtain rfl := Host.Outcome.next.inj h
    refine takeRequest_linkLaw hs fun f u => ?_
    unfold servePolicy
    split
    · exact .refer (.refl u) _ _ _ _
    · exact .answerOk (applyPairs_link _ u) _ _
  | status | condition | faults | faultsClear | unknownKindRequest =>
    obtain rfl := Host.Outcome.next.inj h
    exact takeRequest_linkLaw hs fun f u => ⟨.inl ⟨⟨rfl, rfl, rfl, id, id⟩, rfl⟩⟩
  | resetWarm => obtain rfl := Host.Outcome.next.inj h; exact takeRequest_linkLaw hs serveResetWarm_answered
  | resetCold =>
    obtain rfl := Host.Outcome.next.inj h
    exact takeRequest_linkLaw hs fun f u => ⟨.inl ⟨⟨rfl, rfl, rfl, fun _ => rfl, fun _ h => by cases h⟩, rfl⟩⟩
  | sendReply => exact execSendReply_linkLaw hs h
  | sendOrder => exact execSendOrder_linkLaw hs h
  | delta => exact execDelta_linkLaw hs h
  | exportData => exact execExportData_linkLaw hs h
  | exportEnd => exact execExportEnd_linkLaw hs h
  | sendAdvice => exact execSendAdvice_linkLaw hs h

/-- Settles O55: each command either leaves the lane or settles the credit, and a request is answered while no SYNC waits. -/
theorem everyStepKeepsTheLinkLaw : Obligations.EveryStepKeepsTheLinkLaw := by
  unfold Obligations.EveryStepKeepsTheLinkLaw
  intro s t hs h
  rcases step_cases h with ⟨c, rest, -, hexec⟩ | rfl | rfl
  · exact exec_linkLaw { s with pending := rest } t c (linkLaw_of_eq (s := s) rfl rfl hs) hexec
  · exact ((linkLaw_iff s).mp hs).2.finishFrame
  · exact hs

end Sys2Proof.Machine
end


section
/-! SUPPORT. The law of orders slot by slot: at a slot stands no order, one waiting or one issued, and its binding fits. -/

namespace Sys2Proof.Machine

/-! ### The orders at one slot -/

/-- Every waiting order, in the order of the queues. -/
def OrderUnit.waitingOrders (ou : OrderUnit) : List Order :=
  ou.ordersIn .pinFill ++ ou.ordersIn .heatFill ++ ou.ordersIn .drain

/-- The waiting orders that name slot `k`. -/
def OrderUnit.waitingAt (ou : OrderUnit) (k : Nat) : List Order := ou.waitingOrders.filter fun o => decide (o.slot = k)

/-- The issued orders that name slot `k`. -/
def OrderUnit.issuedAt (ou : OrderUnit) (k : Nat) : List Issued := ou.issued.filter fun i => decide (i.order.slot = k)

/-- The order names the binding of its slot (R7, R97, R110). -/
structure Order.Names (o : Order) (b : Binding) : Prop where
  attempts_pos : 1 ≤ o.attempts
  attempts_le : o.attempts ≤ 3
  backoff_le : o.backoff ≤ 60
  state : b.state = o.queue.slotState
  extent : b.extent = o.extent

/-- The binding has the tag and the set of its issued order (R3, R6). -/
structure Issued.Tags (i : Issued) (b : Binding) : Prop where
  tag_ne : i.tag ≠ 0#16
  tag : b.tag = some i.tag
  overtaken : b.overtaken.isSome = decide (i.order.queue.kind = .fill)
  redirtied : b.redirtied.isSome = decide (i.order.queue.kind = .drain)

/-- What stands at one slot: its binding, the waiting orders and the issued orders that name it (R7). -/
inductive SlotOk (a : Bool) : Option Binding → List Order → List Issued → Prop
  | unbound : SlotOk a none [] []
  | held {b : Binding} (hstate : b.state = .held) (htag : b.untagged = true) (hcond : b.condemnedOk a = true) :
      SlotOk a (some b) [] []
  | waiting {b : Binding} {o : Order} (hnames : o.Names b) (htag : b.untagged = true) (hcond : b.condemnedOk a = true) :
      SlotOk a (some b) [o] []
  | issued {b : Binding} {i : Issued} (hnames : i.order.Names b) (htags : i.Tags b) (hcond : b.condemnedOk a = true) :
      SlotOk a (some b) [] [i]

theorem Order.fits_iff (slots : List (Nat × Slot)) (o : Order) :
    o.fits slots = true ↔ ∃ b, bindingAt slots o.slot = some b ∧ o.Names b := by
  unfold Order.fits
  cases hb : bindingAt slots o.slot with
  | none => simp
  | some b =>
    simp only [Bool.and_eq_true, decide_eq_true_eq, Option.some.injEq, exists_eq_left']
    exact ⟨fun ⟨⟨⟨h1, h2⟩, h3⟩, h4, h5⟩ => ⟨h1, h2, h3, h4, h5⟩, fun h => ⟨⟨⟨h.1, h.2⟩, h.3⟩, h.4, h.5⟩⟩

theorem Issued.fits_iff (slots : List (Nat × Slot)) (i : Issued) :
    i.fits slots = true ↔ i.tag ≠ 0#16 ∧ ∃ b, bindingAt slots i.order.slot = some b ∧ i.Tags b := by
  unfold Issued.fits
  cases hb : bindingAt slots i.order.slot with
  | none => simp
  | some b =>
    simp only [Bool.and_eq_true, decide_eq_true_eq, Option.some.injEq, exists_eq_left']
    exact ⟨fun ⟨h0, ⟨h1, h2⟩, h3⟩ => ⟨h0, h0, h1, h2, h3⟩, fun ⟨h0, h⟩ => ⟨h0, ⟨h.2, h.3⟩, h.4⟩⟩

/-- No value twice under `f` is: at most one entry for each value. -/
theorem nodup_map_iff_filter {α : Type} (l : List α) (f : α → Nat) :
    (l.map f).Nodup ↔ ∀ k, (l.filter fun a => decide (f a = k)).length ≤ 1 := by
  have hcount (k : Nat) : (l.map f).count k = (l.filter fun a => decide (f a = k)).length := by
    rw [List.count_eq_countP, List.countP_map, List.countP_eq_length_filter]
    congr 1
  simp only [List.nodup_iff_count_le_one, hcount]

theorem OrderUnit.orders_eq (ou : OrderUnit) : ou.orders = ou.waitingOrders ++ ou.issued.map Issued.order := rfl

theorem OrderUnit.orders_at (ou : OrderUnit) (k : Nat) :
    ou.orders.filter (fun o => decide (o.slot = k)) = ou.waitingAt k ++ (ou.issuedAt k).map Issued.order := by
  rw [OrderUnit.orders_eq, List.filter_append, List.filter_map]; rfl

theorem OrderUnit.mem_waitingAt {ou : OrderUnit} {k : Nat} {o : Order} :
    o ∈ ou.waitingAt k ↔ o ∈ ou.waitingOrders ∧ o.slot = k := by simp [OrderUnit.waitingAt]

theorem OrderUnit.mem_issuedAt {ou : OrderUnit} {k : Nat} {i : Issued} :
    i ∈ ou.issuedAt k ↔ i ∈ ou.issued ∧ i.order.slot = k := by simp [OrderUnit.issuedAt]

/-- No slot in the orders' slots is: no order there. -/
theorem OrderUnit.not_ordered_iff {ou : OrderUnit} {k : Nat} :
    k ∉ ou.orders.map Order.slot ↔ ou.waitingAt k = [] ∧ ou.issuedAt k = [] := by
  have h : ou.orders.filter (fun o => decide (o.slot = k)) = [] ↔ k ∉ ou.orders.map Order.slot := by
    simp [List.filter_eq_nil_iff]
  rw [← h, OrderUnit.orders_at, List.append_eq_nil_iff, List.map_eq_nil_iff]

theorem OrderUnit.not_issued_iff {ou : OrderUnit} {k : Nat} :
    k ∉ ou.issued.map (fun i => i.order.slot) ↔ ou.issuedAt k = [] := by
  simp [OrderUnit.issuedAt, List.filter_eq_nil_iff]

/-! ### The law of orders -/

/-- The law of orders (R6, R7, R14, R16, R97, R104 to R106, R120), slot by slot. -/
structure OrdersOk (s : State) : Prop where
  slot : ∀ k, SlotOk (active s) (bindingAt s.bt.slots k) (s.ou.waitingAt k) (s.ou.issuedAt k)
  queue : ∀ q, ∀ o ∈ s.ou.ordersIn q, o.queue = q
  issued_le : s.ou.issued.length ≤ 8
  window : 1 ≤ s.policy.window ∧ s.policy.window ≤ 8
  tags : (s.ou.issued.map Issued.tag).Nodup
  counter : s.ou.tagCounter ≠ 0#16
  frames : ∀ f ∈ s.lif.orderFrames, f ∈ s.ou.issued.map Issued.frame
  drains : s.ou.drains ≤ 72
  idle : active s = true ∨ s.ou.orders = []

/-- What the slots' part of `orderLaw` says at one slot. -/
theorem slotOk_of_lists {a : Bool} {slots : List (Nat × Slot)} {ou : OrderUnit}
    (hnodup : (ou.orders.map Order.slot).Nodup) (hfits : ∀ o ∈ ou.orders, o.fits slots = true)
    (hheld : ∀ k b, bindingAt slots k = some b → b.state = .held ∨ k ∈ ou.orders.map Order.slot)
    (hissued : ∀ i ∈ ou.issued, i.fits slots = true)
    (htag : ∀ k b, bindingAt slots k = some b → b.untagged = true ∨ k ∈ ou.issued.map fun i => i.order.slot)
    (hcond : ∀ k b, bindingAt slots k = some b → b.condemnedOk a = true) (k : Nat) :
    SlotOk a (bindingAt slots k) (ou.waitingAt k) (ou.issuedAt k) := by
  have hone := (nodup_map_iff_filter ou.orders Order.slot).mp hnodup k
  rw [OrderUnit.orders_at, List.length_append, List.length_map] at hone
  have huntagged : ou.issuedAt k = [] → ∀ b, bindingAt slots k = some b → b.untagged = true := fun hi b hb =>
    (htag k b hb).resolve_right (OrderUnit.not_issued_iff.mpr hi)
  match hw : ou.waitingAt k, hi : ou.issuedAt k with
  | [], [] =>
    cases hb : bindingAt slots k with
    | none => exact .unbound
    | some b =>
      exact .held ((hheld k b hb).resolve_right (OrderUnit.not_ordered_iff.mpr ⟨hw, hi⟩)) (huntagged hi b hb) (hcond k b hb)
  | [o], [] =>
    obtain ⟨ho, rfl⟩ := OrderUnit.mem_waitingAt.mp (hw ▸ List.mem_singleton_self o)
    obtain ⟨b, hb, hnames⟩ := (Order.fits_iff slots o).mp
      (hfits o (OrderUnit.orders_eq ou ▸ List.mem_append_left _ ho))
    rw [hb]
    exact .waiting hnames (huntagged hi b hb) (hcond _ b hb)
  | [], [i] =>
    obtain ⟨hmem, rfl⟩ := OrderUnit.mem_issuedAt.mp (hi ▸ List.mem_singleton_self i)
    obtain ⟨b, hb, hnames⟩ := (Order.fits_iff slots i.order).mp
      (hfits i.order (OrderUnit.orders_eq ou ▸ List.mem_append_right _ (List.mem_map_of_mem hmem)))
    obtain ⟨-, b', hb', htags⟩ := (Issued.fits_iff slots i).mp (hissued i hmem)
    obtain rfl := Option.some.inj (hb.symm.trans hb')
    rw [hb]
    exact .issued hnames htags (hcond _ b hb)
  | _ :: _, _ :: _ => rw [hw, hi] at hone; simp at hone; omega
  | _ :: _ :: _, [] => rw [hw, hi] at hone; simp at hone
  | [], _ :: _ :: _ => rw [hw, hi] at hone; simp at hone

theorem SlotOk.length_le {a : Bool} {v : Option Binding} {W : List Order} {I : List Issued} (h : SlotOk a v W I) :
    W.length + I.length ≤ 1 := by cases h <;> simp

theorem orderLaw_iff {s : State} (hs : tsorted s.bt.slots = true) : orderLaw s = true ↔ OrdersOk s := by
  have hqueues : s.ou.queuesOk = true ↔ ∀ q, ∀ o ∈ s.ou.ordersIn q, o.queue = q := by
    simp only [OrderUnit.queuesOk, Bool.and_eq_true, List.all_eq_true, decide_eq_true_eq]
    exact ⟨fun ⟨⟨h1, h2⟩, h3⟩ q => by cases q <;> assumption, fun h => ⟨⟨h _, h _⟩, h _⟩⟩
  unfold orderLaw slotsMatchOrders issuedLaw
  simp only [Bool.and_eq_true, hqueues, all_bindingsOf_iff hs, List.all_eq_true, decide_eq_true_eq, Bool.or_eq_true,
    List.contains_iff_mem, List.isEmpty_iff]
  constructor
  · rintro ⟨⟨⟨⟨⟨⟨hq, ⟨hnodup, hfits⟩, hheld⟩, ⟨⟨⟨⟨⟨hle, hw1⟩, hw2⟩, htags⟩, hcounter⟩, hissued⟩, htag⟩, hframes⟩, hcond⟩,
      hdrains⟩, hidle⟩
    exact ⟨slotOk_of_lists hnodup hfits hheld hissued htag hcond, hq, hle, ⟨hw1, hw2⟩, htags, hcounter, hframes, hdrains,
      hidle⟩
  · intro h
    have hat : ∀ k b, bindingAt s.bt.slots k = some b →
        SlotOk (active s) (some b) (s.ou.waitingAt k) (s.ou.issuedAt k) := fun k b hb => hb ▸ h.slot k
    refine ⟨⟨⟨⟨⟨⟨h.queue, ⟨?_, fun o ho => ?_⟩, fun k b hb => ?_⟩, ⟨⟨⟨⟨⟨h.issued_le, h.window.1⟩, h.window.2⟩, h.tags⟩, h.counter⟩,
      fun i hi => ?_⟩, fun k b hb => ?_⟩, h.frames⟩, fun k b hb => ?_⟩, h.drains⟩, h.idle⟩
    · rw [nodup_map_iff_filter]
      intro k
      rw [OrderUnit.orders_at, List.length_append, List.length_map]
      exact (h.slot k).length_le
    · have hslot := h.slot o.slot
      have hmem : o ∈ s.ou.waitingAt o.slot ++ (s.ou.issuedAt o.slot).map Issued.order := by
        rw [← OrderUnit.orders_at]; simp [ho]
      rw [Order.fits_iff]
      generalize bindingAt s.bt.slots o.slot = v, s.ou.waitingAt o.slot = W, s.ou.issuedAt o.slot = I at hslot hmem
      cases hslot with
      | unbound | held => simp at hmem
      | waiting hnames | issued hnames => simp at hmem; subst hmem; exact ⟨_, rfl, hnames⟩
    · by_cases hord : k ∈ s.ou.orders.map Order.slot
      · exact .inr hord
      · have hslot := hat k b hb
        obtain ⟨hw, hi⟩ := OrderUnit.not_ordered_iff.mp hord
        rw [hw, hi] at hslot
        cases hslot with
        | held hstate => exact .inl hstate
    · have hslot := h.slot i.order.slot
      have hmem : i ∈ s.ou.issuedAt i.order.slot := OrderUnit.mem_issuedAt.mpr ⟨hi, rfl⟩
      rw [Issued.fits_iff]
      generalize bindingAt s.bt.slots i.order.slot = v, s.ou.waitingAt i.order.slot = W, s.ou.issuedAt i.order.slot = I
        at hslot hmem
      cases hslot with
      | unbound | held | waiting => simp at hmem
      | issued _ htags => simp at hmem; subst hmem; exact ⟨htags.tag_ne, _, rfl, htags⟩
    · by_cases hord : k ∈ s.ou.issued.map fun i => i.order.slot
      · exact .inr hord
      · have hslot := hat k b hb
        rw [OrderUnit.not_issued_iff.mp hord] at hslot
        generalize s.ou.waitingAt k = W at hslot
        cases hslot with
        | held _ htag | waiting _ htag => exact .inl htag
    · have hslot := hat k b hb
      generalize s.ou.waitingAt k = W, s.ou.issuedAt k = I at hslot
      cases hslot with
      | held _ _ hc | waiting _ _ hc | issued _ _ hc => exact hc

end Sys2Proof.Machine
end


section
/-! SUPPORT. What keeps the law of orders: the moves of the tables under which orders stand, and an order that joins, is
issued, returns or ends at its slot. -/

namespace Sys2Proof.Machine

/-! ### One slot -/

section
variable {a : Bool} {v : Option Binding} {W : List Order} {I : List Issued}

theorem SlotOk.perm (h : SlotOk a v W I) {W' : List Order} {I' : List Issued} (hW : W'.Perm W) (hI : I'.Perm I) :
    SlotOk a v W' I' := by
  cases h with
  | unbound => rw [hW.eq_nil, hI.eq_nil]; exact .unbound
  | held hstate htag hcond => rw [hW.eq_nil, hI.eq_nil]; exact .held hstate htag hcond
  | waiting hnames htag hcond => rw [List.perm_singleton.mp hW, hI.eq_nil]; exact .waiting hnames htag hcond
  | issued hnames htags hcond => rw [hW.eq_nil, List.perm_singleton.mp hI]; exact .issued hnames htags hcond

theorem QueueId.slotState_ne_held (q : QueueId) : q.slotState ≠ .held := by
  cases q <;> simp [QueueId.slotState, QueueId.kind]

/-- A slot that is HELD or not bound has no order. -/
theorem SlotOk.nil_of_held (h : SlotOk a v W I) (hv : ∀ b, v = some b → b.state = .held) : W = [] ∧ I = [] := by
  cases h with
  | unbound | held => exact ⟨rfl, rfl⟩
  | waiting hnames | issued hnames => exact absurd (hnames.state.symm.trans (hv _ rfl)) (QueueId.slotState_ne_held _)

theorem Binding.SameOrder.names {b b' : Binding} (h : b.SameOrder a b') (hext : b'.extent = b.extent) {o : Order}
    (ho : o.Names b) : o.Names b' where
  attempts_pos := ho.attempts_pos
  attempts_le := ho.attempts_le
  backoff_le := ho.backoff_le
  state := h.state.trans ho.state
  extent := hext.trans ho.extent

theorem Binding.SameOrder.tags {b b' : Binding} (h : b.SameOrder a b') {i : Issued} (hi : i.Tags b) : i.Tags b' where
  tag_ne := hi.tag_ne
  tag := h.tag.trans hi.tag
  overtaken := h.overtaken.trans hi.overtaken
  redirtied := h.redirtied.trans hi.redirtied

theorem Binding.SameOrder.untagged {b b' : Binding} (h : b.SameOrder a b') (hb : b.untagged = true) :
    b'.untagged = true := by
  unfold Binding.untagged at *
  have htag := h.tag
  have hover := h.overtaken
  have hred := h.redirtied
  cases htag' : b.overtaken <;> cases b.redirtied <;> cases b.tag <;> simp_all

/-- A change that leaves the order of a binding leaves what stands at its slot. -/
theorem SlotOk.sameOrder {b b' : Binding} (h : SlotOk a (some b) W I) (hsame : b.SameOrder a b')
    (hext : b'.extent = b.extent) : SlotOk a (some b') W I := by
  cases h with
  | held hstate htag hcond => exact .held (hsame.state.trans hstate) (hsame.untagged htag) (hsame.condemnedOk hcond)
  | waiting hnames htag hcond =>
    exact .waiting (hsame.names hext hnames) (hsame.untagged htag) (hsame.condemnedOk hcond)
  | issued hnames htags hcond =>
    exact .issued (hsame.names hext hnames) (hsame.tags htags) (hsame.condemnedOk hcond)

/-- A slot whose HELD binding leaves it has no order. -/
theorem SlotOk.left {b : Binding} (h : SlotOk a (some b) W I) (hheld : b.state = .held) : SlotOk a none W I := by
  obtain ⟨rfl, rfl⟩ := h.nil_of_held (by simpa using hheld)
  exact .unbound

theorem Binding.condemnedOk_of_lt {b : Binding} (h : b.strikes < 2) : b.condemnedOk a = true :=
  (Binding.condemnedOk_iff a b).mpr fun h2 => absurd h (by omega)

/-- A slot that is free or HELD takes a new binding that has no order. -/
theorem SlotOk.bind (h : SlotOk a v W I) (hv : ∀ b, v = some b → b.state = .held) {b : Binding} (hstate : b.state = .held)
    (htag : b.untagged = true) (hstrikes : b.strikes < 2) : SlotOk a (some b) W I := by
  obtain ⟨rfl, rfl⟩ := h.nil_of_held hv
  exact .held hstate htag (Binding.condemnedOk_of_lt hstrikes)

/-- An advance leaves of an issued order all but its flag. -/
theorem SlotOk.mapIssued (h : SlotOk a v W I) {f : Issued → Issued}
    (hf : ∀ i, (f i).order = i.order ∧ (f i).tag = i.tag) : SlotOk a v W (I.map f) := by
  cases h with
  | unbound => exact .unbound
  | held hstate htag hcond => exact .held hstate htag hcond
  | waiting hnames htag hcond => exact .waiting hnames htag hcond
  | @issued b i hnames htags hcond =>
    obtain ⟨ho, ht⟩ := hf i
    exact .issued (ho ▸ hnames) ⟨ht ▸ htags.tag_ne, ht ▸ htags.tag, ho ▸ htags.overtaken, ho ▸ htags.redirtied⟩ hcond

end

/-- A slot that may be bound anew is HELD, if it is bound. -/
theorem Takeable.held {n : Nat} {slots : List (Nat × Slot)} {k strikes : Nat} (h : Takeable n slots k strikes)
    (hs : tsorted slots = true) (b : Binding) (hb : Machine.bindingAt slots k = some b) : b.state = .held := by
  rcases h.bindingAt hs with ⟨-, hfree⟩ | ⟨v, hv, hvictim, -⟩
  · simp [bindingAt_of_tget_none hfree] at hb
  · obtain rfl := Option.some.inj (hv.symm.trans hb)
    exact ((Binding.victim_iff v).mp hvictim).1

/-! ### Moves of the tables under which orders stand -/

section
variable {c : MoveRules}

theorem SlotOk.move {T T' : Tables} (hstands : c.ordersStand) (h : Move c T T') (hok : T.Ok c) {k : Nat} {W : List Order}
    {I : List Issued} (hs : SlotOk c.isActive (bindingAt T.slots k) W I) :
    SlotOk c.isActive (bindingAt T'.slots k) W I := by
  have hat : ∀ {slots rows j b}, T = ⟨slots, rows⟩ → (j, b) ∈ bindingsOf slots → bindingAt slots j = some b :=
    fun hT hmem => (mem_bindingsOf_iff _ (by subst hT; exact hok.slots_sorted) _ _).mp hmem
  cases h with
  | @touch slots rows j b b' hmem htouch hpin =>
    rw [bindingAt_tset_bound]
    split
    · next hj => subst hj; exact ((hat rfl hmem) ▸ hs).sameOrder (htouch.order hstands) htouch.extent
    · exact hs
  | @free slots rows rows' j b hmem hleave hrows =>
    rw [bindingAt_terase]
    split
    · next hj => subst hj; exact ((hat rfl hmem) ▸ hs).left (hleave.order hstands)
    · exact hs
  | @retire slots rows j b hmem hleave =>
    rw [bindingAt_tset_retired]
    split
    · next hj => subst hj; exact ((hat rfl hmem) ▸ hs).left (hleave.order hstands)
    · exact hs
  | @bind slots rows j strikes b hslot hfresh =>
    rw [bindingAt_tset_bound]
    split
    · next hj =>
      subst hj
      exact hs.bind (hslot.held hok.slots_sorted) (hfresh.order hstands).1 (hfresh.order hstands).2
        (hfresh.strikes ▸ hslot.1)
    · exact hs
  | @promote slots rows j strikes b i w hslot hfresh =>
    rw [bindingAt_tset_bound]
    split
    · next hj =>
      subst hj
      exact hs.bind (hslot.held hok.slots_sorted) (hfresh.order hstands).1 (hfresh.order hstands).2
        (hfresh.strikes ▸ hslot.1)
    · exact hs
  | rowTouch | rowNew | rowErase => exact hs
  | @sweep slots rows f g hretired hslot =>
    unfold bindingAt at hs ⊢
    rw [tget_filterMap hok.slots_sorted]
    cases hv : tget slots k with
    | none => rw [hv] at hs; exact hs
    | some v =>
      rw [hv] at hs
      cases v with
      | retired => rw [Option.bind_some, hretired]; exact hs
      | bound b =>
        rw [Option.bind_some]
        have hmem : (k, b) ∈ bindingsOf slots := mem_bindingsOf_of_bindingAt (by simp [bindingAt, hv])
        rcases hslot _ hmem with ⟨b', hb', htouch, -⟩ | ⟨hf | hf, hleave⟩
        · rw [hb']; exact SlotOk.sameOrder hs (htouch.order hstands) htouch.extent
        · rw [hf]; exact SlotOk.left hs (hleave.order hstands)
        · rw [hf]; exact SlotOk.left hs (hleave.order hstands)

theorem SlotOk.moves {T T' : Tables} (hstands : c.ordersStand) (h : Moves c T T') (hok : T.Ok c) {k : Nat}
    {W : List Order} {I : List Issued} (hs : SlotOk c.isActive (bindingAt T.slots k) W I) :
    SlotOk c.isActive (bindingAt T'.slots k) W I := by
  induction h with
  | refl => exact hs
  | tail hm hlast ih => exact ih.move hstands hlast (hok.moves hm)

end

/-! ### The whole law -/

theorem OrderUnit.drains_eq (ou : OrderUnit) :
    ou.drains = (ou.ordersIn .drain).length + ou.issued.countP fun i => decide (i.order.queue = .drain) := by
  simp [OrderUnit.drains, OrderUnit.ordersIn]

section
variable {s t : State}

/-- A step that leaves the orders, withdrawn frames apart, and what stands at every slot, keeps the law. -/
theorem OrdersOk.of_slots (h : OrdersOk s)
    (hslots : ∀ k W I, SlotOk (active s) (bindingAt s.bt.slots k) W I → SlotOk (active s) (bindingAt t.bt.slots k) W I)
    (hwindow : t.policy.window = s.policy.window) (hlife : t.mju.life = s.mju.life) (horders : t.ou.view = s.ou.view)
    (hframes : t.lif.orderFrames.Sublist s.lif.orderFrames) : OrdersOk t := by
  have hactive : active t = active s := by unfold active; rw [hlife]
  have hqueue : ∀ q, t.ou.ordersIn q = s.ou.ordersIn q := fun q => by
    cases q <;> simp_all [OrderUnit.view]
  have hissued : t.ou.issued = s.ou.issued := by simp_all [OrderUnit.view]
  have hcounter : t.ou.tagCounter = s.ou.tagCounter := by simp_all [OrderUnit.view]
  refine ⟨fun k => ?_, fun q => ?_, ?_, ?_, ?_, ?_, fun f hf => ?_, ?_, ?_⟩
  · have hw : t.ou.waitingAt k = s.ou.waitingAt k := by
      simp only [OrderUnit.waitingAt, OrderUnit.waitingOrders, hqueue]
    have hi : t.ou.issuedAt k = s.ou.issuedAt k := by simp only [OrderUnit.issuedAt, hissued]
    rw [hactive, hw, hi]
    exact hslots k _ _ (h.slot k)
  · rw [hqueue]; exact h.queue q
  · rw [hissued]; exact h.issued_le
  · rw [hwindow]; exact h.window
  · rw [hissued]; exact h.tags
  · rw [hcounter]; exact h.counter
  · rw [hissued]; exact h.frames f (hframes.subset hf)
  · rw [OrderUnit.drains_eq, hqueue, hissued, ← OrderUnit.drains_eq]; exact h.drains
  · rw [hactive, OrderUnit.orders_eq, OrderUnit.waitingOrders, hqueue, hqueue, hqueue, hissued]; exact h.idle

theorem OrdersOk.calm (h : OrdersOk s) (hc : s.Calm t) : OrdersOk t :=
  h.of_slots (fun _ _ _ hs => hc.bt.symm ▸ hs) (by rw [hc.policy]) hc.life hc.orders hc.frames

theorem OrdersOk.logChange (h : OrdersOk s) (before : List (Nat × Slot)) (ks : List Nat) :
    OrdersOk (s.logChange before ks) :=
  h.of_slots (t := s.logChange before ks) (fun _ _ _ hs => hs) rfl rfl rfl (.refl _)

/-- A step of the tables under which orders stand keeps the law, if it leaves the orders. -/
theorem OrdersOk.tableStep (h : OrdersOk s) {lose : Nat → Nat → Nat → Prop} {stands : Prop} (hstands : stands)
    (hok : s.tables.Ok (s.rules stands lose)) (hstep : TableStep stands lose s t) (horders : t.ou.view = s.ou.view)
    (hframes : t.lif.orderFrames.Sublist s.lif.orderFrames) : OrdersOk t :=
  h.of_slots (fun _ _ _ hs => SlotOk.moves hstands hstep.moves hok hs) (by rw [hstep.policy]) hstep.life horders hframes

end

end Sys2Proof.Machine
end


section
/-! SUPPORT. An order that joins a queue, is issued, returns or ends: what stands at its slot, and the law of orders after. -/

namespace Sys2Proof.Machine

/-! ### One order among the others -/

/-- An order more in one queue is an order more among the waiting. -/
theorem OrderUnit.waitingOrders_perm {ou ou' : OrderUnit} {q : QueueId} {new : List Order}
    (hq : (ou'.ordersIn q).Perm (new ++ ou.ordersIn q)) (hp : ∀ p, p ≠ q → ou'.ordersIn p = ou.ordersIn p) :
    ou'.waitingOrders.Perm (new ++ ou.waitingOrders) := by
  unfold OrderUnit.waitingOrders
  cases q with
  | pinFill =>
    rw [hp .heatFill (by decide), hp .drain (by decide)]
    simpa using (hq.append_right _).append_right _
  | heatFill =>
    rw [hp .pinFill (by decide), hp .drain (by decide)]
    have := (List.Perm.append_left (ou.ordersIn .pinFill) hq).trans (List.perm_append_comm_assoc _ _ _)
    simpa using this.append_right (ou.ordersIn .drain)
  | drain =>
    rw [hp .pinFill (by decide), hp .heatFill (by decide)]
    exact (List.Perm.append_left (ou.ordersIn .pinFill ++ ou.ordersIn .heatFill) hq).trans
      (List.perm_append_comm_assoc _ _ _)

theorem OrderUnit.ordersIn_setQueue (ou : OrderUnit) (q : QueueId) (x : OrderQueue) :
    (ou.setQueue q x).ordersIn q = x.waiting.map Waiting.order := by simp [OrderUnit.ordersIn]

theorem OrderUnit.ordersIn_setQueue_ne (ou : OrderUnit) {q p : QueueId} (x : OrderQueue) (h : p ≠ q) :
    (ou.setQueue q x).ordersIn p = ou.ordersIn p := by
  simp [OrderUnit.ordersIn, OrderUnit.queue_setQueue_ne ou x h]

theorem filter_slot_eq_nil {l : List Order} {k j : Nat} (h : ∀ o ∈ l, o.slot = k) (hj : j ≠ k) :
    l.filter (fun o => decide (o.slot = j)) = [] := by
  simp only [List.filter_eq_nil_iff, decide_eq_true_eq]
  exact fun o ho hoj => hj (hoj.symm.trans (h o ho))

theorem filter_issued_slot_eq_nil {l : List Issued} {k j : Nat} (h : ∀ i ∈ l, i.order.slot = k) (hj : j ≠ k) :
    l.filter (fun i => decide (i.order.slot = j)) = [] := by
  simp only [List.filter_eq_nil_iff, decide_eq_true_eq]
  exact fun i hi hij => hj (hij.symm.trans (h i hi))

section
variable {s t : State}

/-- The orders at slot `k` are replaced: what stands at every slot after it. A slot that had none was free or HELD. -/
theorem OrdersOk.slot_replace (h : OrdersOk s) {k : Nat} {oldW newW restW : List Order} {oldI newI restI : List Issued}
    (hsW : s.ou.waitingOrders.Perm (oldW ++ restW)) (htW : t.ou.waitingOrders.Perm (newW ++ restW))
    (hsI : s.ou.issued.Perm (oldI ++ restI)) (htI : t.ou.issued.Perm (newI ++ restI))
    (hoW : ∀ o ∈ oldW ++ newW, o.slot = k) (hoI : ∀ i ∈ oldI ++ newI, i.order.slot = k)
    (hfree : oldW.length + oldI.length ≠ 0 ∨ ∀ b, bindingAt s.bt.slots k = some b → b.state = .held)
    (hbind : ∀ j, j ≠ k → bindingAt t.bt.slots j = bindingAt s.bt.slots j)
    (hnew : SlotOk (active s) (bindingAt t.bt.slots k) newW newI) (j : Nat) :
    SlotOk (active s) (bindingAt t.bt.slots j) (t.ou.waitingAt j) (t.ou.issuedAt j) := by
  have hatW := fun i => hsW.filter fun o : Order => decide (o.slot = i)
  have hatI := fun i => hsI.filter fun x : Issued => decide (x.order.slot = i)
  have hatW' := fun i => htW.filter fun o : Order => decide (o.slot = i)
  have hatI' := fun i => htI.filter fun x : Issued => decide (x.order.slot = i)
  simp only [List.filter_append] at hatW hatI hatW' hatI'
  by_cases hj : j = k
  · subst hj
    have hfull : ∀ l : List Order, (∀ o ∈ l, o.slot = j) → l.filter (fun o => decide (o.slot = j)) = l := fun l hl =>
      List.filter_eq_self.mpr (by simpa using hl)
    have hfullI : ∀ l : List Issued, (∀ i ∈ l, i.order.slot = j) → l.filter (fun i => decide (i.order.slot = j)) = l :=
      fun l hl => List.filter_eq_self.mpr (by simpa using hl)
    have hrest : restW.filter (fun o => decide (o.slot = j)) = [] ∧
        restI.filter (fun i => decide (i.order.slot = j)) = [] := by
      have hlenW := (hatW j).length_eq
      have hlenI := (hatI j).length_eq
      rw [hfull oldW fun o ho => hoW o (List.mem_append_left _ ho), List.length_append] at hlenW
      rw [hfullI oldI fun i hi => hoI i (List.mem_append_left _ hi), List.length_append] at hlenI
      have hle := (h.slot j).length_le
      unfold OrderUnit.waitingAt OrderUnit.issuedAt at hle
      rcases hfree with hold | hheld
      · exact ⟨List.length_eq_zero_iff.mp (by omega), List.length_eq_zero_iff.mp (by omega)⟩
      · obtain ⟨hw, hi⟩ := (h.slot j).nil_of_held hheld
        unfold OrderUnit.waitingAt at hw
        unfold OrderUnit.issuedAt at hi
        rw [hw] at hlenW
        rw [hi] at hlenI
        simp only [List.length_nil] at hlenW hlenI
        exact ⟨List.length_eq_zero_iff.mp (by omega), List.length_eq_zero_iff.mp (by omega)⟩
    have hw := hatW' j
    have hi := hatI' j
    rw [hrest.1, List.append_nil, hfull newW fun o ho => hoW o (List.mem_append_right _ ho)] at hw
    rw [hrest.2, List.append_nil, hfullI newI fun i hi => hoI i (List.mem_append_right _ hi)] at hi
    exact hnew.perm hw hi
  · rw [hbind j hj]
    have hw := hatW' j
    have hw0 := hatW j
    have hi := hatI' j
    have hi0 := hatI j
    rw [filter_slot_eq_nil (fun o ho => hoW o (List.mem_append_right _ ho)) hj] at hw
    rw [filter_slot_eq_nil (fun o ho => hoW o (List.mem_append_left _ ho)) hj] at hw0
    rw [filter_issued_slot_eq_nil (fun i hi => hoI i (List.mem_append_right _ hi)) hj] at hi
    rw [filter_issued_slot_eq_nil (fun i hi => hoI i (List.mem_append_left _ hi)) hj] at hi0
    exact (h.slot j).perm (hw.trans hw0.symm) (hi.trans hi0.symm)

/-! ### An order joins its queue (R97, R98) -/

/-- A new order, and the binding it fills or drains. -/
structure Joins (s t : State) (q : QueueId) (o : Order) (b : Binding) : Prop where
  keeps : s.RunKeeps t
  queue : (t.ou.ordersIn q).Perm (o :: s.ou.ordersIn q)
  others : ∀ p, p ≠ q → t.ou.ordersIn p = s.ou.ordersIn p
  slots : t.bt.slots = tset s.bt.slots o.slot (.bound b)
  order : o.queue = q
  names : o.Names b
  untagged : b.untagged = true
  condemned : b.condemnedOk (active s) = true

theorem RunKeeps.active (h : s.RunKeeps t) : active t = active s := by unfold Machine.active; rw [h.life]

theorem OrdersOk.join (h : OrdersOk s) {q : QueueId} {o : Order} {b : Binding} (hj : Joins s t q o b)
    (hfree : ∀ c, bindingAt s.bt.slots o.slot = some c → c.state = .held) (hactive : active s = true)
    (hroom : q = .drain → s.ou.drain.waiting.length < 64) : OrdersOk t := by
  have hqueue : ∀ p, ∀ o' ∈ t.ou.ordersIn p, o'.queue = p := fun p o' ho' => by
    by_cases hp : p = q
    · subst hp
      rcases List.mem_cons.mp (hj.queue.mem_iff.mp ho') with rfl | hmem
      · exact hj.order
      · exact h.queue p o' hmem
    · exact h.queue p o' (hj.others p hp ▸ ho')
  have hdrains : (t.ou.ordersIn .drain).length ≤ (s.ou.ordersIn .drain).length ∨ (t.ou.ordersIn .drain).length ≤ 64 := by
    by_cases hq : q = .drain
    · subst hq
      have hlen := hj.queue.length_eq
      have hlt := hroom rfl
      have hs : (s.ou.ordersIn .drain).length = s.ou.drain.waiting.length := by simp [OrderUnit.ordersIn]
      rw [List.length_cons] at hlen
      omega
    · exact .inl (by rw [hj.others .drain (Ne.symm hq)])
  have hact := RunKeeps.active hj.keeps
  refine ⟨?_, hqueue, ?_, ?_, ?_, ?_, ?_, ?_, .inl (hact.trans hactive)⟩
  · rw [hact]
    refine h.slot_replace (k := o.slot) (oldW := []) (newW := [o]) (oldI := []) (newI := []) (restW := s.ou.waitingOrders)
      (restI := s.ou.issued) (by simp) (OrderUnit.waitingOrders_perm (q := q) hj.queue hj.others) (by simp)
      (by rw [hj.keeps.issued]; simp) (by simp) (by simp) (.inr hfree) (fun j hne => ?_) ?_
    · rw [hj.slots, bindingAt_tset_bound, if_neg hne]
    · rw [hj.slots, bindingAt_tset_bound, if_pos rfl]
      exact .waiting hj.names hj.untagged hj.condemned
  · rw [hj.keeps.issued]; exact h.issued_le
  · rw [hj.keeps.policy]; exact h.window
  · rw [hj.keeps.issued]; exact h.tags
  · rw [hj.keeps.tagCounter]; exact h.counter
  · rw [hj.keeps.frames, hj.keeps.issued]; exact h.frames
  · have hle := h.drains
    have hcount := List.countP_le_length (p := fun i : Issued => decide (i.order.queue = .drain)) (l := s.ou.issued)
    have hissued := h.issued_le
    rw [OrderUnit.drains_eq] at hle ⊢
    rw [hj.keeps.issued]
    omega

theorem joinCondemned_perm (slots : List (Nat × Slot)) (w : Waiting) (ws : List Waiting) :
    (joinCondemned slots w ws).Perm (w :: ws) := by
  induction ws with
  | nil => exact .refl _
  | cons v rest ih =>
    unfold joinCondemned
    split
    · exact (ih.cons v).trans (.swap w v rest)
    · exact .refl _

theorem newOrder_names {q : QueueId} {k : Nat} {b : Binding} (hstate : b.state = q.slotState) :
    (newOrder q k b.extent).order.Names b where
  attempts_pos := by simp [newOrder]
  attempts_le := by simp [newOrder]
  backoff_le := by simp [newOrder]
  state := hstate
  extent := rfl

/-- What stands at a HELD slot: no order, and its binding has no tag. -/
theorem OrdersOk.held (h : OrdersOk s) {k : Nat} {b : Binding} (hb : bindingAt s.bt.slots k = some b)
    (hstate : b.state = .held) : b.untagged = true ∧ b.condemnedOk (active s) = true := by
  have hslot := h.slot k
  obtain ⟨hw, hi⟩ := hslot.nil_of_held (by rw [hb]; simpa using hstate)
  rw [hb, hw, hi] at hslot
  cases hslot with
  | held _ htag hcond => exact ⟨htag, hcond⟩

theorem queueDrain_joins (h : OrdersOk s) {k : Nat} {b : Binding} (hb : bindingAt s.bt.slots k = some b)
    (hstate : b.state = .held) :
    Joins s (queueDrain s k b) .drain (newOrder .drain k b.extent).order { b with state := .draining } where
  keeps := queueDrain_keeps s k b
  queue := by
    unfold queueDrain State.setWaiting
    dsimp only
    rw [OrderUnit.ordersIn_setQueue]
    split
    · exact (joinCondemned_perm _ _ _).map Waiting.order
    · rw [List.map_append]; exact List.perm_append_singleton _ _
  others := fun p hp => OrderUnit.ordersIn_setQueue_ne _ _ hp
  slots := rfl
  order := rfl
  names := newOrder_names (b := { b with state := .draining }) rfl
  untagged := (h.held hb hstate).1
  condemned := (Binding.condemnedOk_iff _ _).mpr fun _ => ⟨by simp, by simp⟩

theorem OrdersOk.drainLoop (fuel : Nat) {s : State} (h : OrdersOk s) (hs : tsorted s.bt.slots = true)
    (hactive : active s = true) : OrdersOk (drainLoop fuel s) := by
  induction fuel generalizing s with
  | zero => exact h
  | succ fuel ih =>
    unfold Machine.drainLoop
    split
    · exact h
    · next hroom =>
      split
      · exact h
      · next k b hchoice =>
        obtain ⟨hmem, hq⟩ := drainChoice_mem hchoice
        have hb := (mem_bindingsOf_iff _ hs k b).mp hmem
        have hstate : b.state = .held := by
          simp only [drainQualifies, Bool.and_eq_true, decide_eq_true_eq] at hq
          exact hq.1.1
        have hj := queueDrain_joins h hb hstate
        refine ih (h.join hj (fun c hc => ?_) hactive fun _ => ?_) (tsorted_tset _ _ _ hs)
          ((RunKeeps.active hj.keeps).trans hactive)
        · obtain rfl := Option.some.inj (hb.symm.trans hc)
          exact hstate
        · simpa [OrderUnit.length] using hroom

theorem queuePinFill_joins (h : OrdersOk s) {k : Nat} {b : Binding} (hb : bindingAt s.bt.slots k = some b)
    (hstate : b.state = .held) (hstrikes : b.strikes < 2) :
    Joins s (queuePinFill s k b) .pinFill (newOrder .pinFill k b.extent).order { b with state := .filling } where
  keeps := queuePinFill_keeps s k b
  queue := by
    unfold queuePinFill State.setWaiting
    dsimp only
    rw [OrderUnit.ordersIn_setQueue, List.map_append]
    exact List.perm_append_singleton _ _
  others := fun p hp => OrderUnit.ordersIn_setQueue_ne _ _ hp
  slots := rfl
  order := rfl
  names := newOrder_names (b := { b with state := .filling }) rfl
  untagged := (h.held hb hstate).1
  condemned := Binding.condemnedOk_of_lt hstrikes

theorem OrdersOk.refillLoop (fuel : Nat) {s : State} (h : OrdersOk s) (hs : tsorted s.bt.slots = true)
    (hactive : active s = true) : OrdersOk (refillLoop fuel s) := by
  induction fuel generalizing s with
  | zero => exact h
  | succ fuel ih =>
    unfold Machine.refillLoop
    split
    · exact h
    · split
      · exact h
      · next k b hfind =>
        have hb := (mem_bindingsOf_iff _ hs k b).mp (List.mem_of_find?_eq_some hfind)
        have hq : b.state = .held ∧ b.strikes < 2 := by
          have := List.find?_some hfind
          simp only [refillQualifies, Bool.and_eq_true, decide_eq_true_eq, Bool.not_eq_true',
            Binding.condemned_eq_false] at this
          exact ⟨this.1.1.1, this.2⟩
        have hj := queuePinFill_joins h hb hq.1 hq.2
        refine ih (h.join hj (fun c hc => ?_) hactive (by simp)) (tsorted_tset _ _ _ hs)
          ((RunKeeps.active hj.keeps).trans hactive)
        obtain rfl := Option.some.inj (hb.symm.trans hc)
        exact hq.1

theorem promote_joins {i : Nat} {w : Watch} {k strikes : Nat} (hstrikes : strikes < 2) :
    Joins s (promote s i w k strikes) .heatFill (newOrder .heatFill k w.extent).order
      (newBinding .filling w.extent BlockSet.none 0#4 w.heat strikes s.seconds) where
  keeps := promote_keeps s i w k strikes
  queue := by
    show ((s.ou.heatFill.waiting ++ [newOrder .heatFill k w.extent]).map Waiting.order).Perm _
    rw [List.map_append]
    exact List.perm_append_singleton _ _
  others := fun p hp => OrderUnit.ordersIn_setQueue_ne s.ou
    { s.ou.heatFill with waiting := s.ou.heatFill.waiting ++ [newOrder .heatFill k w.extent] } hp
  slots := rfl
  order := rfl
  names := newOrder_names (q := .heatFill) (k := k)
    (b := newBinding .filling w.extent BlockSet.none 0#4 w.heat strikes s.seconds) rfl
  untagged := rfl
  condemned := Binding.condemnedOk_of_lt hstrikes

theorem OrdersOk.promoteLoop (fuel : Nat) {s : State} (h : OrdersOk s) (hs : tsorted s.bt.slots = true)
    (hactive : active s = true) : OrdersOk (promoteLoop fuel s) := by
  induction fuel generalizing s with
  | zero => exact h
  | succ fuel ih =>
    unfold Machine.promoteLoop
    split
    · exact h
    · split
      · exact h
      · next i w _ =>
        split
        · exact ih (h.of_slots (fun _ _ _ h => h) rfl rfl rfl (List.Sublist.refl _)) hs hactive
        · split
          · exact h
          · next k strikes hslot =>
            have htake := promotionSlot_takeable hslot
            have hj := promote_joins (s := s) (i := i) (w := w) (k := k) htake.1
            exact ih (h.join hj (htake.held hs) hactive (by simp)) (tsorted_tset _ _ _ hs)
              ((RunKeeps.active hj.keeps).trans hactive)

end

end Sys2Proof.Machine
end


section
/-! SUPPORT. An order that is issued, ends or returns, and RESET WARM, under the law of orders. -/

namespace Sys2Proof.Machine

/-! ### The first ready order leaves its queue (R101, R103) -/

theorem eraseP_perm_of_find {α : Type} {l : List α} {p : α → Bool} {a : α} (h : l.find? p = some a) :
    l.Perm (a :: l.eraseP p) := by
  obtain ⟨hp, as, bs, rfl, has⟩ := List.find?_eq_some_iff_append.mp h
  rw [List.eraseP_append_right _ (fun x hx => by simpa using has x hx), List.eraseP_cons_of_pos hp]
  exact List.perm_middle

section
variable {s t : State} {q : QueueId} {w : Waiting} {b : Binding}

theorem ordersIn_perm_of_firstReady (h : firstReady s q = some w) :
    (s.ou.ordersIn q).Perm (w.order :: (withoutFirstReady s q).map Waiting.order) :=
  (eraseP_perm_of_find h).map Waiting.order

/-- What stands at the slot of a waiting order. -/
theorem OrdersOk.waiting_at (h : OrdersOk s) {o : Order} (ho : o ∈ s.ou.ordersIn q)
    (hb : bindingAt s.bt.slots o.slot = some b) : o.Names b ∧ b.untagged = true ∧ b.condemnedOk (active s) = true := by
  have hmem : o ∈ s.ou.waitingAt o.slot := by
    refine OrderUnit.mem_waitingAt.mpr ⟨?_, rfl⟩
    unfold OrderUnit.waitingOrders
    cases q <;> simp [ho]
  have hslot := h.slot o.slot
  rw [hb] at hslot
  generalize s.ou.waitingAt o.slot = W, s.ou.issuedAt o.slot = I at hslot hmem
  cases hslot with
  | held | issued => simp at hmem
  | waiting hnames htag hcond => simp at hmem; subst hmem; exact ⟨hnames, htag, hcond⟩

/-- What stands at the slot of an issued order. -/
theorem OrdersOk.issued_at (h : OrdersOk s) {i : Issued} (hi : i ∈ s.ou.issued) :
    ∃ b, bindingAt s.bt.slots i.order.slot = some b ∧ i.order.Names b ∧ i.Tags b ∧ b.condemnedOk (active s) = true := by
  have hmem : i ∈ s.ou.issuedAt i.order.slot := OrderUnit.mem_issuedAt.mpr ⟨hi, rfl⟩
  have hslot := h.slot i.order.slot
  generalize bindingAt s.bt.slots i.order.slot = v, s.ou.waitingAt i.order.slot = W, s.ou.issuedAt i.order.slot = I
    at hslot hmem
  cases hslot with
  | unbound | held | waiting => simp at hmem
  | issued hnames htags hcond => simp at hmem; subst hmem; exact ⟨_, rfl, hnames, htags, hcond⟩

/-! ### DISPATCH (R102 to R106) -/

theorem dispatched_tags (htag : b.untagged = true) {i : Issued} (hq : i.order.queue = q) (hne : i.tag ≠ 0#16) :
    i.Tags (b.dispatched q i.tag) := by
  unfold Binding.untagged at htag
  simp only [Bool.and_eq_true, Option.isNone_iff_eq_none] at htag
  subst hq
  constructor
  · exact hne
  all_goals unfold Binding.dispatched; cases i.order.queue <;> simp [QueueId.kind, htag]

theorem OrdersOk.issue (h : OrdersOk s) (hw : firstReady s q = some w) (hwindow : windowOpen s = true)
    (hb : bindingAt s.bt.slots w.order.slot = some b) (hactive : active s = true) : OrdersOk (dispatchOrder s q w b) := by
  obtain ⟨hlen8, hpol⟩ := And.intro h.issued_le h.window
  have hlen : s.ou.issued.length < s.policy.window := by
    simp only [windowOpen, Bool.and_eq_true, decide_eq_true_eq] at hwindow; exact hwindow.2
  have hperm := ordersIn_perm_of_firstReady hw
  have hmemq : w.order ∈ s.ou.ordersIn q := hperm.mem_iff.mpr (List.mem_cons_self ..)
  obtain ⟨hnames, htag, hcond⟩ := h.waiting_at hmemq hb
  have hqueue := h.queue q _ hmemq
  obtain ⟨n, hn, -, hfree⟩ := freeTag_first_free s.ou.issued h.counter (by omega)
  set i : Issued := ⟨w.order, selectionBlocks q b, freeTag s.ou.issued s.ou.issued.length s.ou.tagCounter, s.seconds, false⟩
    with hi
  have hne : i.tag ≠ 0#16 := by rw [hi]; dsimp only; rw [hn]; exact iterate_nextTag_ne_zero h.counter n
  have hissued : (dispatchOrder s q w b).ou.issued = s.ou.issued ++ [i] := dispatchOrder_issued s q w b
  have hslots : (dispatchOrder s q w b).bt.slots = tset s.bt.slots w.order.slot (.bound (b.dispatched q i.tag)) := by
    simp [dispatchOrder, i]
  have hframes : (dispatchOrder s q w b).lif.orderFrames = s.lif.orderFrames ++ [i.frame] := by
    simp [dispatchOrder, i, Issued.frame, hqueue]
  have hlife : active (dispatchOrder s q w b) = active s := by simp [dispatchOrder, active]
  have hin : (dispatchOrder s q w b).ou.ordersIn q = (withoutFirstReady s q).map Waiting.order := by
    cases q <;> simp [dispatchOrder, OrderUnit.ordersIn, State.setWaiting, OrderUnit.setQueue]
  have hin' : ∀ p, p ≠ q → (dispatchOrder s q w b).ou.ordersIn p = s.ou.ordersIn p := fun p hp => by
    cases q <;> cases p <;>
      simp_all [dispatchOrder, OrderUnit.ordersIn, State.setWaiting, OrderUnit.setQueue]
  rw [← hin] at hperm
  refine ⟨?_, fun p o ho => ?_, ?_, ?_, ?_, ?_, ?_, ?_, .inl (hlife.trans hactive)⟩
  · rw [hlife]
    refine h.slot_replace (k := w.order.slot) (oldW := [w.order]) (newW := []) (oldI := []) (newI := [i])
      (restW := (dispatchOrder s q w b).ou.waitingOrders) (restI := s.ou.issued)
      (OrderUnit.waitingOrders_perm (q := q) hperm fun p hp => (hin' p hp).symm) (by simp) (by simp)
      (by rw [hissued]; exact List.perm_append_singleton _ _) (by simp) (by simp [i]) (.inl (by simp))
      (fun j hj => ?_) ?_
    · rw [hslots, bindingAt_tset_bound, if_neg hj]
    · rw [hslots, bindingAt_tset_bound, if_pos rfl]
      refine .issued ⟨hnames.1, hnames.2, hnames.3, ?_, ?_⟩ (dispatched_tags htag hqueue hne) ?_
      · rw [← hnames.state]; unfold Binding.dispatched; cases q <;> rfl
      · rw [← hnames.extent]; unfold Binding.dispatched; cases q <;> rfl
      · rw [Binding.condemnedOk_iff] at hcond ⊢
        unfold Binding.dispatched
        cases q <;> exact hcond
  · by_cases hp : p = q
    · subst hp; exact h.queue p o (hperm.mem_iff.mpr (List.mem_cons_of_mem _ ho))
    · exact h.queue p o (hin' p hp ▸ ho)
  · rw [hissued, List.length_append, List.length_singleton]; omega
  · simpa [dispatchOrder] using hpol
  · rw [hissued, List.map_append, List.nodup_append]
    refine ⟨h.tags, by simp, ?_⟩
    simp only [List.mem_map, List.map_cons, List.map_nil, List.mem_singleton, forall_eq]
    rintro _ ⟨o, ho, rfl⟩ heq
    exact hfree ⟨o, ho, heq.trans hn⟩
  · rw [dispatchOrder_tagCounter, hn]; exact nextTag_ne_zero (iterate_nextTag_ne_zero h.counter n)
  · rw [hframes, hissued]
    intro f hf
    rw [List.map_append, List.mem_append]
    rcases List.mem_append.mp hf with hf | hf
    · exact .inl (h.frames f hf)
    · exact .inr (by simpa using hf)
  · have hdrains := h.drains
    rw [OrderUnit.drains_eq] at hdrains ⊢
    rw [hissued, List.countP_append, List.countP_singleton]
    have hq : i.order.queue = q := hqueue
    by_cases hd : q = .drain
    · have := hperm.length_eq
      rw [hd, List.length_cons] at this
      simp only [hq, hd, decide_true, if_true]
      omega
    · rw [hin' .drain (Ne.symm hd)]
      simp only [hq, hd, decide_false, Bool.false_eq_true, if_false]
      omega

/-! ### The end of an order at its slot (R10, R16) -/

theorem leaveOrder_other (s : State) (k : Nat) (b : Binding) (free : Bool) {j : Nat} (hj : j ≠ k) :
    bindingAt (s.leaveOrder k b free).bt.slots j = bindingAt s.bt.slots j := by
  rcases leaveOrder_cases s k b free with ⟨-, h⟩ | ⟨-, h⟩ | ⟨-, h⟩ <;>
    simp [h, bindingAt_tset_retired, bindingAt_tset_bound, bindingAt_terase, hj]

/-- A slot whose order ends has none: it is RETIRED, FREE or HELD. -/
theorem leaveOrder_slotOk (s : State) (a : Bool) (k : Nat) (b : Binding) (free : Bool) :
    SlotOk a (bindingAt (s.leaveOrder k b free).bt.slots k) [] [] := by
  rcases leaveOrder_cases s k b free with ⟨-, h⟩ | ⟨-, h⟩ | ⟨⟨hcond, -⟩, h⟩
  · simpa [h, bindingAt_tset_retired] using SlotOk.unbound
  · simpa [h, bindingAt_terase] using SlotOk.unbound
  · have hat : bindingAt (s.leaveOrder k b free).bt.slots k = some { b.orderless with state := .held } := by
      simp [h]
    rw [hat]
    refine .held rfl rfl ((Binding.condemnedOk_iff _ _).mpr fun h2 => ⟨by simp, fun _ _ => ?_⟩)
    exact hcond.resolve_left (Nat.not_lt.mpr h2)

theorem OrdersOk.endAtSelection (h : OrdersOk s) (hw : firstReady s q = some w) (hactive : active s = true) :
    OrdersOk (endAtSelection s q w b) := by
  have hperm := ordersIn_perm_of_firstReady hw
  have hkeep : ({ s.setWaiting q (withoutFirstReady s q) with } : State).EndKeeps
      ((s.setWaiting q (withoutFirstReady s q)).leaveOrder w.order.slot b false) := leaveOrder_keeps _ _ _ _
  set s1 := (s.setWaiting q (withoutFirstReady s q)).leaveOrder w.order.slot b false with hs1
  have hou : s1.ou = (s.setWaiting q (withoutFirstReady s q)).ou := State.leaveOrder_ou _ _ _ _
  have hin : s1.ou.ordersIn q = (withoutFirstReady s q).map Waiting.order := by
    rw [hou]; exact OrderUnit.ordersIn_setQueue _ _ _
  have hin' : ∀ p, p ≠ q → s1.ou.ordersIn p = s.ou.ordersIn p := fun p hp => by
    rw [hou]; exact OrderUnit.ordersIn_setQueue_ne _ _ hp
  have hissued : s1.ou.issued = s.ou.issued := by rw [hkeep.issued]; simp
  have hmju : s1.mju = s.mju := hkeep.mju
  have hlife : active s1 = active s := by unfold active; rw [hmju]
  rw [← hin] at hperm
  have hok : OrdersOk s1 := by
    refine ⟨?_, fun p o ho => ?_, ?_, ?_, ?_, ?_, ?_, ?_, .inl (hlife.trans hactive)⟩
    · rw [hlife]
      refine h.slot_replace (k := w.order.slot) (oldW := [w.order]) (newW := []) (oldI := []) (newI := [])
        (restW := s1.ou.waitingOrders) (restI := s.ou.issued)
        (OrderUnit.waitingOrders_perm (q := q) hperm fun p hp => (hin' p hp).symm) (by simp) (by simp)
        (by rw [hissued]; simp) (by simp) (by simp) (.inl (by simp)) (fun j hj => ?_) ?_
      · rw [hs1, leaveOrder_other _ _ _ _ hj]; rfl
      · exact leaveOrder_slotOk _ _ _ _ _
    · by_cases hp : p = q
      · subst hp; exact h.queue p o (hperm.mem_iff.mpr (List.mem_cons_of_mem _ ho))
      · exact h.queue p o (hin' p hp ▸ ho)
    · rw [hissued]; exact h.issued_le
    · rw [hkeep.policy]; exact h.window
    · rw [hissued]; exact h.tags
    · rw [hkeep.tagCounter]; simpa using h.counter
    · rw [hkeep.lif, hissued]; exact h.frames
    · have hdrains := h.drains
      rw [OrderUnit.drains_eq] at hdrains ⊢
      rw [hissued]
      by_cases hd : q = .drain
      · have := hperm.length_eq
        rw [hd, List.length_cons] at this
        omega
      · rw [hin' .drain (Ne.symm hd)]; exact hdrains
  have hstarted : s1.Calm ((s1.startPickerIf (decide (q = .heatFill))).startScanIf
      (decide (q = .pinFill) && !b.pinned)) := .of_view (by simp [State.view])
  exact ((hok.calm hstarted).logChange s.bt.slots [w.order.slot]).calm (.settleCredit _)

end

end Sys2Proof.Machine
end


section
/-! SUPPORT. COMPLETE and ORDER_TIMEOUT under the law of orders: the issued order leaves the issued set, and it ends or goes
back to its queue. -/

namespace Sys2Proof.Machine

/-! ### The issued order leaves the issued set (R106) -/

theorem perm_cons_filter_of_nodup {l : List Issued} (hnodup : (l.map Issued.tag).Nodup) {i : Issued} (hi : i ∈ l) :
    l.Perm (i :: l.filter fun o => o.tag != i.tag) := by
  induction l with
  | nil => simp at hi
  | cons a l ih =>
    rw [List.map_cons, List.nodup_cons] at hnodup
    rcases List.mem_cons.mp hi with rfl | hmem
    · have hrest : l.filter (fun o => o.tag != i.tag) = l :=
        List.filter_eq_self.mpr fun o ho => by
          have hne : o.tag ≠ i.tag := fun heq => hnodup.1 (heq ▸ List.mem_map_of_mem ho)
          simpa using hne
      rw [List.filter_cons_of_neg (by simp), hrest]
    · have hne : a.tag ≠ i.tag := fun heq => hnodup.1 (heq ▸ List.mem_map_of_mem hmem)
      rw [List.filter_cons_of_pos (by simpa using hne)]
      exact ((ih hnodup.2 hmem).cons a).trans (.swap i a _)

section
variable (s : State) (o : Order) (code : CompletionCode)

@[simp] theorem State.moveRest_bt : s.moveRest.bt = s.bt := by unfold State.moveRest; split <;> rfl

@[simp] theorem State.moveRest_ou : s.moveRest.ou = s.ou := by unfold State.moveRest; split <;> rfl

@[simp] theorem State.completionFault_bt : (s.completionFault o code).bt = s.bt := by
  unfold State.completionFault; split <;> simp

@[simp] theorem State.completionFault_ou : (s.completionFault o code).ou = s.ou := by
  unfold State.completionFault; split <;> simp

/-- An order that is issued no more leaves the queues. -/
@[simp] theorem OrderUnit.ordersIn_withIssued (ou : OrderUnit) (issued : List Issued) (p : QueueId) :
    ({ ou with issued := issued } : OrderUnit).ordersIn p = ou.ordersIn p := by cases p <;> rfl

end

/-! ### What an order that leaves the issued set comes to -/

/-- From `s` to `t` the order of slot `k` in queue `q` has ended, or stands at its queue again: `new` holds it. -/
structure Concludes (a : Bool) (q : QueueId) (k : Nat) (s t : State) : Prop where
  concluded : ∃ new : List Order, (t.ou.ordersIn q).Perm (new ++ s.ou.ordersIn q) ∧ (∀ o ∈ new, o.queue = q ∧ o.slot = k)
    ∧ SlotOk a (bindingAt t.bt.slots k) new []
  others : ∀ p, p ≠ q → t.ou.ordersIn p = s.ou.ordersIn p
  other : ∀ j, j ≠ k → bindingAt t.bt.slots j = bindingAt s.bt.slots j

section
variable {a : Bool} {q : QueueId} {k : Nat} {s t u : State}

/-- What changes neither slots nor waiting orders may come before or after. -/
theorem Concludes.right (h : Concludes a q k s t) (hbt : u.bt = t.bt) (hou : ∀ p, u.ou.ordersIn p = t.ou.ordersIn p) :
    Concludes a q k s u where
  concluded := by rw [hou, hbt]; exact h.concluded
  others := fun p hp => (hou p).trans (h.others p hp)
  other := fun j hj => by rw [hbt]; exact h.other j hj

theorem Concludes.left (h : Concludes a q k t u) (hbt : t.bt = s.bt) (hou : ∀ p, t.ou.ordersIn p = s.ou.ordersIn p) :
    Concludes a q k s u where
  concluded := by rw [← hou]; exact h.concluded
  others := fun p hp => (h.others p hp).trans (hou p)
  other := fun j hj => (h.other j hj).trans (by rw [hbt])

theorem leaveOrder_concludes (s : State) (b : Binding) (free : Bool) : Concludes a q k s (s.leaveOrder k b free) where
  concluded := ⟨[], by simp, by simp, leaveOrder_slotOk s a k b free⟩
  others := by simp
  other := fun _ hj => leaveOrder_other s k b free hj

theorem ordersIn_setHalted (s : State) (q p : QueueId) (x : Bool) :
    (s.setHalted q x).ou.ordersIn p = s.ou.ordersIn p := by cases q <;> cases p <;> rfl

theorem exhaust_concludes (s : State) (o : Order) (b : Binding) : Concludes a o.queue o.slot s (s.exhaust o b) := by
  have hleave : ∀ free, Concludes a o.queue o.slot s
      ((s.recordFault .orderExhausted (.queue o.queue)).leaveOrder o.slot b free) := fun free =>
    (leaveOrder_concludes _ b free).left (by simp) (by simp)
  by_cases hq : o.queue = .heatFill
  · have hheat := hleave true
    unfold State.exhaust
    rw [hq] at hheat ⊢
    dsimp only
    refine hheat.right ?_ ?_ <;> split <;> simp
  · rw [exhaust_halts s o b hq]
    exact (hleave false).right rfl (ordersIn_setHalted _ _ · _)

/-- An order that goes back to its queue, with its binding. -/
structure Goes (o : Order) (b : Binding) : Prop where
  attempts_pos : 1 ≤ o.attempts
  attempts_le : o.attempts ≤ 3
  backoff_le : o.backoff ≤ 60
  state : b.state = o.queue.slotState
  extent : b.extent = o.extent
  condemned : b.strikes < 2 ∨ o.queue = .drain

theorem Goes.condemnedOk {o : Order} {b : Binding} (h : Goes o b) : b.condemnedOk a = true := by
  refine (Binding.condemnedOk_iff a b).mpr fun h2 => ?_
  have hq := h.condemned.resolve_left (by omega)
  have hstate := h.state
  rw [hq] at hstate
  simp [hstate, QueueId.slotState, QueueId.kind]

theorem returnOrder_concludes (s : State) {o : Order} {b : Binding} (h : Goes o b) (u : Option Time) :
    Concludes a o.queue o.slot s (s.returnOrder o b u) where
  concluded := by
    refine ⟨[o], ?_, by simp, ?_⟩
    · obtain ⟨q, k, x, n, m⟩ := o
      cases q <;> exact .refl _
    · have hat : bindingAt (s.returnOrder o b u).bt.slots o.slot = some b.orderless := by
        simp [State.returnOrder]
      rw [hat]
      exact .waiting ⟨h.attempts_pos, h.attempts_le, h.backoff_le, h.state, h.extent⟩ rfl h.condemnedOk
  others := fun p hp => OrderUnit.ordersIn_setQueue_ne s.ou
    { s.ou.queue o.queue with waiting := ⟨o, u⟩ :: (s.ou.queue o.queue).waiting } hp
  other := fun j hj => by simp [State.returnOrder, bindingAt_tset_bound, hj]

theorem countFailure_concludes (s : State) {o : Order} {b : Binding} (h : Goes o b) :
    Concludes a o.queue o.slot s (s.countFailure o b) := by
  rw [countFailure_eq]
  split
  · exact exhaust_concludes s { o with attempts := 0, backoff := 0 } b
  · have := h.attempts_le
    exact returnOrder_concludes s (o := { o with attempts := o.attempts - 1, backoff := 0 })
      ⟨by dsimp only; omega, by dsimp only; omega, by simp, h.state, h.extent, h.condemned⟩ none

theorem nextBackoff_le (n : Nat) : nextBackoff n ≤ 60 := by
  unfold nextBackoff
  split <;> omega

theorem afterAttempt_concludes (s : State) {o : Order} {b : Binding} (h : Goes o b) (code : CompletionCode) :
    Concludes a o.queue o.slot s (s.afterAttempt o b code) := by
  have hback : Concludes a o.queue o.slot s (s.returnOrder { o with backoff := 0 } b none) :=
    returnOrder_concludes s (o := { o with backoff := 0 })
      ⟨h.attempts_pos, h.attempts_le, by simp, h.state, h.extent, h.condemned⟩ none
  cases code with
  | partialCopy | flashFault | platterFault => exact countFailure_concludes s h
  | parked | aborted | done => exact hback
  | refused =>
    exact returnOrder_concludes s (o := { o with backoff := nextBackoff o.backoff })
      ⟨h.attempts_pos, h.attempts_le, nextBackoff_le _, h.state, h.extent, h.condemned⟩ _

/-- The binding after the strike of a completion and the merge of its progress. -/
theorem struck_names {o : Order} {b : Binding} (h : o.Names b) (code : CompletionCode) : o.Names (b.struck code) := by
  unfold Binding.struck
  split
  · exact ⟨h.1, h.2, h.3, h.4, h.5⟩
  · exact h

theorem completeOrder_concludes (s : State) {i : Issued} {b : Binding} (h : i.order.Names b) (code : CompletionCode)
    (copied : BlockSet) : Concludes a i.order.queue i.order.slot s (completeOrder s i b code copied) := by
  have hnames := struck_names h code
  have hstart : (((s.completionFault i.order code).dropIssued i.tag).moveRest).bt = s.bt := by simp
  have hqueues : ∀ p, (((s.completionFault i.order code).dropIssued i.tag).moveRest).ou.ordersIn p = s.ou.ordersIn p :=
    fun p => by simp
  set s1 := ((s.completionFault i.order code).dropIssued i.tag).moveRest with hs1
  have hend : Concludes a i.order.queue i.order.slot s (match i.order.queue.kind with
      | .fill => s1.finishFill i ((b.struck code).fillMerge (copiedWithin i code copied)) code
      | .drain => s1.finishDrain i ((b.struck code).drainMerge (copiedWithin i code copied) s.seconds) code) := by
    refine Concludes.left ?_ hstart hqueues
    cases hk : i.order.queue.kind with
    | fill =>
      dsimp only
      unfold State.finishFill
      split
      · exact leaveOrder_concludes s1 _ false
      · next hgo =>
        have hstrikes : ((b.struck code).fillMerge (copiedWithin i code copied)).strikes < 2 := by
          simp only [Bool.or_eq_true, not_or, Bool.not_eq_true, Binding.condemned_eq_false] at hgo
          exact hgo.2
        have hgoes : Goes i.order ((b.struck code).fillMerge (copiedWithin i code copied)) :=
          ⟨hnames.1, hnames.2, hnames.3, hnames.4, hnames.5, .inl hstrikes⟩
        exact afterAttempt_concludes s1 hgoes code
    | drain =>
      dsimp only
      unfold State.finishDrain
      split
      · exact leaveOrder_concludes s1 _ false
      · have hgoes : Goes i.order ((b.struck code).drainMerge (copiedWithin i code copied) s.seconds) :=
          ⟨hnames.1, hnames.2, hnames.3, hnames.4, hnames.5, .inr (QueueId.kind_eq_drain.mp hk)⟩
        exact afterAttempt_concludes s1 hgoes code
  refine hend.right (u := completeOrder s i b code copied) ?_ fun p => ?_
  all_goals
    unfold completeOrder
    simp only [State.settleDrainAll_bt, State.settleDrainAll_ou]
    rfl

theorem timeoutChange_concludes (s : State) {i : Issued} {b : Binding} (h : i.order.Names b)
    (hcond : b.condemnedOk a = true) :
    Concludes a i.order.queue i.order.slot s (timeoutChange s i b) := by
  refine Concludes.left (t := (s.recordFault .orderTimeout (.slot i.order.slot)).dropIssued i.tag)
    (countFailure_concludes _ ⟨h.1, h.2, h.3, h.4, h.5, ?_⟩) (by simp [State.dropIssued]) fun p => ?_
  · by_cases hs : b.strikes < 2
    · exact .inl hs
    · right
      have hne := ((Binding.condemnedOk_iff a b).mp hcond (by omega)).1
      have hstate := h.state
      cases hq : i.order.queue with
      | drain => rfl
      | pinFill | heatFill => rw [hq] at hstate; exact absurd hstate hne
  · simp

/-- A concluded order leaves the law of orders standing. -/
theorem OrdersOk.conclude (h : OrdersOk s) {i : Issued} (hi : i ∈ s.ou.issued) (hkeep : (s.dropIssued i.tag).EndKeeps t)
    (hc : Concludes (active s) i.order.queue i.order.slot s t) (hactive : active s = true) : OrdersOk t := by
  obtain ⟨⟨new, hperm, hnew, hslot⟩, hothers, hother⟩ := hc
  have hissued : t.ou.issued = s.ou.issued.filter fun o => o.tag != i.tag := hkeep.issued
  have hiperm := perm_cons_filter_of_nodup h.tags hi
  rw [← hissued] at hiperm
  have hlife : active t = active s := by unfold active; rw [hkeep.mju]; rfl
  refine ⟨?_, fun p o ho => ?_, ?_, ?_, ?_, ?_, fun f hf => ?_, ?_, .inl (hlife.trans hactive)⟩
  · rw [hlife]
    exact h.slot_replace (k := i.order.slot) (oldW := []) (newW := new) (oldI := [i]) (newI := [])
      (restW := s.ou.waitingOrders) (restI := t.ou.issued) (by simp)
      (OrderUnit.waitingOrders_perm (q := i.order.queue) hperm hothers) hiperm (by simp)
      (by simpa using fun o ho => (hnew o ho).2) (by simp) (.inl (by simp)) hother hslot
  · by_cases hp : p = i.order.queue
    · subst hp
      rcases List.mem_append.mp (hperm.mem_iff.mp ho) with hmem | hmem
      · exact (hnew o hmem).1
      · exact h.queue _ o hmem
    · exact h.queue p o (hothers p hp ▸ ho)
  · have := hiperm.length_eq
    have hle := h.issued_le
    rw [List.length_cons] at this
    omega
  · rw [hkeep.policy]; exact h.window
  · have := (hiperm.map Issued.tag).nodup_iff.mp h.tags
    rw [List.map_cons, List.nodup_cons] at this
    exact this.2
  · rw [hkeep.tagCounter]; exact h.counter
  · rw [hkeep.lif] at hf
    obtain ⟨hf, htag⟩ := List.mem_filter.mp hf
    obtain ⟨o, ho, rfl⟩ := List.mem_map.mp (h.frames f hf)
    refine List.mem_map_of_mem (hissued ▸ List.mem_filter.mpr ⟨ho, htag⟩)
  · have hdrains := h.drains
    have hcount := hiperm.countP_eq fun o : Issued => decide (o.order.queue = .drain)
    have hlen := hslot.length_le
    rw [OrderUnit.drains_eq] at hdrains ⊢
    rw [List.countP_cons] at hcount
    by_cases hd : i.order.queue = .drain
    · have hpl := hperm.length_eq
      rw [hd, List.length_append] at hpl
      simp only [hd, decide_true, if_true] at hcount
      simp only [List.length_nil] at hlen
      omega
    · rw [hothers .drain (Ne.symm hd)]
      simp only [hd, decide_false, Bool.false_eq_true, if_false] at hcount
      omega

end

end Sys2Proof.Machine
end


section
/-! SUPPORT. RESET WARM, the advance, and the commands that open, import or empty the map, under the law of orders; the
obligation on orders. -/

namespace Sys2Proof.Machine

/-! ### Where no order stands (R120) -/

/-- Every binding is HELD, with no tag, and condemned only where it may be. -/
def Orderless (a : Bool) (slots : List (Nat × Slot)) : Prop :=
  ∀ kb ∈ bindingsOf slots, kb.2.state = .held ∧ kb.2.untagged = true ∧ kb.2.condemnedOk a = true

/-- No order is waiting or issued, and no frame of one waits. -/
structure OrderUnit.Idle (ou : OrderUnit) (frames : List OrderFrame) : Prop where
  orders : ou.orders = []
  frames : frames = []
  counter : ou.tagCounter ≠ 0#16

section
variable {s t : State}

/-- The law of orders where no order stands. -/
theorem OrdersOk.of_idle (hidle : t.ou.Idle t.lif.orderFrames) (hslots : Orderless (active t) t.bt.slots)
    (hwindow : 1 ≤ t.policy.window ∧ t.policy.window ≤ 8) : OrdersOk t := by
  have horders := hidle.orders
  simp only [OrderUnit.orders, List.append_eq_nil_iff, List.map_eq_nil_iff] at horders
  obtain ⟨⟨⟨hpin, hheat⟩, hdrain⟩, hissued⟩ := horders
  have hqueue : ∀ q, t.ou.ordersIn q = [] := fun q => by cases q <;> assumption
  refine ⟨fun k => ?_, fun q o ho => ?_, ?_, hwindow, ?_, hidle.counter, ?_, ?_, .inr hidle.orders⟩
  · have hw : t.ou.waitingAt k = [] := by simp [OrderUnit.waitingAt, OrderUnit.waitingOrders, hqueue]
    have hi : t.ou.issuedAt k = [] := by simp [OrderUnit.issuedAt, hissued]
    rw [hw, hi]
    cases hb : bindingAt t.bt.slots k with
    | none => exact .unbound
    | some b =>
      obtain ⟨hstate, htag, hcond⟩ := hslots _ (mem_bindingsOf_of_bindingAt hb)
      exact .held hstate htag hcond
  · simp [hqueue] at ho
  · simp [hissued]
  · simp [hissued]
  · simp [hidle.frames]
  · simp [OrderUnit.drains_eq, hqueue, hissued]

theorem OrdersOk.idle_of_inactive (h : OrdersOk s) (ha : active s = false) : s.ou.Idle s.lif.orderFrames := by
  have horders := h.idle.resolve_left (by simp [ha])
  have hissued : s.ou.issued = [] := by
    simp only [OrderUnit.orders, List.append_eq_nil_iff, List.map_eq_nil_iff] at horders
    exact horders.2
  refine ⟨horders, List.eq_nil_iff_forall_not_mem.mpr fun f hf => ?_, h.counter⟩
  simpa [hissued] using h.frames f hf

theorem OrdersOk.orderless_of_inactive (h : OrdersOk s) (ha : active s = false) (hs : tsorted s.bt.slots = true) :
    Orderless false s.bt.slots := by
  rintro ⟨k, b⟩ hkb
  have hb := (mem_bindingsOf_iff _ hs k b).mp hkb
  have hord : k ∉ s.ou.orders.map Order.slot := by simp [h.idle.resolve_left (by simp [ha])]
  obtain ⟨hw, hi⟩ := OrderUnit.not_ordered_iff.mp hord
  have hslot := h.slot k
  rw [hw, hi, hb, ha] at hslot
  cases hslot with
  | held hstate htag hcond => exact ⟨hstate, htag, hcond⟩

/-! ### RESET WARM (R21, R121) -/

/-- The slots `gone` retire, one after another. -/
def State.retireAll (s : State) (gone : List (Nat × Binding)) : State :=
  gone.foldl (fun t kb => t.retire kb.1 kb.2) s

theorem State.retireAll_onlySlots (s : State) (gone : List (Nat × Binding)) : s.OnlySlots (s.retireAll gone) :=
  .foldl (fun t (kb : Nat × Binding) => .retire t kb.1 kb.2) gone s

theorem bindingAt_retireAll (s : State) (gone : List (Nat × Binding)) (k : Nat) :
    bindingAt (s.retireAll gone).bt.slots k = if k ∈ gone.map Prod.fst then none else bindingAt s.bt.slots k := by
  unfold State.retireAll
  induction gone generalizing s with
  | nil => rfl
  | cons kb gone ih =>
    rw [List.foldl_cons, ih, State.retire_bt]
    simp only [bindingAt_tset_retired, List.map_cons, List.mem_cons]
    by_cases h1 : k = kb.1 <;> by_cases h2 : k ∈ gone.map Prod.fst <;> simp [h1, h2]

theorem tsorted_retireAll (s : State) (gone : List (Nat × Binding)) (hs : tsorted s.bt.slots = true) :
    tsorted (s.retireAll gone).bt.slots = true := by
  unfold State.retireAll
  induction gone generalizing s with
  | nil => exact hs
  | cons kb gone ih => exact ih _ (tsorted_tset _ _ _ hs)

/-- The end of RESET WARM retires slots and starts runs; of the rest it changes the log and the request for the lane. -/
structure WarmEnds (s t : State) : Prop where
  slots : t.bt.slots = (s.retireAll (warmRetirements s.bt.slots)).bt.slots
  ou : t.ou = s.ou
  frames : t.lif.orderFrames = s.lif.orderFrames
  policy : t.policy = s.policy
  life : t.mju.life = s.mju.life

theorem warmEnd_ends (s : State) : WarmEnds s (warmEnd s) := by
  obtain ⟨slots, pu, heq⟩ := s.retireAll_onlySlots (warmRetirements s.bt.slots)
  have hgone : WarmEnds s (State.startScan (State.startPicker
      ((s.retireAll (warmRetirements s.bt.slots)).logChange s.bt.slots ((warmRetirements s.bt.slots).map Prod.fst)))) :=
    ⟨rfl, by rw [heq]; rfl, by rw [heq]; rfl, by rw [heq]; rfl, by rw [heq]; rfl⟩
  exact hgone

/-- A binding that RESET WARM leaves is HELD and has no order (R21). -/
theorem warm_bound {v : Slot} {b : Binding} (h : v.warm = some (.bound b)) : b.state = .held ∧ b.untagged = true := by
  cases v with
  | retired => simp [Slot.warm] at h
  | bound c =>
    cases hst : c.state <;> simp only [Slot.warm, hst] at h
    · split at h
      · obtain rfl := Slot.bound.inj (Option.some.inj h); exact ⟨rfl, rfl⟩
      · cases h
    · obtain rfl := Slot.bound.inj (Option.some.inj h); exact ⟨hst, rfl⟩
    · obtain rfl := Slot.bound.inj (Option.some.inj h); exact ⟨rfl, rfl⟩

theorem mem_bindingsOf_warm {slots : List (Nat × Slot)} {k : Nat} {b : Binding} (h : (k, b) ∈ bindingsOf (warmSlots slots)) :
    b.state = .held ∧ b.untagged = true := by
  obtain ⟨⟨j, v⟩, -, hv⟩ := List.mem_filterMap.mp ((mem_bindingsOf _ _ _).mp h)
  obtain ⟨w, hw, heq⟩ := Option.map_eq_some_iff.mp hv
  obtain ⟨-, rfl⟩ := Prod.mk.inj heq
  exact warm_bound hw

theorem OrdersOk.warmEnd (h : OrdersOk s) (hs : tsorted s.bt.slots = true) : OrdersOk (warmEnd (warmState s)) := by
  have hend := warmEnd_ends (warmState s)
  have hwarm : tsorted (warmSlots s.bt.slots) = true := tsorted_filterMap hs Slot.warm
  refine OrdersOk.of_idle (by rw [hend.ou, hend.frames]; exact ⟨rfl, rfl, h.counter⟩) ?_ (by rw [hend.policy]; exact h.window)
  rintro ⟨k, b⟩ hkb
  rw [hend.slots, mem_bindingsOf_iff _ (tsorted_retireAll _ _ hwarm), bindingAt_retireAll] at hkb
  split at hkb
  · cases hkb
  · next hstays =>
    have hmem := mem_bindingsOf_of_bindingAt hkb
    obtain ⟨hstate, htag⟩ := mem_bindingsOf_warm hmem
    refine ⟨hstate, htag, (Binding.condemnedOk_iff _ _).mpr fun h2 => ⟨by simp [hstate], fun _ _ hclean => hstays ?_⟩⟩
    have hclean : b.dirty = 0#64 := hclean
    have h2 : 2 ≤ b.strikes := h2
    refine List.mem_map.mpr ⟨(k, b), List.mem_filter.mpr ⟨hmem, ?_⟩, rfl⟩
    simp [hstate, h2, hclean]

/-! ### The advance -/

/-- An advance leaves of the issued orders all but the flags of timeouts. -/
theorem OrdersOk.mapIssued (h : OrdersOk s) {g : Issued → Issued} (hg : ∀ i, (g i).order = i.order ∧ (g i).tag = i.tag)
    (hframe : ∀ i, (g i).frame = i.frame) : OrdersOk { s with ou := { s.ou with issued := s.ou.issued.map g } } where
  slot k := by
    have hi : (s.ou.issued.map g).filter (fun i => decide (i.order.slot = k)) = (s.ou.issuedAt k).map g := by
      rw [List.filter_map]
      simp [Function.comp_def, hg, OrderUnit.issuedAt]
    have := (h.slot k).mapIssued hg
    rw [← hi] at this
    exact this
  queue := h.queue
  issued_le := by simpa using h.issued_le
  window := h.window
  tags := by simpa [Function.comp_def, hg] using h.tags
  counter := h.counter
  frames := fun f hf => by simpa [Function.comp_def, hframe] using h.frames f hf
  drains := by
    have := h.drains
    rw [OrderUnit.drains_eq] at this ⊢
    simpa [List.countP_map, Function.comp_def, hg] using this
  idle := h.idle.imp id fun hidle => by
    have hissued : s.ou.issued = [] := by simp [OrderUnit.orders] at hidle; exact hidle.2.2.2
    rw [← hidle]
    simp [OrderUnit.orders, hissued, OrderUnit.ordersIn]

theorem OrdersOk.advance (h : OrdersOk s) (hok : MapOk s.bt.n s.bt.e s.bt.slots s.ct.rows) :
    OrdersOk (if active s then tickActive (tick s) else tick s) := by
  split
  · have hstep : TableStep True (fun _ _ _ => False) s { tickActive (tick s) with ou := s.ou } :=
      .trans (t := tick s) (.of_quiet ⟨rfl, rfl, rfl, rfl⟩)
        ⟨rfl, rfl, rfl, rfl, .single (tickActive_move (tick s))⟩
    have hstood : OrdersOk { tickActive (tick s) with ou := s.ou } := h.tableStep trivial hok hstep rfl (.refl _)
    exact hstood.mapIssued (g := Issued.advance (tick s).seconds s.policy.orderTimeout) (fun _ => ⟨rfl, rfl⟩) fun _ => rfl
  · exact h.calm (t := tick s) ⟨⟨rfl, rfl, rfl, rfl⟩, rfl, rfl, le_rfl, fun hhu => ⟨hhu.intake, hhu.lapseCount, hhu.trackers,
      Nat.mod_lt _ (by decide)⟩, id, rfl, .refl _, List.suffix_refl _⟩

/-! ### The commands that open, import or empty the map -/

theorem importSlots_orderless {slots : List (Nat × Slot)} (h : Orderless false slots) (r : Record) :
    Orderless false (importSlots slots r) := by
  intro kb hkb
  unfold importSlots at hkb
  split at hkb
  · rcases mem_bindingsOf_tset hkb with rfl | hold
    · exact ⟨rfl, rfl, (Binding.condemnedOk_iff _ _).mpr fun _ => ⟨by simp [importedBinding], by simp⟩⟩
    · exact h _ hold
  · split at hkb
    · exact h _ (mem_bindingsOf_tset_retired hkb)
    · exact h _ (mem_bindingsOf_terase hkb)

theorem commit_orderless {slots : List (Nat × Slot)} (h : Orderless false slots) (now : Time) :
    Orderless true (slots.map fun p => (p.1, p.2.commit now)) := by
  rintro ⟨k, b'⟩ hkb
  obtain ⟨b, hb, hkeep, rfl⟩ := mem_bindingsOf_commit hkb
  obtain ⟨hstate, htag, -⟩ := h _ hb
  have hstate : b.state = .held := hstate
  exact ⟨hstate, htag, (Binding.condemnedOk_iff _ _).mpr fun h2 => ⟨by simp [hstate], fun _ _ hclean => hkeep ⟨h2, hclean⟩⟩⟩

theorem orderless_nil (a : Bool) : Orderless a [] := fun kb hkb => by simp [bindingsOf] at hkb

theorem Policy.set_window (p : Policy) (n pinned id v : Nat) (h : 1 ≤ p.window ∧ p.window ≤ 8) :
    1 ≤ (p.set n pinned id v).window ∧ (p.set n pinned id v).window ≤ 8 := by
  unfold Policy.set
  split
  case h_18 => exact clampTo_bounds (by decide) v
  all_goals exact h

/-- The law of the map and the law of orders. -/
def MapOrders (s : State) : Prop := mapLaw s = true ∧ OrdersOk s

theorem mapOrders_kept (hs : MapOrders s) : MapLawKept MapOrders s where
  calm hc hu := ⟨mapLaw_quiet hc.toQuiet hu.1, hu.2.calm hc⟩
  powerOn := ⟨(mapLaw_kept hs.1).powerOn,
    .of_idle (t := powerOnState s) ⟨rfl, rfl, show (1#16 : Tag) ≠ 0#16 by decide⟩ (orderless_nil _)
      (show 1 ≤ 4 ∧ 4 ≤ 8 by decide)⟩
  cold {u} hc := ⟨(mapLaw_kept hs.1).cold hc,
    .of_idle (t := coldState u) ⟨rfl, rfl, show (1#16 : Tag) ≠ 0#16 by decide⟩ (orderless_nil _) (hs.2.calm hc).window⟩
  opened {u} f hc hl := ⟨(mapLaw_kept hs.1).opened f hc hl,
    .of_idle (t := becomeActive (openMap f u)) ((hs.2.calm hc).idle_of_inactive (by simp [active, hl])) (orderless_nil _)
      (clampTo_bounds (by decide) _)⟩
  importing {u} f hc hl := ⟨(mapLaw_kept hs.1).importing f hc hl,
    .of_idle (t := { openMap f u with mju := { u.mju with life := .importing, accepted := 0, rejected := 0 } })
      ((hs.2.calm hc).idle_of_inactive (by simp [active, hl])) (orderless_nil _) (clampTo_bounds (by decide) _)⟩
  record {u} bytes hl hu := by
    refine ⟨(mapLaw_kept hu.1).record bytes hl hu.1, ?_⟩
    have ha : active u = false := by simp [active, hl]
    have hslots := hu.2.orderless_of_inactive ha ((mapLaw_iff u).mp hu.1).1.slots_sorted
    have hidle := hu.2.idle_of_inactive ha
    unfold importRecord
    split
    · exact hu.2.of_slots (fun _ _ _ h => h) rfl rfl rfl (.refl _)
    · refine OrdersOk.of_idle hidle ?_ hu.2.window
      show Orderless (active u) _
      rw [ha]
      exact importSlots_orderless hslots _
  commit {u} hl hu := by
    have ha : active u = false := by simp [active, hl]
    have hslots := hu.2.orderless_of_inactive ha ((mapLaw_iff u).mp hu.1).1.slots_sorted
    exact ⟨(mapLaw_kept hu.1).commit hl hu.1, .of_idle (t := commitImport u) (hu.2.idle_of_inactive ha)
      (commit_orderless hslots u.seconds) hu.2.window⟩
  drop {u} hl hu := ⟨(mapLaw_kept hu.1).drop hl hu.1, .of_idle (t := dropImport u)
    (hu.2.idle_of_inactive (by simp [active, hl])) (orderless_nil _) hu.2.window⟩
  pair {u} pair hu := by
    refine ⟨(mapLaw_kept hu.1).pair pair hu.1, ?_⟩
    have h := hu.2
    exact ⟨h.slot, h.queue, h.issued_le, Policy.set_window _ _ _ _ _ h.window, h.tags, h.counter, h.frames, h.drains, h.idle⟩

/-! ### Every command -/

theorem mem_of_issuedWith {issued : List Issued} {t : Tag} {i : Issued} (h : issuedWith issued t = some i) : i ∈ issued :=
  List.mem_of_find?_eq_some h

theorem OrdersOk.answerOk (h : OrdersOk s) (tag : Tag) (b : OkBody) : OrdersOk (s.answerOk tag b) :=
  h.calm (answerOk_calm s tag b)

theorem OrdersOk.timeoutOrder (h : OrdersOk s) {i : Issued} (hi : i ∈ s.ou.issued) {b : Binding}
    (hb : bindingAt s.bt.slots i.order.slot = some b) (hactive : active s = true) : OrdersOk (timeoutOrder s i b) := by
  obtain ⟨b', hb', hnames, -, hcond⟩ := h.issued_at hi
  obtain rfl := Option.some.inj (hb.symm.trans hb')
  unfold Machine.timeoutOrder
  dsimp only
  split
  · exact ((h.conclude hi (timeoutChange_keeps s i b) (timeoutChange_concludes s hnames hcond) hactive).logChange _ _).calm
      (.settleCredit _)
  · exact h

theorem OrdersOk.serveComplete (h : OrdersOk s) (hactive : active s = true) (f : Frame) : OrdersOk (serveComplete f s) := by
  unfold Machine.serveComplete
  split
  · exact h.calm (refer_calm s _ _ _ _)
  · split
    · exact h.calm (refer_calm s _ _ _ _)
    · next i hi =>
      split
      · exact h.calm (refer_calm s _ _ _ _)
      · next b hb =>
        obtain ⟨b', hb', hnames, -⟩ := h.issued_at (mem_of_issuedWith hi)
        obtain rfl := Option.some.inj (hb.symm.trans hb')
        unfold acceptCompletion
        dsimp only
        split
        · exact ((h.conclude (mem_of_issuedWith hi) (completeOrder_keeps s i b _ _)
            (completeOrder_concludes s hnames _ _) hactive).logChange _ _).answerOk _ _
        · exact h.calm (.of_view rfl)

theorem OrdersOk.serveResetWarm (h : OrdersOk s) (hs : tsorted s.bt.slots = true) (f : Frame) :
    OrdersOk (serveResetWarm f s) := by
  unfold Machine.serveResetWarm
  split
  · split
    · exact (h.warmEnd hs).answerOk _ _
    · exact h.calm (refer_calm s _ _ _ _)
    · exact h.calm (refer_calm s _ _ _ _)
  · exact h.calm (refer_calm s _ _ _ _)

theorem OrdersOk.request (h : OrdersOk s) {row : RequestRow} {serve : Frame → State → State}
    (hserve : ∀ lif f, OrdersOk { s with lif := lif } → phaseRefusal row s.mju.life = none →
      OrdersOk (serve f { s with lif := lif })) : OrdersOk (takeRequest row serve s) :=
  takeRequest_induction (R := fun _ v => OrdersOk v) h
    (fun _ f key code n hframes => h.calm ((State.Calm.onlyLink s hframes).trans (refer_calm _ f key code n)))
    fun lif f _ hframes _ _ hp _ => hserve lif f (h.calm (.onlyLink s hframes)) hp

theorem OrdersOk.dispatch (h : OrdersOk s) (hexec : exec .dispatch s = .next t) : OrdersOk t := by
  rcases exec_dispatch_cases s with heq | ⟨q, w, b, hactive, hwindow, -, hw, hb, ⟨-, heq⟩ | ⟨-, heq⟩⟩ <;>
    rw [heq] at hexec <;> obtain rfl := Host.Outcome.next.inj hexec
  · exact h
  · exact h.endAtSelection hw hactive
  · exact h.issue hw hwindow hb hactive

/-- The commands that move orders. -/
theorem exec_ordersOk_moves (hs : MapOrders s) {c : Instr} (hc : movesOrders c = true) (h : exec c s = .next t) :
    OrdersOk t := by
  have hsorted := ((mapLaw_iff s).mp hs.1).1.slots_sorted
  have hord := hs.2
  cases c with
  | orderTimeout tag =>
    obtain rfl := Host.Outcome.next.inj h
    split
    · next hactive =>
      split
      · next i hi =>
        split
        · next b hb =>
          split
          · exact hord.timeoutOrder (mem_of_issuedWith hi) hb hactive
          · exact hord
        · exact hord
      · exact hord
    · exact hord
  | drainPickerRun =>
    obtain rfl := Host.Outcome.next.inj h
    split
    · next hrun =>
      have hactive : active s = true := (Bool.and_eq_true_iff.mp hrun).1
      have hstart : OrdersOk { s with psm := { s.psm with drainRunsOwed := s.psm.drainRunsOwed - 1 } } :=
        hord.calm (.of_view rfl)
      dsimp only
      split
      · exact hstart.drainLoop 64 hsorted hactive
      · exact hstart
    · exact hord
  | promotionPickerRun =>
    obtain rfl := Host.Outcome.next.inj h
    split
    · next hrun =>
      have hactive : active s = true := (Bool.and_eq_true_iff.mp hrun).1
      have hstart : OrdersOk { s with au := { s.au with runsOwed := s.au.runsOwed - 1 } } :=
        hord.calm (.of_view rfl)
      exact (hstart.promoteLoop _ hsorted hactive).calm (.settleCredit _)
    · exact hord
  | refillScan =>
    obtain rfl := Host.Outcome.next.inj h
    split
    · next hrun =>
      have hactive : active s = true := (Bool.and_eq_true_iff.mp hrun).1
      have hstart : OrdersOk { s with pu := { s.pu with scansOwed := s.pu.scansOwed - 1 } } :=
        hord.calm (.of_view rfl)
      exact hstart.refillLoop 32 hsorted hactive
    · exact hord
  | dispatch => exact hord.dispatch h
  | complete =>
    obtain rfl := Host.Outcome.next.inj h
    exact hord.request fun lif f hu hp => hu.serveComplete (active_of_phaseRefusal (s := s) hp (by decide)) f
  | resetWarm =>
    obtain rfl := Host.Outcome.next.inj h
    exact hord.request fun lif f hu _ => hu.serveResetWarm hsorted f
  | _ => exact Bool.noConfusion hc

/-- The orders and their frames stand. -/
structure OrdersStand (s t : State) : Prop where
  ou : t.ou = s.ou
  frames : t.lif.orderFrames = s.lif.orderFrames

theorem OrdersStand.of_onlySlots (h : s.OnlySlots t) : OrdersStand s t := by
  obtain ⟨slots, pu, rfl⟩ := h
  exact ⟨rfl, rfl⟩

/-- A change of slots that enters the log and is answered. -/
theorem OrdersStand.made (h : OrdersStand s t) (before : List (Nat × Slot)) (ks : List Nat) (tag : Tag) (b : OkBody) :
    OrdersStand s ((t.logChange before ks).answerOk tag b) := ⟨h.ou, h.frames⟩

theorem servePlanWrite_stands (start count : Nat) (f : Frame) (s : State) :
    OrdersStand s (servePlanWrite start count f s) := by
  unfold servePlanWrite
  split
  · exact ⟨rfl, rfl⟩
  · split
    · exact ⟨rfl, rfl⟩
    · exact ⟨rfl, rfl⟩

theorem serveDiscard_stands (start count : Nat) (f : Frame) (s : State) :
    OrdersStand s (serveDiscard start count f s) := by
  unfold serveDiscard
  dsimp only
  split
  · refine OrdersStand.made ?_ _ _ _ _
    have h := OrdersStand.of_onlySlots (discardShares_onlySlots (sharesOf start count) ⟨s, [], false, false⟩)
    exact ⟨by simpa using h.ou, by simpa using h.frames⟩
  · exact ⟨rfl, rfl⟩

theorem makeUnpin_stands (ks : List Nat) (f : Frame) (s : State) : OrdersStand s (makeUnpin ks f s) := by
  unfold makeUnpin
  dsimp only
  split
  · refine OrdersStand.made ?_ _ _ _ _
    have h := OrdersStand.of_onlySlots (unpinSlots_onlySlots (pinOwner f) ks ⟨s, false⟩)
    exact ⟨by simpa using h.ou, by simpa using h.frames⟩
  · exact ⟨rfl, rfl⟩

theorem serveRange_stands {serve : Nat → Nat → Frame → State → State} (f : Frame) (s : State)
    (h : ∀ start count, OrdersStand s (serve start count f s)) : OrdersStand s (serveRange serve f s) := by
  unfold serveRange
  split
  · exact ⟨rfl, rfl⟩
  · exact h _ _

theorem checkOwner_stands {serve : Frame → State → State} (f : Frame) (s : State) (h : OrdersStand s (serve f s)) :
    OrdersStand s (checkOwner serve f s) := by
  unfold checkOwner
  split
  · exact ⟨rfl, rfl⟩
  · split
    · exact ⟨rfl, rfl⟩
    · split
      · exact ⟨rfl, rfl⟩
      · exact h

theorem request_stands {row : RequestRow} {serve : Frame → State → State} (h : ∀ f (u : State), OrdersStand u (serve f u)) :
    OrdersStand s (takeRequest row serve s) :=
  takeRequest_induction (R := OrdersStand) ⟨rfl, rfl⟩ (fun _ _ _ _ _ hframes => ⟨rfl, hframes⟩)
    fun lif f _ hframes _ _ _ _ => ⟨(h f { s with lif := lif }).ou, (h f { s with lif := lif }).frames.trans hframes⟩

/-- The commands that change tables but leave the orders. -/
theorem exec_stands {c : Instr} (hc : (leavesMap c || movesOrders c || remaps c) = false)
    (hadvance : c ≠ .secondsAdvance) (h : exec c s = .next t) : OrdersStand s t := by
  cases c with
  | secondsAdvance => exact absurd rfl hadvance
  | rowExpiry row | barEnd row =>
    obtain rfl := Host.Outcome.next.inj h
    repeat' split
    all_goals exact ⟨rfl, rfl⟩
  | takeItem =>
    obtain rfl := Host.Outcome.next.inj h
    unfold takeOneItem
    split
    · split
      · exact ⟨rfl, rfl⟩
      · next item rest _ =>
        obtain ⟨slots, ct, trackers, owed, heq⟩ := applyItem_eq (s.dropItem rest) item
        rw [heq]
        exact ⟨rfl, rfl⟩
    · exact ⟨rfl, rfl⟩
  | planWrite =>
    obtain rfl := Host.Outcome.next.inj h
    exact request_stands fun f u => serveRange_stands f u fun _ _ => servePlanWrite_stands _ _ f u
  | discard =>
    obtain rfl := Host.Outcome.next.inj h
    exact request_stands fun f u => serveRange_stands f u fun _ _ => serveDiscard_stands _ _ f u
  | pin =>
    obtain rfl := Host.Outcome.next.inj h
    refine request_stands fun f u => checkOwner_stands f u ?_
    unfold servePin makePin
    dsimp only
    repeat' split
    all_goals exact ⟨rfl, rfl⟩
  | unpin =>
    obtain rfl := Host.Outcome.next.inj h
    refine request_stands fun f u => checkOwner_stands f u ?_
    unfold serveUnpin
    split
    · exact ⟨rfl, rfl⟩
    · exact makeUnpin_stands _ f u
  | unpinAll =>
    obtain rfl := Host.Outcome.next.inj h
    exact request_stands fun f u => checkOwner_stands f u (makeUnpin_stands _ f u)
  | _ => exact Bool.noConfusion hc

theorem exec_mapOrders (hs : MapOrders s) {c : Instr} (h : exec c s = .next t) : MapOrders t := by
  refine (mapOrders_kept hs).exec h hs fun hremaps => ⟨exec_mapLaw s t c hs.1 h, ?_⟩
  have hok := ((mapLaw_iff s).mp hs.1).1
  by_cases hmoves : movesOrders c = true
  · exact exec_ordersOk_moves hs hmoves h
  · by_cases hmap : leavesMap c = true
    · exact hs.2.calm (exec_calm s hmap h)
    · by_cases hadvance : c = .secondsAdvance
      · subst hadvance
        obtain rfl := Host.Outcome.next.inj h
        exact hs.2.advance hok
      · have hstand := exec_stands (by simp [hmap, hmoves, hremaps]) hadvance h
        exact hs.2.tableStep (Bool.eq_false_iff.mpr hmoves) hok (exec_tableStep s hremaps (fun _ => hok.slots_sorted) h)
          (by rw [hstand.ou]) (by rw [hstand.frames])

/-- Settles O53: at every slot stands no order, one waiting or one issued; what the moves of the tables keep of it, and what
an order that joins, is issued, returns or ends makes of its slot. -/
theorem everyStepKeepsTheOrderLaw : Obligations.EveryStepKeepsTheOrderLaw := by
  unfold Obligations.EveryStepKeepsTheOrderLaw
  intro s t hmap horders h
  have hs : MapOrders s := ⟨hmap, (orderLaw_iff ((mapLaw_iff s).mp hmap).1.slots_sorted).mp horders⟩
  have ht : MapOrders t := by
    rcases step_cases h with ⟨c, rest, -, hexec⟩ | rfl | rfl
    · exact exec_mapOrders (s := { s with pending := rest }) ⟨mapLaw_quiet (u := s) ⟨rfl, rfl, rfl, rfl⟩ hmap,
        hs.2.calm (.of_view rfl)⟩ hexec
    · exact ⟨mapLaw_quiet (.finishFrame s) hmap, hs.2.calm (.finishFrame s)⟩
    · exact hs
  exact (orderLaw_iff ((mapLaw_iff t).mp ht.1).1.slots_sorted).mpr ht.2

end

end Sys2Proof.Machine
end


section
/-! SUPPORT. The delta log over every step: an entry joins where its slot has none, and where there is room for it. -/

namespace Sys2Proof.Machine

/-! ### The law of the log (R154) -/

/-- At most 256 entries, no two for one slot. -/
structure LogOk (log : List LogEntry) : Prop where
  length_le : log.length ≤ 256
  nodup : (log.map LogEntry.slot).Nodup

theorem logLaw_iff (s : State) : logLaw s = true ↔ LogOk s.mju.log := by
  simp only [logLaw, Bool.and_eq_true, decide_eq_true_eq]
  exact ⟨fun h => ⟨h.1, h.2⟩, fun h => ⟨h.1, h.2⟩⟩

theorem LogOk.suffix {log log' : List LogEntry} (h : LogOk log) (hs : log' <:+ log) : LogOk log' where
  length_le := hs.length_le.trans h.length_le
  nodup := (hs.sublist.map LogEntry.slot).nodup h.nodup

theorem inLog_eq_false {log : List LogEntry} {k : Nat} : inLog log k = false ↔ k ∉ log.map LogEntry.slot := by
  simp [inLog]

section
variable {now : Time} {before after : List (Nat × Slot)}

theorem grownLog_nodup {log : List LogEntry} (h : (log.map LogEntry.slot).Nodup) (ks : List Nat) :
    ((grownLog now before after log ks).map LogEntry.slot).Nodup := by
  induction ks generalizing log with
  | nil => exact h
  | cons k ks ih =>
    refine ih (log := addEntry now before after log k) ?_
    unfold addEntry
    split
    · next hadd =>
      simp only [Bool.and_eq_true, Bool.not_eq_true', inLog_eq_false] at hadd
      rw [List.map_append]
      refine List.nodup_append.mpr ⟨h, by simp, fun a ha b hb => ?_⟩
      obtain rfl : b = k := by simpa using hb
      exact fun heq => hadd.2 (heq ▸ ha)
    · exact h

theorem grownLog_length_le (log : List LogEntry) (ks : List Nat) :
    (grownLog now before after log ks).length ≤ log.length + ks.length := by
  induction ks generalizing log with
  | nil => exact le_rfl
  | cons k ks ih =>
    have hone : (addEntry now before after log k).length ≤ log.length + 1 := by
      unfold addEntry
      split <;> simp
    have := ih (addEntry now before after log k)
    rw [List.length_cons]
    show (grownLog now before after (addEntry now before after log k) ks).length ≤ _
    omega

theorem LogOk.grown {log : List LogEntry} {ks : List Nat} (h : LogOk log)
    (hroom : (grownLog now before after log ks).length ≤ log.length ∨ (grownLog now before after log ks).length ≤ 256) :
    LogOk (grownLog now before after log ks) where
  length_le := by
    have := h.length_le
    omega
  nodup := grownLog_nodup h.nodup ks

theorem LogOk.requestRoom {log : List LogEntry} {ks : List Nat} (h : LogOk log)
    (hroom : requestRoom log (grownLog now before after log ks) = true) : LogOk (grownLog now before after log ks) := by
  simp only [Machine.requestRoom, Bool.or_eq_true, decide_eq_true_eq] at hroom
  exact h.grown (by omega)

theorem LogOk.orderRoom {log : List LogEntry} {ks : List Nat} (h : LogOk log)
    (hroom : orderRoom log (grownLog now before after log ks) = true) : LogOk (grownLog now before after log ks) := by
  simp only [Machine.orderRoom, Bool.or_eq_true, decide_eq_true_eq] at hroom
  exact h.grown hroom

end

section
variable {s t : State}

theorem settleCredit_log (s : State) : s.settleCredit.mju = s.mju := by unfold State.settleCredit; split <;> rfl

/-! ### The ends of an order -/

theorem timeoutOrder_log (h : LogOk s.mju.log) (i : Issued) (b : Binding) : LogOk (timeoutOrder s i b).mju.log := by
  unfold timeoutOrder
  dsimp only
  split
  · next hroom =>
    have hkeep := timeoutChange_keeps s i b
    rw [settleCredit_log]
    show LogOk (grownLog (timeoutChange s i b).seconds _ _ (timeoutChange s i b).mju.log _)
    rw [hkeep.seconds, hkeep.mju]
    exact h.orderRoom hroom
  · exact h

theorem serveComplete_log (h : LogOk s.mju.log) (f : Frame) : LogOk (serveComplete f s).mju.log := by
  unfold serveComplete
  split
  · exact h
  · split
    · exact h
    · split
      · exact h
      · next _ code _ _ i _ _ b _ =>
        unfold acceptCompletion
        dsimp only
        split
        · next hroom =>
          have hkeep := completeOrder_keeps s i b code (completeCopied f)
          show LogOk (grownLog (completeOrder s i b code (completeCopied f)).seconds _ _
            (completeOrder s i b code (completeCopied f)).mju.log _)
          rw [hkeep.seconds, hkeep.mju]
          exact h.orderRoom hroom
        · exact h

/-- A slot that comes to HELD keeps its persisted form (R17). -/
theorem persistedChanged_held {slots : List (Nat × Slot)} {k : Nat} {b : Binding} (hb : bindingAt slots k = some b) :
    persistedChanged slots (tset slots k (.bound { b.orderless with state := .held })) k = false := by
  have hget := tget_of_bindingAt hb
  simp [persistedChanged, persisted, hget, Binding.orderless, Binding.condemned]

/-- An order that is ready ends at its selection with room for its entry (R156). -/
theorem endAtSelection_log (h : LogOk s.mju.log) {q : QueueId} {w : Waiting} {b : Binding} (hw : firstReady s q = some w)
    (hb : bindingAt s.bt.slots w.order.slot = some b) : LogOk (endAtSelection s q w b).mju.log := by
  have hready : heldBack s w.order = false := by
    have := List.find?_some hw
    simp only [orderReady, Bool.and_eq_true, Bool.not_eq_true'] at this
    exact this.2
  set s1 := (s.setWaiting q (withoutFirstReady s q)).leaveOrder w.order.slot b false with hs1
  have hkeep : (s.setWaiting q (withoutFirstReady s q)).EndKeeps s1 := leaveOrder_keeps _ _ _ _
  have hgrow : (endAtSelection s q w b).mju.log =
      grownLog s.seconds s.bt.slots s1.bt.slots s.mju.log [w.order.slot] := by
    unfold endAtSelection
    rw [settleCredit_log]
    show grownLog _ _ _ _ _ = _
    simp only [State.startScanIf_seconds, State.startPickerIf_seconds, State.startScanIf_bt, State.startPickerIf_bt,
      State.startScanIf_mju, State.startPickerIf_mju]
    rw [← hs1, hkeep.seconds, hkeep.mju]
    rfl
  rw [hgrow]
  by_cases hfull : s.mju.log.length < 256
  · have := grownLog_length_le (now := s.seconds) (before := s.bt.slots) (after := s1.bt.slots) s.mju.log [w.order.slot]
    rw [List.length_singleton] at this
    exact h.grown (.inr (by omega))
  · refine h.grown (.inl ?_)
    rw [grownLog_single]
    split
    · next hadd =>
      exfalso
      obtain ⟨hchanged, hnot⟩ := hadd
      have hstays : ¬ (2 ≤ b.strikes ∧ b.dirty = 0#64) := by
        simpa [heldBack, hb, hnot, Nat.le_of_not_lt hfull] using hready
      rcases leaveOrder_cases (s.setWaiting q (withoutFirstReady s q)) w.order.slot b false with
        ⟨hc, -⟩ | ⟨⟨-, hfalse, -⟩, -⟩ | ⟨-, heq⟩
      · exact hstays hc
      · cases hfalse
      · rw [hs1, heq] at hchanged
        simp only [State.startScanIf_bt, State.setBinding_bt, State.setWaiting_bt] at hchanged
        rw [persistedChanged_held hb] at hchanged
        cases hchanged
    · exact le_rfl

theorem dispatch_log (h : LogOk s.mju.log) (hexec : exec .dispatch s = .next t) : LogOk t.mju.log := by
  rcases exec_dispatch_cases s with heq | ⟨q, w, b, -, -, -, hw, hb, ⟨-, heq⟩ | ⟨-, heq⟩⟩ <;>
    rw [heq] at hexec <;> obtain rfl := Host.Outcome.next.inj hexec
  · exact h
  · exact endAtSelection_log h hw hb
  · simpa [dispatchOrder] using h

/-! ### The runs -/

theorem promoteLoop_log (fuel : Nat) {s : State} (h : LogOk s.mju.log) : LogOk (promoteLoop fuel s).mju.log := by
  induction fuel generalizing s with
  | zero => exact h
  | succ fuel ih =>
    unfold promoteLoop
    split
    · exact h
    · next hstops =>
      have hroom : s.mju.log.length < 248 := by
        simp only [pickerStops, Bool.or_eq_true, decide_eq_true_eq, not_or] at hstops
        omega
      split
      · exact h
      · next i w _ =>
        split
        · exact ih (s := clearFlag s i w) h
        · split
          · exact h
          · next k strikes _ =>
            refine ih ?_
            show LogOk (grownLog s.seconds s.bt.slots _ s.mju.log [k])
            have := grownLog_length_le (now := s.seconds) (before := s.bt.slots)
              (after := (promote s i w k strikes).bt.slots) s.mju.log [k]
            rw [List.length_singleton] at this
            exact h.grown (.inr (this.trans (by omega)))

/-! ### The requests -/

theorem makePlan_log (h : LogOk s.mju.log) (start count : Nat) (f : Frame) :
    LogOk (servePlanWrite start count f s).mju.log := by
  unfold servePlanWrite
  split
  · exact h
  · split
    · next hroom => exact h.requestRoom hroom
    · exact h

theorem serveDiscard_log (h : LogOk s.mju.log) (start count : Nat) (f : Frame) :
    LogOk (serveDiscard start count f s).mju.log := by
  unfold serveDiscard
  dsimp only
  split
  · next hroom =>
    obtain ⟨slots, pu, heq⟩ := discardShares_onlySlots (sharesOf start count) ⟨s, [], false, false⟩
    refine (congrArg LogOk ?_).mp (h.requestRoom hroom)
    show _ = grownLog _ _ _ _ _
    simp only [State.startScanIf_seconds, State.startPickerIf_seconds, State.startScanIf_bt, State.startPickerIf_bt,
      State.startScanIf_mju, State.startPickerIf_mju, State.settleDrainAll_seconds, State.settleDrainAll_bt,
      State.settleDrainAll_mju, heq]
    rfl
  · exact h

theorem makeUnpin_log (h : LogOk s.mju.log) (ks : List Nat) (f : Frame) : LogOk (makeUnpin ks f s).mju.log := by
  unfold makeUnpin
  dsimp only
  split
  · next hroom =>
    obtain ⟨slots, pu, heq⟩ := unpinSlots_onlySlots (pinOwner f) ks ⟨s, false⟩
    refine (congrArg LogOk ?_).mp (h.requestRoom hroom)
    show _ = grownLog _ _ _ _ _
    simp only [State.startPickerIf_seconds, State.startPickerIf_bt, State.startPickerIf_mju, heq]
    rfl
  · exact h

theorem servePin_log (h : LogOk s.mju.log) (f : Frame) : LogOk (servePin f s).mju.log := by
  unfold servePin makePin
  dsimp only
  split
  · exact h
  · split
    · exact h
    · split
      · next hroom => exact h.requestRoom hroom
      · exact h

theorem serveRange_log {serve : Nat → Nat → Frame → State → State} (h : LogOk s.mju.log) (f : Frame)
    (hserve : ∀ start count, LogOk (serve start count f s).mju.log) : LogOk (serveRange serve f s).mju.log := by
  unfold serveRange
  split
  · exact h
  · exact hserve _ _

theorem checkOwner_log {serve : Frame → State → State} (h : LogOk s.mju.log) (f : Frame)
    (hserve : LogOk (serve f s).mju.log) : LogOk (checkOwner serve f s).mju.log := by
  unfold checkOwner
  split
  · exact h
  · split
    · exact h
    · split
      · exact h
      · exact hserve

/-! ### RESET WARM: at most the drains retire (R16, R98) -/

/-- The slots that an order of the drain queue names. -/
def OrderUnit.drainSlots (ou : OrderUnit) : List Nat :=
  (ou.ordersIn .drain).map Order.slot
    ++ (ou.issued.filter fun i => decide (i.order.queue = .drain)).map fun i => i.order.slot

theorem OrderUnit.drainSlots_length (ou : OrderUnit) : ou.drainSlots.length = ou.drains := by
  simp [OrderUnit.drainSlots, OrderUnit.drains_eq, List.countP_eq_length_filter]

theorem QueueId.eq_drain_of_slotState {q : QueueId} (h : q.slotState = .draining) : q = .drain := by
  cases q <;> simp_all [QueueId.slotState, QueueId.kind]

/-- A DRAINING slot is named by a drain. -/
theorem OrdersOk.mem_drainSlots (h : OrdersOk s) {k : Nat} {b : Binding} (hb : bindingAt s.bt.slots k = some b)
    (hstate : b.state = .draining) : k ∈ s.ou.drainSlots := by
  have hslot := h.slot k
  have hmemW : ∀ o, s.ou.waitingAt k = [o] → o.queue = .drain → k ∈ s.ou.drainSlots := fun o ho hq => by
    obtain ⟨hmem, rfl⟩ := OrderUnit.mem_waitingAt.mp (ho ▸ List.mem_singleton_self o)
    refine List.mem_append_left _ (List.mem_map_of_mem ?_)
    simp only [OrderUnit.waitingOrders, List.mem_append] at hmem
    rcases hmem with (hmem | hmem) | hmem
    · exact absurd ((h.queue _ o hmem).symm.trans hq) (by decide)
    · exact absurd ((h.queue _ o hmem).symm.trans hq) (by decide)
    · exact hmem
  have hmemI : ∀ i, s.ou.issuedAt k = [i] → i.order.queue = .drain → k ∈ s.ou.drainSlots := fun i hi hq => by
    obtain ⟨hmem, rfl⟩ := OrderUnit.mem_issuedAt.mp (hi ▸ List.mem_singleton_self i)
    exact List.mem_append_right _ (List.mem_map.mpr ⟨i, List.mem_filter.mpr ⟨hmem, by simpa using hq⟩, rfl⟩)
  rw [hb] at hslot
  generalize hW : s.ou.waitingAt k = W, hI : s.ou.issuedAt k = I at hslot
  cases hslot with
  | held hheld => rw [hheld] at hstate; cases hstate
  | waiting hnames => exact hmemW _ hW (QueueId.eq_drain_of_slotState (hnames.state.symm.trans hstate))
  | issued hnames => exact hmemI _ hI (QueueId.eq_drain_of_slotState (hnames.state.symm.trans hstate))

theorem OrdersOk.condemnedOk (h : OrdersOk s) {k : Nat} {b : Binding} (hb : bindingAt s.bt.slots k = some b) :
    b.condemnedOk (active s) = true := by
  have hslot := h.slot k
  rw [hb] at hslot
  generalize s.ou.waitingAt k = W, s.ou.issuedAt k = I at hslot
  cases hslot with
  | held _ _ hc | waiting _ _ hc | issued _ _ hc => exact hc

/-- What RESET WARM makes of a slot keeps strikes and dirty set (R21). -/
theorem warm_of_bound {v : Slot} {b : Binding} (h : v.warm = some (.bound b)) :
    ∃ c, v = .bound c ∧ b.strikes = c.strikes ∧ b.dirty = c.dirty := by
  cases v with
  | retired => simp [Slot.warm] at h
  | bound c =>
    refine ⟨c, rfl, ?_⟩
    cases hst : c.state <;> simp only [Slot.warm, hst] at h
    · split at h
      · obtain rfl := Slot.bound.inj (Option.some.inj h); exact ⟨rfl, rfl⟩
      · cases h
    · obtain rfl := Slot.bound.inj (Option.some.inj h); exact ⟨rfl, rfl⟩
    · obtain rfl := Slot.bound.inj (Option.some.inj h); exact ⟨rfl, rfl⟩

/-- A binding that RESET WARM retires was DRAINING: at most 72 retire. -/
theorem OrdersOk.warmRetirements_length (h : OrdersOk s) (hs : tsorted s.bt.slots = true) (hactive : active s = true) :
    (warmRetirements (warmSlots s.bt.slots)).length ≤ 72 := by
  have hwarm : tsorted (warmSlots s.bt.slots) = true := tsorted_filterMap hs Slot.warm
  have hsub : (warmRetirements (warmSlots s.bt.slots)).map Prod.fst ⊆ s.ou.drainSlots := fun k hk => by
    obtain ⟨⟨k, b⟩, hmem, rfl⟩ := List.mem_map.mp hk
    obtain ⟨hb, -, hstrikes, hclean⟩ := warmRetirements_mem hmem
    have hat := (mem_bindingsOf_iff _ hwarm k b).mp hb
    have hget := tget_of_bindingAt hat
    rw [show warmSlots s.bt.slots = s.bt.slots.filterMap fun p => (p.2.warm).map fun x => (p.1, x) from rfl,
      tget_filterMap hs] at hget
    obtain ⟨v, hv, hvwarm⟩ := Option.bind_eq_some_iff.mp hget
    obtain ⟨c, rfl, hcs, hcd⟩ := warm_of_bound hvwarm
    have hc : bindingAt s.bt.slots k = some c := by simp [bindingAt, hv]
    obtain ⟨hfill, hheld⟩ := (Binding.condemnedOk_iff _ _).mp (h.condemnedOk hc) (hcs ▸ hstrikes)
    refine h.mem_drainSlots hc ?_
    cases hst : c.state with
    | filling => exact absurd hst hfill
    | held => exact absurd (hcd ▸ hclean) (hheld hactive hst)
    | draining => rfl
  have hlen := (warmRetirements_nodup hwarm).subperm hsub |>.length_le
  rw [OrderUnit.drainSlots_length, List.length_map] at hlen
  exact hlen.trans h.drains

theorem serveResetWarm_log (h : LogOk s.mju.log) (hord : OrdersOk s) (hs : tsorted s.bt.slots = true) (f : Frame) :
    LogOk (serveResetWarm f s).mju.log := by
  unfold serveResetWarm
  split
  · split
    · next hl =>
      have hlen := hord.warmRetirements_length hs (by simp [active, hl])
      obtain ⟨slots, pu, heq⟩ := (warmState s).retireAll_onlySlots (warmRetirements (warmState s).bt.slots)
      set u := (warmState s).retireAll (warmRetirements (warmState s).bt.slots) with hu
      have hlog : u.mju.log = [] := by rw [heq]; rfl
      show LogOk (grownLog u.seconds (warmState s).bt.slots u.bt.slots u.mju.log
        ((warmRetirements (warmState s).bt.slots).map Prod.fst))
      rw [hlog]
      have hgrown := grownLog_length_le (now := u.seconds) (before := (warmState s).bt.slots) (after := u.bt.slots) []
        ((warmRetirements (warmState s).bt.slots).map Prod.fst)
      rw [List.length_map, List.length_nil] at hgrown
      refine LogOk.grown ⟨by simp, by simp⟩ (.inr (hgrown.trans ?_))
      have : (warmRetirements (warmState s).bt.slots).length ≤ 72 := hlen
      omega
    · exact h
    · exact h
  · exact h

/-! ### Every command -/

theorem logOk_nil : LogOk [] := ⟨by simp, by simp⟩

theorem logOk_kept (h : LogOk s.mju.log) : MapLawKept (fun u => LogOk u.mju.log) s where
  calm hc hu := hu.suffix hc.log
  powerOn := logOk_nil
  cold _ := logOk_nil
  opened _ hc _ := h.suffix hc.log
  importing _ hc _ := h.suffix hc.log
  record _ _ hu := by
    unfold importRecord
    split <;> exact hu
  commit _ hu := hu
  drop _ hu := hu
  pair _ hu := hu

theorem request_log {row : RequestRow} {serve : Frame → State → State} (h : LogOk s.mju.log)
    (hserve : ∀ lif f, lif.orderFrames = s.lif.orderFrames → phaseRefusal row s.mju.life = none →
      LogOk (serve f { s with lif := lif }).mju.log) : LogOk (takeRequest row serve s).mju.log :=
  takeRequest_induction (R := fun _ v => LogOk v.mju.log) h (fun _ _ _ _ _ _ => h)
    fun lif f _ hframes _ _ hp _ => hserve lif f hframes hp

theorem exec_log (h : LogOk s.mju.log) (hmap : mapLaw s = true) (hord : OrdersOk s) {c : Instr}
    (hexec : exec c s = .next t) : LogOk t.mju.log := by
  have hs := ((mapLaw_iff s).mp hmap).1.slots_sorted
  refine (logOk_kept h).exec hexec h fun hc => ?_
  by_cases hquiet : leavesMap c = true
  · exact h.suffix (exec_calm s hquiet hexec).log
  have hcmd : (remaps c || leavesMap c) = false := by simp [hc, hquiet]
  cases c with
  | secondsAdvance =>
    obtain rfl := Host.Outcome.next.inj hexec
    split <;> exact h
  | rowExpiry row | barEnd row =>
    obtain rfl := Host.Outcome.next.inj hexec
    repeat' split
    all_goals exact h
  | orderTimeout tag =>
    obtain rfl := Host.Outcome.next.inj hexec
    split
    · split
      · split
        · split
          · exact timeoutOrder_log h _ _
          · exact h
        · exact h
      · exact h
    · exact h
  | drainPickerRun =>
    obtain rfl := Host.Outcome.next.inj hexec
    split
    · dsimp only
      split
      · rw [(drainLoop_link _ _).2]; exact h
      · exact h
    · exact h
  | promotionPickerRun =>
    obtain rfl := Host.Outcome.next.inj hexec
    split
    · rw [settleCredit_log]; exact promoteLoop_log _ h
    · exact h
  | refillScan =>
    obtain rfl := Host.Outcome.next.inj hexec
    split
    · rw [(refillLoop_link _ _).2]; exact h
    · exact h
  | dispatch => exact dispatch_log h hexec
  | takeItem =>
    obtain rfl := Host.Outcome.next.inj hexec
    unfold takeOneItem
    split
    · split
      · exact h
      · next item rest _ =>
        obtain ⟨slots, ct, trackers, owed, heq⟩ := applyItem_eq (s.dropItem rest) item
        rw [heq]
        exact h
    · exact h
  | planWrite =>
    obtain rfl := Host.Outcome.next.inj hexec
    exact request_log h fun lif f _ _ =>
      serveRange_log (s := { s with lif := lif }) h f fun _ _ => makePlan_log (s := { s with lif := lif }) h _ _ f
  | discard =>
    obtain rfl := Host.Outcome.next.inj hexec
    exact request_log h fun lif f _ _ =>
      serveRange_log (s := { s with lif := lif }) h f fun _ _ => serveDiscard_log (s := { s with lif := lif }) h _ _ f
  | pin =>
    obtain rfl := Host.Outcome.next.inj hexec
    exact request_log h fun lif f _ _ =>
      checkOwner_log (s := { s with lif := lif }) h f (servePin_log (s := { s with lif := lif }) h f)
  | unpin =>
    obtain rfl := Host.Outcome.next.inj hexec
    refine request_log h fun lif f _ _ => checkOwner_log (s := { s with lif := lif }) h f ?_
    unfold serveUnpin
    split
    · exact h
    · exact makeUnpin_log (s := { s with lif := lif }) h _ f
  | unpinAll =>
    obtain rfl := Host.Outcome.next.inj hexec
    exact request_log h fun lif f _ _ =>
      checkOwner_log (s := { s with lif := lif }) h f (makeUnpin_log (s := { s with lif := lif }) h _ f)
  | complete =>
    obtain rfl := Host.Outcome.next.inj hexec
    exact request_log h fun lif f _ _ => serveComplete_log (s := { s with lif := lif }) h f
  | resetWarm =>
    obtain rfl := Host.Outcome.next.inj hexec
    exact request_log h fun lif f hframes _ =>
      serveResetWarm_log (s := { s with lif := lif }) h (hord.calm (.onlyLink s hframes)) hs f
  | _ => exact Bool.noConfusion hcmd

/-- Settles O54: each command adds entries where there is room, an ended order's was not held back (R156), a picker run stops
at 248, and at most the drains retire at RESET WARM. -/
theorem everyStepKeepsTheLogLaw : Obligations.EveryStepKeepsTheLogLaw := by
  unfold Obligations.EveryStepKeepsTheLogLaw
  intro s t hmap horders hlog h
  have hord : OrdersOk s := (orderLaw_iff ((mapLaw_iff s).mp hmap).1.slots_sorted).mp horders
  rw [logLaw_iff] at hlog ⊢
  rcases step_cases h with ⟨c, rest, -, hexec⟩ | rfl | rfl
  · exact exec_log (s := { s with pending := rest }) hlog (mapLaw_quiet (u := s) ⟨rfl, rfl, rfl, rfl⟩ hmap)
      (hord.calm (.of_view rfl)) hexec
  · simpa using hlog
  · exact hlog

end

end Sys2Proof.Machine
end


section
/-! SUPPORT. The claims on the step, on power-on, and on the rows that an advance has made due; with them the pull credit
after a change (R167). -/

namespace Sys2Proof.Machine

/-! ### The pull credit after a change (R167) -/

/-- ATTN does not look at the pull credit. -/
theorem attn_settleCredit (s : State) : attn s.settleCredit = attn s := by
  unfold State.settleCredit
  split <;> rfl

/-- What `settleCredit` leaves is the rule of R167, for a change that has left the credit as it was. -/
theorem creditRule_settleCredit {s u : State} (h : u.lif.credit = s.lif.credit) : s.creditRule u.settleCredit := by
  unfold State.creditRule
  rw [attn_settleCredit]
  unfold State.settleCredit
  constructor
  · intro hattn
    rw [if_pos hattn, h]
  · intro hattn
    rw [if_neg (by simp [hattn])]

/-- `settleCredit` writes the credit alone. -/
theorem settleCredit_eq (s : State) :
    s.settleCredit = { s with lif := { s.lif with credit := s.settleCredit.lif.credit } } := by
  unfold State.settleCredit
  split <;> rfl

/-- Settles O1, by the two equations of `step` and by what the last byte of a frame leaves. -/
theorem stepRunsTheFrontCommand : Obligations.StepRunsTheFrontCommand := by
  refine ⟨fun _ _ _ => rfl, ?_, ?_⟩
  · intro s hpending hlane
    simp [step, hpending, hlane]
  · intro s f hpending hlane
    refine ⟨s.finishFrame, by simp [step, hpending, hlane], settleCredit_eq _, ?_⟩
    exact creditRule_settleCredit (u := { s with lif := { s.lif with upLane := none } }) rfl

/-- Settles O2: both commands give the reset state, with the queue and the choice counter as they stand. -/
theorem powerOnAndResetLine : Obligations.PowerOnAndResetLine := by
  rintro c s (rfl | rfl)
  · exact ⟨powerOnState s, rfl, rfl, rfl, rfl, rfl, rfl, rfl, rfl, rfl, rfl, rfl, rfl, rfl, rfl, rfl, rfl⟩
  · exact ⟨powerOnState s, rfl, rfl, rfl, rfl, rfl, rfl, rfl, rfl, rfl, rfl, rfl, rfl, rfl, rfl, rfl, rfl⟩

/-- Settles O58: every table of the reset state is empty, and the policy of R177 is in range. -/
theorem everyLawHoldsAtReset : Obligations.EveryLawHoldsAtReset := by
  have hlists : bindingLaw State.reset = true ∧ mapLaw State.reset = true ∧ orderLaw State.reset = true :=
    ⟨by decide, by decide, by decide⟩
  have hunits : logLaw State.reset = true ∧ linkLaw State.reset = true ∧ policyLaw State.reset = true :=
    ⟨by decide, by decide, by decide⟩
  simp only [Obligations.EveryLawHoldsAtReset, allLaws, hlists, hunits, Bool.true_and]
  decide

/-! ### Rows due to go (R48, R49) -/

theorem active_iff (s : State) : active s = true ↔ s.mju.life = .active := by simp [active]

theorem reached_iff (now t : Time) : reached now t = true ↔ age now t < 2147483648 := by simp [reached]

/-- A row that goes leaves every other row, and the rest of the part. -/
theorem withRows_terase (s : State) (i : Nat) :
    tget (s.withRows (terase s.ct.rows i)).ct.rows i = none
    ∧ (∀ j, j ≠ i → tget (s.withRows (terase s.ct.rows i)).ct.rows j = tget s.ct.rows j)
    ∧ s.withRows (terase s.ct.rows i)
        = { s with ct := { s.ct with rows := (s.withRows (terase s.ct.rows i)).ct.rows } } :=
  ⟨tget_terase_same _ _, fun _ hj => tget_terase_ne _ hj, rfl⟩

/-- ROW_EXPIRY empties the row exactly where it is WATCHING, at heat 0 and found due. -/
theorem execRowExpiry_of_due {s : State} {i : Nat} {w : Watch} (hlife : s.mju.life = .active)
    (hrow : tget s.ct.rows i = some (.watching w)) (hheat : w.heat = 0) (hdue : w.expiryDue = true) :
    exec (.rowExpiry i) s = .next (s.withRows (terase s.ct.rows i)) := by
  simp [exec, execRowExpiry, active, hlife, hrow, hheat, hdue]

theorem execRowExpiry_of_not_due {s : State} {i : Nat} (h : s.mju.life ≠ .active
      ∨ ∀ w, tget s.ct.rows i = some (.watching w) → 0 < w.heat ∨ w.expiryDue = false) :
    exec (.rowExpiry i) s = .next s := by
  have hexec : exec (.rowExpiry i) s = execRowExpiry i s := rfl
  rcases h with hlife | hnot
  · simp [hexec, execRowExpiry, active, hlife]
  · rw [hexec, execRowExpiry]
    split
    · split
      · next w hrow =>
        have hw := hnot w hrow
        rw [if_neg (by rintro ⟨hdue, hheat⟩; simp [hdue, hheat] at hw)]
      · rfl
      · rfl
    · rfl

/-- BAR_END empties the row exactly where it is BARRED and its barred-until reached. -/
theorem execBarEnd_of_reached {s : State} {i x : Nat} {u : Time} (hlife : s.mju.life = .active)
    (hrow : tget s.ct.rows i = some (.barred x u)) (hreached : age s.seconds u < 2147483648) :
    exec (.barEnd i) s = .next (s.withRows (terase s.ct.rows i)) := by
  simp [exec, execBarEnd, active, hlife, hrow, reached, hreached]

theorem execBarEnd_of_not_reached {s : State} {i : Nat} (h : s.mju.life ≠ .active
      ∨ ∀ x u, tget s.ct.rows i = some (.barred x u) → 2147483648 ≤ age s.seconds u) :
    exec (.barEnd i) s = .next s := by
  have hexec : exec (.barEnd i) s = execBarEnd i s := rfl
  rcases h with hlife | hnot
  · simp [hexec, execBarEnd, active, hlife]
  · rw [hexec, execBarEnd]
    split
    · split
      · next x u hrow => rw [if_neg (by rw [reached_iff]; exact (hnot x u hrow).not_gt)]
      · rfl
      · rfl
    · rfl

/-- Settles O5, by the two commands' one condition each, read both ways. -/
theorem rowsExpireAndBarsEnd : Obligations.RowsExpireAndBarsEnd := by
  refine ⟨?_, ?_, fun _ _ => execRowExpiry_of_not_due, fun _ _ => execBarEnd_of_not_reached⟩
  · intro s i w hlife hrow hheat hdue
    exact ⟨_, execRowExpiry_of_due hlife hrow hheat hdue, withRows_terase s i⟩
  · intro s i x u hlife hrow hreached
    exact ⟨_, execBarEnd_of_reached hlife hrow hreached, withRows_terase s i⟩

end Sys2Proof.Machine
end


section
/-! SUPPORT. The claims on the ends of waiting (BACKOFF_END, DELTA_DELAY_EXPIRY), on EXPORT and SYNC, on QUEUE-CONTROL and
DRAIN-ALL, and on RESET COLD; with them a request served in its turn. -/

namespace Sys2Proof.Machine

/-! ### BACKOFF_END and DELTA_DELAY_EXPIRY (R99, R157) -/

/-- BACKOFF_END at one waiting order. -/
theorem endBackoff_one (now : Time) (k : Nat) (w : Waiting)
    [Decidable (w.order.slot = k ∧ ∃ u, w.notBefore = some u ∧ age now u < 2147483648)] :
    (match w.notBefore with
      | some t => if w.order.slot = k ∧ reached now t then { w with notBefore := none } else w
      | none => w)
      = if w.order.slot = k ∧ ∃ u, w.notBefore = some u ∧ age now u < 2147483648 then { w with notBefore := none }
        else w := by
  obtain ⟨order, _ | u⟩ := w
  · simp
  · simp [reached]

/-- BACKOFF_END in ACTIVE, queue by queue. -/
theorem execBackoffEnd_active {s : State} (k : Nat) (hlife : s.mju.life = .active) :
    exec (.backoffEnd k) s = .next { s with ou := { s.ou with
      pinFill := { s.ou.pinFill with waiting := endBackoff s.seconds k s.ou.pinFill.waiting }
      heatFill := { s.ou.heatFill with waiting := endBackoff s.seconds k s.ou.heatFill.waiting }
      drain := { s.ou.drain with waiting := endBackoff s.seconds k s.ou.drain.waiting } } } := by
  simp [exec, execBackoffEnd, active, hlife, State.setWaiting, OrderUnit.setQueue]

theorem deltaWanted_cons {now : Time} {p : Policy} {j : Journal} {e : LogEntry} {rest : List LogEntry}
    (hlog : j.log = e :: rest) :
    deltaWanted now p j = true ↔
      p.deltaDelay ≤ age now e.time ∨ p.flushCount ≤ j.log.length ∨ j.sync ≠ none := by
  simp only [deltaWanted, hlog, Bool.or_eq_true, decide_eq_true_eq, Option.isSome_iff_ne_none]
  tauto

theorem execDeltaDelayExpiry_active {s : State} (hlife : s.mju.life = .active) :
    exec .deltaDelayExpiry s = .next s.askDelta.settleCredit := by
  simp [exec, execDeltaDelayExpiry, active, hlife]

/-- Settles O6: the one command maps the waiting orders, the other makes the test of R157 and settles the credit. -/
theorem backoffEndsAndDeltaDelayAsks : Obligations.BackoffEndsAndDeltaDelayAsks := by
  constructor
  · intro s k hlife
    refine ⟨_, execBackoffEnd_active k hlife, ?_, rfl⟩
    have hmap : ∀ ws : List Waiting, endBackoff s.seconds k ws = ws.map fun w =>
        if w.order.slot = k ∧ ∃ u, w.notBefore = some u ∧ age s.seconds u < 2147483648 then { w with notBefore := none }
        else w := fun ws => List.map_congr_left fun w _ => endBackoff_one s.seconds k w
    intro q
    cases q <;> simp only [OrderUnit.queue, hmap]
  · intro s e rest hlife hlog
    have hwanted : s.askDelta.settleCredit.lif.deltaAsking = deltaWanted s.seconds s.policy s.mju := by simp
    constructor
    · intro hage
      have hasks : deltaWanted s.seconds s.policy s.mju = true := (deltaWanted_cons hlog).mpr (.inl hage)
      have hattn : attn s.askDelta = true := by simp [attn, hasks]
      rw [execDeltaDelayExpiry_active hlife, State.settleCredit, if_pos hattn, State.askDelta, hasks]
    · refine ⟨_, execDeltaDelayExpiry_active hlife, ?_, creditRule_settleCredit rfl, ?_⟩
      · rw [hwanted]
        exact deltaWanted_cons hlog
      · rw [hwanted]
        exact settleCredit_eq _

/-! ### A request served in its turn (R172, R173) -/

/-- The command of a request row, where the request has the turn and passes the checks of R173. -/
theorem exec_of_turn {i : Instr} {row : RequestRow} {serve : Frame → State → State} {s : State} {kind : Byte} {f : Frame}
    {rest : List Frame} (hexec : exec i s = .next (takeRequest row serve s)) (hturn : s.turn kind f rest)
    (hrow : requestRow f = row) (hphase : phaseRefusal row s.mju.life = none)
    (hlen : lengthOk row f.body.length = true) : exec i s = .next (serve f (s.taken rest)) :=
  hexec.trans (congrArg Host.Outcome.next (takeRequest_of_turn serve hturn hrow hphase hlen))

/-! ### EXPORT and SYNC (R158, R159) -/

theorem requestRow_exportMap {f : Frame} (hkind : f.kind = 0x14#8) : requestRow f = .exportMap := by
  rw [requestRow, hkind]
  rfl

theorem requestRow_sync {f : Frame} (hkind : f.kind = 0x15#8) : requestRow f = .sync := by
  rw [requestRow, hkind]
  rfl

theorem serveExport_idle {f : Frame} {s : State} (h : s.mju.exporting = none) :
    serveExport f s = { s with mju := { s.mju with exporting := some ⟨0, 0⟩ } }.answerOk f.tag .bare := by
  simp [serveExport, h]

theorem serveExport_running {f : Frame} {s : State} (h : s.mju.exporting ≠ none) :
    serveExport f s = s.reply f.tag .retry := by
  obtain ⟨x, hx⟩ := Option.ne_none_iff_exists'.mp h
  simp [serveExport, hx]

theorem serveSync_empty {f : Frame} {s : State} (h : s.mju.log = []) :
    serveSync f s = s.answerOk f.tag .bare := by
  simp [serveSync, h]

/-- A waiting SYNC is itself a condition of R157: the MJU asks. -/
theorem serveSync_waits {f : Frame} {s : State} (h : s.mju.log ≠ []) :
    serveSync f s = { s with
      mju := { s.mju with sync := some ⟨f.tag, s.mju.log.length⟩ }
      lif := { s.lif with deltaAsking := true } } := by
  obtain ⟨e, rest, hlog⟩ := List.exists_cons_of_ne_nil h
  simp [serveSync, hlog, State.askDelta, deltaWanted]

/-- Settles O28, by the two serves: a running export, and a log with entries, are what they ask of the state. -/
theorem exportAndSync : Obligations.ExportAndSync := by
  intro s f rest hlife hbody
  constructor
  · intro hturn
    rw [exec_of_turn (serve := serveExport) rfl hturn (requestRow_exportMap (kind_of_turn hturn))
      (by simp [phaseRefusal, hlife]) (by simp [lengthOk, hbody])]
    exact ⟨fun h => by rw [serveExport_idle (by simpa using h)]; rfl,
      fun h => by rw [serveExport_running (by simpa using h), reply_taken]⟩
  · intro hturn
    rw [exec_of_turn (serve := serveSync) rfl hturn (requestRow_sync (kind_of_turn hturn))
      (by simp [phaseRefusal, hlife]) (by simp [lengthOk, hbody])]
    exact ⟨fun h => by rw [serveSync_empty (by simpa using h), answerOk_taken],
      fun h => by rw [serveSync_waits (by simpa using h)]; rfl⟩

/-! ### QUEUE-CONTROL and DRAIN-ALL (R118, R131) -/

theorem requestRow_queueControl {f : Frame} (hkind : f.kind = 0x41#8) : requestRow f = queueControlRow f.body := by
  rw [requestRow, hkind]
  rfl

theorem requestRow_drainAll {f : Frame} (hkind : f.kind = 0x42#8) : requestRow f = .drainAll := by
  rw [requestRow, hkind]
  rfl

/-- A QUEUE-CONTROL belongs to one of three rows, by its action. -/
theorem queueControlRow_cases (body : List Byte) :
    (fieldAt body 1 1 = 1 ∧ queueControlRow body = .skipOff)
    ∨ (fieldAt body 1 1 = 2 ∧ queueControlRow body = .resume)
    ∨ ((fieldAt body 1 1 = 0 ∨ 2 < fieldAt body 1 1) ∧ queueControlRow body = .skipOn) := by
  unfold queueControlRow
  split
  · exact .inl ⟨by assumption, rfl⟩
  · exact .inr (.inl ⟨by assumption, rfl⟩)
  · next hone htwo =>
    have hne : fieldAt body 1 1 ≠ 1 ∧ fieldAt body 1 1 ≠ 2 := ⟨hone, htwo⟩
    exact .inr (.inr ⟨by omega, rfl⟩)

theorem queueOf_eq_none_iff (v : Nat) : queueOf v = none ↔ 2 < v := by
  rcases Nat.lt_or_ge 2 v with hv | hv
  · obtain ⟨k, rfl⟩ := Nat.exists_eq_add_of_le' hv
    simp [queueOf]
  · interval_cases v <;> simp [queueOf]

theorem serveQueueControl_made {act : QueueId → State → State} {f : Frame} {s : State} {q : QueueId}
    (hq : queueOf (fieldAt f.body 0 1) = some q) (haction : fieldAt f.body 1 1 ≤ 2) :
    serveQueueControl act f s = (act q s).answerOk f.tag .bare := by
  simp [serveQueueControl, hq, haction]

theorem serveQueueControl_badAction {act : QueueId → State → State} {f : Frame} {s : State} {q : QueueId}
    (hq : queueOf (fieldAt f.body 0 1) = some q) (haction : 2 < fieldAt f.body 1 1) :
    serveQueueControl act f s = s.refer f .form .badField 1 := by
  simp [serveQueueControl, hq, haction]

theorem serveQueueControl_badQueue {act : QueueId → State → State} {f : Frame} {s : State}
    (hq : 2 < fieldAt f.body 0 1) : serveQueueControl act f s = s.refer f .form .badField 0 := by
  simp [serveQueueControl, (queueOf_eq_none_iff _).mpr hq]

/-- The command of a QUEUE-CONTROL is one of three, which differ in the action they serve. -/
theorem exec_queueControlRow (body : List Byte) :
    ∃ act, ∀ s, exec (queueControlRow body).command s
      = .next (takeRequest (queueControlRow body) (serveQueueControl act) s) := by
  obtain ⟨-, hrow⟩ | ⟨-, hrow⟩ | ⟨-, hrow⟩ := queueControlRow_cases body <;> rw [hrow]
  · exact ⟨_, fun _ => rfl⟩
  · exact ⟨_, fun _ => rfl⟩
  · exact ⟨_, fun _ => rfl⟩

/-- The three rows of QUEUE-CONTROL pass the same checks. -/
theorem queueControlRow_checks (body : List Byte) (life : Lifecycle) (n : Nat) :
    phaseRefusal (queueControlRow body) life = phaseRefusal .skipOn life
    ∧ lengthOk (queueControlRow body) n = (n == 2) := by
  obtain ⟨-, hrow⟩ | ⟨-, hrow⟩ | ⟨-, hrow⟩ := queueControlRow_cases body <;> rw [hrow] <;> exact ⟨rfl, rfl⟩

/-- A QUEUE-CONTROL whose action belongs to `row`, served. -/
theorem exec_queueControl_of_turn {s : State} {f : Frame} {rest : List Frame} {i : Instr} {row : RequestRow}
    {act : QueueId → State → State} (hexec : exec i s = .next (takeRequest row (serveQueueControl act) s))
    (hlife : s.mju.life = .active) (hturn : s.turn 0x41#8 f rest) (hlen : f.body.length = 2)
    (hrow : queueControlRow f.body = row) : exec i s = .next (serveQueueControl act f (s.taken rest)) := by
  obtain ⟨hphase, hlength⟩ := queueControlRow_checks f.body s.mju.life f.body.length
  rw [hrow] at hphase hlength
  exact exec_of_turn hexec hturn ((requestRow_queueControl (kind_of_turn hturn)).trans hrow)
    (by rw [hphase, hlife]; rfl) (by rw [hlength, hlen]; rfl)

/-- RESUME sets the flag, and starts a scan for the pin fill queue. -/
theorem resumeQueue_eq (q : QueueId) (s : State) :
    resumeQueue q s = { s with
      ou := s.ou.setQueue q { s.ou.queue q with halted := false }
      pu := { s.pu with scansOwed := s.pu.scansOwed + (if q = QueueId.pinFill then 1 else 0) } } := by
  cases q <;> rfl

theorem serveDrainAll_eq (f : Frame) (s : State) :
    serveDrainAll f s = if dirtyCount s.bt.slots = 0 then s.answerOk f.tag .bare
      else { s with psm := { s.psm with drainAll := true, drainRunsOwed := s.psm.drainRunsOwed + 1 }
        }.answerOk f.tag .bare := rfl

/-- Settles O40: the action chooses the row, the queue and then the action are checked, and the lifecycle before both. -/
theorem queueControlAndDrainAll : Obligations.QueueControlAndDrainAll := by
  refine ⟨?_, ?_, ?_⟩
  · intro s f rest hlife hturn hlen
    constructor
    · intro q hq
      refine ⟨?_, ?_, ?_, ?_⟩
      · intro haction
        rw [exec_queueControl_of_turn (row := .skipOn) rfl hlife hturn hlen (by simp [queueControlRow, haction]),
          serveQueueControl_made hq (by omega)]
        rfl
      · intro haction
        rw [exec_queueControl_of_turn (row := .skipOff) rfl hlife hturn hlen (by simp [queueControlRow, haction]),
          serveQueueControl_made hq (by omega)]
        rfl
      · intro haction
        rw [exec_queueControl_of_turn (row := .resume) rfl hlife hturn hlen (by simp [queueControlRow, haction]),
          serveQueueControl_made hq (by omega), resumeQueue_eq]
        rfl
      · intro haction
        have hrow : queueControlRow f.body = .skipOn := by
          obtain ⟨h, -⟩ | ⟨h, -⟩ | ⟨-, h⟩ := queueControlRow_cases f.body
          · omega
          · omega
          · exact h
        rw [exec_queueControl_of_turn (row := .skipOn) rfl hlife hturn hlen hrow,
          serveQueueControl_badAction hq haction]
        rfl
    · intro hq
      obtain ⟨act, hexec⟩ := exec_queueControlRow f.body
      rw [requestRow_queueControl (kind_of_turn hturn), exec_queueControl_of_turn (hexec s) hlife hturn hlen rfl,
        serveQueueControl_badQueue hq]
      rfl
  · intro s f rest hturn
    obtain ⟨act, hexec⟩ := exec_queueControlRow f.body
    have hrow := requestRow_queueControl (kind_of_turn hturn)
    obtain ⟨hphase, -⟩ := queueControlRow_checks f.body s.mju.life 0
    rw [hrow, hexec s]
    constructor
    · intro hlife
      exact congrArg _ (takeRequest_phaseRefused_of_turn _ hturn hrow (by rw [hphase, hlife]; rfl))
    · intro hlife
      exact congrArg _ (takeRequest_phaseRefused_of_turn _ hturn hrow (by rw [hphase, hlife]; rfl))
  · intro s f rest hlife hturn hbody
    rw [exec_of_turn (serve := serveDrainAll) rfl hturn (requestRow_drainAll (kind_of_turn hturn))
      (by simp [phaseRefusal, hlife]) (by simp [lengthOk, hbody]), serveDrainAll_eq]
    exact ⟨fun h => by rw [if_neg (by simpa using h)]; rfl, fun h => by rw [if_pos (by simpa using h)]; rfl⟩

/-! ### RESET COLD (R179) -/

theorem requestRow_reset {f : Frame} (hkind : f.kind = 0x5F#8) : requestRow f = resetRow f.body := by
  rw [requestRow, hkind]
  rfl

theorem fieldAt_single (b : Byte) : fieldAt [b] 0 1 = b.toNat := by simp [fieldAt, leValue]

/-- Settles O46: the byte COLD gives the frame its row, which every lifecycle serves. -/
theorem resetCold : Obligations.ResetCold := by
  intro s f rest hturn hbody
  have hrow : requestRow f = .resetCold := by
    rw [requestRow_reset (kind_of_turn hturn), hbody]
    rfl
  rw [exec_of_turn (serve := serveResetCold) rfl hturn hrow rfl (by simp [lengthOk, hbody])]
  rfl

end Sys2Proof.Machine
end


section
/-! SUPPORT. The claims on the receiver's events, on the PLATTER and SUPPLY notices, on the lifecycle, and on the frames of
the up lane. -/

namespace Sys2Proof.Machine

/-! ### The receiver's events (R167, R170, R171) -/

/-- The recording of a fault reads the clock and the fault table alone. -/
theorem recordFault_congr {s u : State} (hseconds : u.seconds = s.seconds) (hcfu : u.cfu = s.cfu) (kind : FaultKind)
    (subject : Subject) : (u.recordFault kind subject).cfu = (s.recordFault kind subject).cfu := by
  unfold State.recordFault
  rw [hseconds, hcfu]
  cases foldFault s.seconds kind subject s.cfu.faults with
  | some _ => rfl
  | none =>
    by_cases hroom : s.cfu.faults.length < 8
    · simp only [if_pos hroom]
    · simp only [if_neg hroom]

theorem recordFault_withRx (s : State) (rx : List Byte) (kind : FaultKind) (subject : Subject) :
    (s.withRx rx).recordFault kind subject
      = { s with lif := { s.lif with rx := rx }, cfu := (s.recordFault kind subject).cfu } := by
  rw [(recordFault_frame (s.withRx rx) kind subject).1, recordFault_congr (s := s) (u := s.withRx rx) rfl rfl]
  rfl

theorem isNotice_eq_false {kind : Byte} (haccess : kind ≠ 0x60#8) (hplatter : kind ≠ 0x61#8) (hsupply : kind ≠ 0x62#8) :
    isNotice kind = false := by
  simp [isNotice, Kind.access, Kind.platter, Kind.supply, haccess, hplatter, hsupply]

/-- Settles O21, by the event that the bytes make. -/
theorem downLaneEvents : Obligations.DownLaneEvents := by
  intro s bytes
  refine ⟨?_, ?_, ?_⟩
  · intro more hevent
    have hexec : exec (.pullByte bytes) s = .next ((takePull s).withRx more) := by
      simp only [exec, execPullByte, hevent]
    rw [hexec, takePull]
    split <;> rfl
  · intro more hevent
    have hexec : exec (.badFrame bytes) s = .next ((s.withRx more).recordFault .linkCheck .none) := by
      simp only [exec, execBadFrame, hevent]
    rw [hexec, recordFault_withRx]
  · intro f more hevent haccess hplatter hsupply
    have hexec : exec (.requestIntake bytes) s = .next (offerRequest f (s.withRx more)) := by
      simp [exec, execRequestIntake, hevent, isNotice_eq_false haccess hplatter hsupply]
    rw [hexec]
    constructor
    · intro hroom
      rw [offerRequest, if_pos (by simpa using hroom)]
      rfl
    · intro hfull
      rw [offerRequest, if_neg (by simpa using hfull), recordFault_withRx]

/-! ### The notices of the Monitor (R122 to R124) -/

/-- A notice of its kind is served, the receiver holding what follows. -/
theorem receiveNotice_frame {kind : Byte} {serve : Frame → State → State} {bytes : List Byte} {s : State} {f : Frame}
    {more : List Byte} (hevent : s.event bytes = .frame f more) (hkind : f.kind = kind) :
    receiveNotice kind serve bytes s = serve f (s.withRx more) := by
  simp [receiveNotice, hevent, hkind]

theorem platterOf_eq_none {v : Nat} (h : 4 < v) : platterOf v = none := by
  obtain ⟨k, rfl⟩ := Nat.exists_eq_add_of_le' h
  simp [platterOf]

theorem supplyOf_eq_none {v : Nat} (h : 1 < v) : supplyOf v = none := by
  obtain ⟨k, rfl⟩ := Nat.exists_eq_add_of_le' h
  simp [supplyOf]

theorem takePlatter_byte {f : Frame} {b : Byte} (hbody : f.body = [b]) (s : State) :
    (∀ p, platterOf b.toNat = some p → takePlatter f s = recordPlatter p s)
    ∧ (4 < b.toNat → takePlatter f s = s.recordFault .linkForm .none) := by
  simp only [takePlatter, hbody, List.length_singleton, if_true, fieldAt_single]
  exact ⟨fun p hp => by simp only [hp], fun h => by simp only [platterOf_eq_none h]⟩

theorem takeSupply_byte {f : Frame} {b : Byte} (hbody : f.body = [b]) (s : State) :
    (∀ v, supplyOf b.toNat = some v → takeSupply f s = { s with psm := { s.psm with supply := v } })
    ∧ (1 < b.toNat → takeSupply f s = s.recordFault .linkForm .none) := by
  simp only [takeSupply, hbody, List.length_singleton, if_true, fieldAt_single]
  exact ⟨fun v hv => by simp only [hv], fun h => by simp only [supplyOf_eq_none h]⟩

/-- The four things the record of a platter state does (R122, R123). -/
theorem recordPlatter_same {s : State} {p : PlatterState} (h : p = s.psm.platter) : recordPlatter p s = s :=
  if_pos h.symm

theorem recordPlatter_quiet {s : State} {p : PlatterState} (hnew : p ≠ s.psm.platter)
    (h : s.mju.life ≠ .active ∨ p ≠ .ready ∧ s.psm.platter ≠ .ready) :
    recordPlatter p s = { s with psm := { s.psm with platter := p } } := by
  rcases h with hlife | ⟨hp, hs⟩
  · simp [recordPlatter, hnew.symm, active, hlife]
  · simp [recordPlatter, hnew.symm, hp, hs]

theorem recordPlatter_ready {s : State} (hnew : PlatterState.ready ≠ s.psm.platter) (hlife : s.mju.life = .active) :
    recordPlatter .ready s = becomeReady { s with psm := { s.psm with platter := .ready } } := by
  simp [recordPlatter, hnew.symm, active, hlife]

theorem recordPlatter_leave {s : State} {p : PlatterState} (hnew : p ≠ s.psm.platter) (hlife : s.mju.life = .active)
    (hready : s.psm.platter = .ready) :
    recordPlatter p s = if holdStage s = .calm then { s with psm := { s.psm with platter := p, restRef := none } }
      else { s with psm := { s.psm with platter := p, restRef := none } }.startSpinUp (holdStage s) := by
  have hp : p ≠ .ready := fun h => hnew (h.trans hready.symm)
  have hrecord : recordPlatter p s = leaveReady { s with psm := { s.psm with platter := p } } := by
    simp [recordPlatter, hready, active, hlife, hp, hp.symm]
  have hkept : holdStage { s with psm := { s.psm with platter := p } } = holdStage s := rfl
  rw [hrecord, leaveReady, hkept]
  cases hstage : holdStage s <;> rfl

/-- Settles O23: the byte names a state or a supply or neither, and a state is a repeat or one of three changes. -/
theorem platterAndSupplyNotices : Obligations.PlatterAndSupplyNotices := by
  refine ⟨?_, ?_, ?_⟩
  · intro s bytes f more b hevent hkind hbody
    have hexec : exec (.platter bytes) s = .next (takePlatter f (s.withRx more)) :=
      congrArg Host.Outcome.next (receiveNotice_frame hevent hkind)
    obtain ⟨hknown, hunknown⟩ := takePlatter_byte hbody (s.withRx more)
    rw [hexec]
    refine ⟨fun h => congrArg _ ((hunknown h).trans (recordFault_withRx _ _ _ _)), ?_⟩
    intro p hp
    rw [hknown p hp]
    refine ⟨?_, ?_, ?_, ?_⟩
    · intro hsame
      exact congrArg _ (recordPlatter_same (s := s.withRx more) hsame)
    · intro hnew h
      exact congrArg _ (recordPlatter_quiet (s := s.withRx more) hnew h)
    · rintro hnew hlife rfl
      exact congrArg _ (recordPlatter_ready (s := s.withRx more) hnew hlife)
    · intro hnew hlife hready
      have hrecord := recordPlatter_leave (s := s.withRx more) hnew hlife hready
      constructor
      · intro hcalm
        exact congrArg _ (hrecord.trans (if_pos hcalm))
      · intro hstage
        exact congrArg _ (hrecord.trans (if_neg hstage))
  · intro s bytes f more b hevent hkind hbody
    have hexec : exec (.supply bytes) s = .next (takeSupply f (s.withRx more)) :=
      congrArg Host.Outcome.next (receiveNotice_frame hevent hkind)
    obtain ⟨hknown, hunknown⟩ := takeSupply_byte hbody (s.withRx more)
    rw [hexec]
    exact ⟨fun h => congrArg _ ((hunknown h).trans (recordFault_withRx _ _ _ _)), fun v hv => congrArg _ (hknown v hv)⟩
  · intro s bytes f more hevent hlen
    constructor
    · intro hkind
      have htake : takePlatter f (s.withRx more) = (s.withRx more).recordFault .linkForm .none := if_neg hlen
      exact congrArg _ ((receiveNotice_frame hevent hkind).trans (htake.trans (recordFault_withRx _ _ _ _)))
    · intro hkind
      have htake : takeSupply f (s.withRx more) = (s.withRx more).recordFault .linkForm .none := if_neg hlen
      exact congrArg _ ((receiveNotice_frame hevent hkind).trans (htake.trans (recordFault_withRx _ _ _ _)))

/-! ### The lifecycle (section 9.1) -/

/-- What a served request makes of the lifecycle is all that the taking of it can. -/
theorem takeRequest_life {row : RequestRow} {serve : Frame → State → State} {s : State} {P : Lifecycle → Prop}
    (hsame : P s.mju.life)
    (hserve : ∀ lif f, phaseRefusal row s.mju.life = none → P (serve f { s with lif := lif }).mju.life) :
    P (takeRequest row serve s).mju.life :=
  takeRequest_induction (R := fun _ t => P t.mju.life) hsame (fun _ _ _ _ _ _ => hsame)
    fun lif f _ _ _ _ hphase _ => hserve lif f hphase

theorem serveResetWarm_life (f : Frame) (s : State) : (serveResetWarm f s).mju.life = s.mju.life := by
  unfold serveResetWarm
  split
  · cases hlife : s.mju.life with
    | active => exact (warmEnd_ends (warmState s)).life.trans hlife
    | importing => exact hlife
    | unbound => exact hlife
  · rfl

theorem applyPairs_life (pairs : List (Nat × Nat)) (s : State) : (pairs.foldl applyPair s).mju = s.mju := by
  induction pairs generalizing s with
  | nil => rfl
  | cons pair pairs ih => exact ih (applyPair s pair)

theorem servePolicy_life (f : Frame) (s : State) : (servePolicy f s).mju.life = s.mju.life := by
  unfold servePolicy
  split
  · rfl
  · exact congrArg Journal.life (applyPairs_life _ _)

theorem importRecords_life (records : List Record) (s : State) :
    (records.foldl importRecord s).mju.life = s.mju.life := by
  induction records generalizing s with
  | nil => rfl
  | cons r records ih =>
    refine (ih (importRecord s r)).trans ?_
    unfold importRecord
    split <;> rfl

theorem serveImportEnd_life (f : Frame) (s : State) : (serveImportEnd f s).mju.life ≠ .importing := by
  unfold serveImportEnd
  dsimp only
  split
  · exact fun h => nomatch h
  · exact fun h => nomatch h

theorem phaseRefusal_attach_none {life : Lifecycle} (h : phaseRefusal .attach life = none) : life = .unbound := by
  cases life with
  | unbound => rfl
  | importing => cases h
  | active => cases h

theorem phaseRefusal_importEnd_none {life : Lifecycle} (h : phaseRefusal .importEnd life = none) : life = .importing := by
  cases life with
  | importing => rfl
  | unbound => cases h
  | active => cases h

/-- Settles O59: the commands that go on with the map they have keep the lifecycle, and of the others each is read. -/
theorem lifecycleChanges : Obligations.LifecycleChanges := by
  intro s t c hexec hne
  have hkeeps (h : t.mju.life = s.mju.life) : False := hne h
  by_cases hc : remaps c = false
  · by_cases hwarm : c = .resetWarm
    · subst hwarm
      obtain rfl := Host.Outcome.next.inj hexec
      exact absurd (takeRequest_life (P := (· = s.mju.life)) rfl fun lif f _ => serveResetWarm_life f _) hne
    · exact absurd (exec_tableStep s hc (fun h => absurd h hwarm) hexec).life hne
  · cases c with
    | powerOn => exact .inl ⟨.inl rfl, by obtain rfl := Host.Outcome.next.inj hexec; rfl⟩
    | resetLine => exact .inl ⟨.inr (.inl rfl), by obtain rfl := Host.Outcome.next.inj hexec; rfl⟩
    | resetCold =>
      obtain rfl := Host.Outcome.next.inj hexec
      have hlife : (takeRequest .resetCold serveResetCold s).mju.life = s.mju.life
          ∨ (takeRequest .resetCold serveResetCold s).mju.life = .unbound :=
        takeRequest_life (P := fun l => l = s.mju.life ∨ l = .unbound) (.inl rfl) fun _ _ _ => .inr rfl
      exact .inl ⟨.inr (.inr rfl), hlife.resolve_left hne⟩
    | attach =>
      obtain rfl := Host.Outcome.next.inj hexec
      have hlife := takeRequest_life (row := .attach) (serve := serveAttach) (s := s)
        (P := fun l => l = s.mju.life ∨ s.mju.life = .unbound ∧ l = .active) (.inl rfl)
        fun _ _ hphase => .inr ⟨phaseRefusal_attach_none hphase, rfl⟩
      exact .inr (.inl ⟨rfl, hlife.resolve_left hne⟩)
    | importBegin =>
      obtain rfl := Host.Outcome.next.inj hexec
      have hlife := takeRequest_life (row := .importBegin) (serve := serveImportBegin) (s := s)
        (P := fun l => l = s.mju.life ∨ s.mju.life = .unbound ∧ l = .importing) (.inl rfl)
        fun _ _ hphase => .inr ⟨phaseRefusal_attach_none hphase, rfl⟩
      exact .inr (.inr (.inl ⟨rfl, hlife.resolve_left hne⟩))
    | importPut =>
      obtain rfl := Host.Outcome.next.inj hexec
      exact absurd (takeRequest_life (P := (· = s.mju.life)) rfl
        fun lif f _ => importRecords_life (importedRecords f) { s with lif := lif }) hne
    | importEnd =>
      obtain rfl := Host.Outcome.next.inj hexec
      have hlife := takeRequest_life (row := .importEnd) (serve := serveImportEnd) (s := s)
        (P := fun l => l = s.mju.life ∨ s.mju.life = .importing ∧ l ≠ .importing) (.inl rfl)
        fun _ f hphase => .inr ⟨phaseRefusal_importEnd_none hphase, serveImportEnd_life f _⟩
      exact .inr (.inr (.inr ⟨rfl, hlife.resolve_left hne⟩))
    | policy =>
      obtain rfl := Host.Outcome.next.inj hexec
      exact absurd (takeRequest_life (P := (· = s.mju.life)) rfl fun lif f _ => servePolicy_life f _) hne
    | _ => exact absurd rfl hc

end Sys2Proof.Machine
end


section
/-! SUPPORT. The claims on the frames of the up lane and on the advice of an advance. -/

namespace Sys2Proof.Machine

/-! ### Frames started on the up lane (R106, R132, R174, R175) -/

theorem execSendReply_granted {s : State} {r : Reply} (hlane : s.laneFor .reply) (hr : s.lif.reply = some r) :
    exec .sendReply s = .next ({ s with lif := { s.lif with reply := none } }.startFrame (replyFrame r)) := by
  have hgrant := (granted_reply s).mpr ⟨hlane, by simp [hr]⟩
  simp only [exec, execSendReply, hgrant, if_true, hr]

theorem execSendOrder_granted {s : State} {o : OrderFrame} {more : List OrderFrame} (hlane : s.laneFor .order)
    (ho : s.lif.orderFrames = o :: more) :
    exec .sendOrder s = .next ({ s with lif := { s.lif with orderFrames := more } }.startFrame (orderFrameOf o)) := by
  have hgrant := (granted_order s).mpr ⟨hlane, by simp [ho]⟩
  simp only [exec, execSendOrder, hgrant, if_true, ho]

theorem execSendAdvice_granted {s : State} {a : Advice} (hlane : s.laneFor .advice) (ha : s.lif.advice = some a) :
    exec .sendAdvice s = .next ({ s with lif := { s.lif with advice := none } }.startFrame (adviceFrame a)) := by
  have hgrant := (granted_advice s).mpr ⟨hlane, by simp [ha]⟩
  simp only [exec, execSendAdvice, hgrant, if_true, ha]

/-- The codes of the fields are those of section 10.7. -/
theorem kindValue_eq (k : OrderKind) : kindValue k = match k with | .fill => 0 | .drain => 1 := by cases k <;> rfl

theorem adviceKindValue_eq (k : AdviceKind) : adviceKindValue k = match k with | .spinUp => 0 | .rest => 1 := by
  cases k <;> rfl

theorem stageValue_eq (g : HoldStage) :
    stageValue g = match g with | .calm => 0 | .soon => 1 | .urgent => 2 | .closed => 3 := by cases g <;> rfl

theorem keyValue_eq (key : CondKey) : keyValue key = match key with
    | .none => 0 | .form => 1 | .range => 2 | .phase => 3 | .lost => 4 | .limit => 5 | .order => 6 := by
  cases key <;> rfl

theorem codeValue_eq (code : CondCode) : codeValue code = match code with
    | .none => 0 | .unknownKind => 1 | .badLength => 2 | .badField => 3 | .outOfRange => 4
    | .unbound => 5 | .importing => 6 | .alreadyActive => 7 | .noImport => 8 | .pinsLost => 9
    | .mapReplaced => 10 | .pinsDropped => 11 | .importMismatch => 13 | .late => 14 := by
  cases code <;> rfl

theorem runBytes_eq (r : Run) : runBytes r = leBytes 4 r.first ++ leBytes 2 r.count
    ++ (match r.tier with | .flash k => 0#8 :: leBytes 2 k | .platter => [1#8, 0#8, 0#8]) := by
  unfold runBytes
  cases r.tier <;> simp [leBytes]

theorem faultBytes_eq (e : FaultEntry) : faultBytes e =
    leBytes 1 (match e.kind with
      | .flashFault => 0 | .platterFault => 1 | .orderTimeout => 2 | .orderExhausted => 3
      | .linkCheck => 4 | .linkOverrun => 5 | .linkForm => 6 | .intakeLapse => 7)
    ++ (match e.subject with
      | .none => leBytes 1 0 ++ leBytes 4 0
      | .slot k => leBytes 1 1 ++ leBytes 4 k
      | .extent x => leBytes 1 2 ++ leBytes 4 x
      | .queue q => leBytes 1 3 ++ leBytes 4 (match q with | .pinFill => 0 | .heatFill => 1 | .drain => 2))
    ++ leBytes 4 e.first.toNat ++ leBytes 4 e.last.toNat ++ leBytes 1 e.repeats := by
  obtain ⟨kind, subject, first, last, repeats⟩ := e
  have hkind : faultValue kind = match kind with
      | .flashFault => 0 | .platterFault => 1 | .orderTimeout => 2 | .orderExhausted => 3
      | .linkCheck => 4 | .linkOverrun => 5 | .linkForm => 6 | .intakeLapse => 7 := by cases kind <;> rfl
  unfold faultBytes
  rw [hkind]
  cases subject with
  | none => simp [subjectValue]
  | slot k => simp [subjectValue]
  | extent x => simp [subjectValue]
  | queue q => cases q <;> simp [subjectValue, queueValue]

theorem statusBytes_eq (b : StatusBody) : statusBytes b =
    leBytes 1 (match b.life with | .unbound => 0 | .importing => 1 | .active => 2)
      ++ leBytes 2 b.n ++ leBytes 4 b.e ++ leBytes 1 b.window ++ leBytes 2 b.free ++ leBytes 2 b.filling
      ++ leBytes 2 b.held ++ leBytes 2 b.draining ++ leBytes 2 b.retired ++ leBytes 2 b.dirtyCount
      ++ leBytes 2 b.pinnedCount ++ leBytes 2 b.tokens ++ leBytes 2 b.aEff
      ++ leBytes 1 (match b.stage with | .calm => 0 | .soon => 1 | .urgent => 2 | .closed => 3) ++ leBytes 4 b.oldestAge
      ++ leBytes 1 (match b.platter with | .resting => 0 | .waking => 1 | .ready => 2 | .parked => 3 | .slowing => 4)
      ++ leBytes 1 (match b.supply with | .mains => 0 | .battery => 1)
      ++ leBytes 1 b.pinQueue ++ leBytes 1 b.heatQueue ++ leBytes 1 b.drainQueue
      ++ leBytes 1 ((if b.pinSkip then 1 else 0) + (if b.heatSkip then 2 else 0) + (if b.drainSkip then 4 else 0)
        + (if b.pinHalted then 8 else 0) + (if b.heatHalted then 16 else 0) + (if b.drainHalted then 32 else 0))
      ++ leBytes 1 b.issued ++ leBytes 2 b.logLength
      ++ leBytes 1 ((if b.stale then 1 else 0) + (if b.exporting then 2 else 0))
      ++ leBytes 2 b.lapseCount ++ leBytes 2 b.untracked ++ leBytes 1 b.faultCount ++ leBytes 4 b.seconds.toNat := by
  have hlife : lifeValue b.life = match b.life with | .unbound => 0 | .importing => 1 | .active => 2 := by
    cases b.life <;> rfl
  have hplatter : platterValue b.platter = match b.platter with
      | .resting => 0 | .waking => 1 | .ready => 2 | .parked => 3 | .slowing => 4 := by cases b.platter <;> rfl
  have hsupply : supplyValue b.supply = match b.supply with | .mains => 0 | .battery => 1 := by cases b.supply <;> rfl
  unfold statusBytes
  rw [hlife, hplatter, hsupply, stageValue_eq]
  rfl

/-! ### Rows of the lane that start no frame (R167, log 2) -/

theorem frameFollows_iff (s : State) :
    frameFollows s = true ↔ 0 < s.lif.credit ∧ (s.lif.reply ≠ none ∨ s.lif.orderFrames ≠ [] ∨ s.lif.deltaAsking = true
      ∨ s.mju.exporting ≠ none ∨ s.lif.advice ≠ none) := by
  have hattn : (upChoice s).isSome = attn { s with lif := { s.lif with upLane := none } } :=
    (attn_idle { s with lif := { s.lif with upLane := none } } rfl).symm
  simp only [frameFollows, hattn, attn, Bool.and_eq_true, decide_eq_true_eq, Bool.or_eq_true, Option.isSome_iff_ne_none,
    Bool.not_eq_true', List.isEmpty_eq_false_iff]
  tauto

/-- What the end of a frame on the lane does, where no frame is started. -/
theorem frameEnd_cases (s : State) {follows : Prop} (hfollows : follows ↔ frameFollows s = true) :
    (s.lif.upLane = none ∨ follows → s.frameEnd = s)
    ∧ (s.lif.upLane ≠ none → ¬ follows →
      s.frameEnd = { s with lif := { s.lif with upLane := none, credit := 0 } }) := by
  rw [frameEnd_eq, hfollows]
  constructor
  · rintro (hnone | hf)
    · simp [hnone]
    · simp [hf]
  · intro hsome hf
    exact if_pos (by simp [hf, Option.isSome_iff_ne_none, hsome])

/-- A row of the lane whose class is not granted ends the frame being sent, if none can follow it. -/
theorem exec_not_granted {s : State} {c : Instr}
    (h : c = .sendReply ∧ (¬s.laneFor .reply ∨ s.lif.reply = none)
      ∨ c = .sendOrder ∧ (¬s.laneFor .order ∨ s.lif.orderFrames = [])
      ∨ c = .delta ∧ (¬s.laneFor .delta ∨ s.lif.deltaAsking = false)
      ∨ (c = .exportData ∨ c = .exportEnd) ∧ (¬s.laneFor .exporting ∨ s.mju.exporting = none)
      ∨ c = .sendAdvice ∧ (¬s.laneFor .advice ∨ s.lif.advice = none)) : exec c s = .next s.frameEnd := by
  rcases h with ⟨rfl, h⟩ | ⟨rfl, h⟩ | ⟨rfl, h⟩ | ⟨rfl | rfl, h⟩ | ⟨rfl, h⟩
  · exact congrArg _ (if_neg (by rw [granted_reply]; tauto))
  · exact congrArg _ (if_neg (by rw [granted_order]; tauto))
  · exact congrArg _ (if_neg (by rw [granted_delta, ← Bool.not_eq_false]; tauto))
  · exact congrArg _ (if_neg (by rw [granted_exporting]; tauto))
  · exact congrArg _ (if_neg (by rw [granted_exporting]; tauto))
  · exact congrArg _ (if_neg (by rw [granted_advice]; tauto))

/-- Settles O48: the three grants, the layout of each body, and the one thing a row does that has no grant. -/
theorem framesAreSent : Obligations.FramesAreSent := by
  refine ⟨?_, ?_, ?_, rfl, rfl, rfl, ?_, ?_, fun v => ⟨rfl, rfl, rfl, rfl⟩, ?_, ?_, ?_, ?_, ?_, ?_⟩
  · intro s r hlane hr
    rw [execSendReply_granted hlane hr]
    rfl
  · intro s o more hlane ho
    rw [execSendOrder_granted hlane ho, orderFrameOf, kindValue_eq]
    rfl
  · intro s a hlane ha
    rw [execSendAdvice_granted hlane ha, adviceFrame, adviceKindValue_eq, stageValue_eq]
    rfl
  · intro key code
    rw [replyBytes, keyValue_eq, codeValue_eq]
    rfl
  · intro n e w
    rfl
  · intro covered runs
    rw [replyBytes, okBytes, funext runBytes_eq]
    rfl
  · intro p
    simp [replyBytes, okBytes, policyValues]
  · intro b
    rw [replyBytes, okBytes, statusBytes_eq]
    simp only [List.append_assoc, List.singleton_append]
    rfl
  · intro c retries
    rw [replyBytes, okBytes, keyValue_eq, codeValue_eq]
    rfl
  · intro overflow entries
    rw [replyBytes, okBytes, funext faultBytes_eq]
    rfl
  · intro s c follows hfollows hc
    rw [exec_not_granted hc]
    obtain ⟨hstays, hends⟩ := frameEnd_cases s (hfollows.trans (frameFollows_iff s).symm)
    exact ⟨fun h => congrArg _ (hstays h), fun hlane h => congrArg _ (hends hlane h)⟩

end Sys2Proof.Machine
end


section
/-! SUPPORT. The claims on the advice of an advance, and on the advance itself. -/

namespace Sys2Proof.Machine

/-! ### SPIN_UP_CADENCE (R133) -/

theorem execSpinUpCadence_due {s : State} (hlife : s.mju.life = .active) (hdue : s.psm.spinUpDue = true) :
    exec .spinUpCadence s
      = .next (spinUpTest { s with psm := { s.psm with spinUpDue := false } } (holdStage s)) := by
  simp [exec, execSpinUpCadence, active, hlife, hdue]

section
variable {s : State} {stage : HoldStage}

theorem spinUpTest_none (h : s.psm.platter = .ready ∨ stage = .calm) :
    spinUpTest s stage = { s with psm := { s.psm with spinUp := none } } :=
  if_pos (by rwa [ready_iff])

/-- No cadence for this stage: one starts. -/
theorem spinUpTest_start (hready : s.psm.platter ≠ .ready) (hcalm : stage ≠ .calm)
    (hnew : ∀ c, s.psm.spinUp = some c → c.stage ≠ stage) : spinUpTest s stage = s.startSpinUp stage := by
  rw [spinUpTest, if_neg (by rw [ready_iff]; tauto)]
  cases hc : s.psm.spinUp with
  | none => rfl
  | some c => exact if_neg (hnew c hc)

theorem spinUpTest_goesOn {c : SpinUp} (hready : s.psm.platter ≠ .ready) (hcalm : stage ≠ .calm)
    (hc : s.psm.spinUp = some c) (hstage : c.stage = stage) :
    spinUpTest s stage = if age s.seconds c.nextDue < 2147483648 then
      { s.advise .spinUp stage with psm := { s.psm with spinUp := some c.next } } else s := by
  rw [spinUpTest, if_neg (by rw [ready_iff]; tauto), hc]
  simp only [hstage, if_true, reached_iff]

end

theorem SpinUp.next_eq (c : SpinUp) :
    c.next = if c.stage = .soon then ⟨.soon, c.nextDue + (if c.step = 1 then 30#32 else 60#32), min 4 (c.step + 1)⟩
      else ⟨c.stage, c.nextDue + 15#32, c.step⟩ := by
  unfold SpinUp.next
  by_cases hstage : c.stage = .soon
  · by_cases hstep : c.step = 1 <;> simp [hstage, hstep, soonInterval, after]
  · simp [hstage, after]

/-- Settles O9: by the platter and the stage first, then by the cadence that stands. -/
theorem spinUpCadence : Obligations.SpinUpCadence := by
  intro s hlife hdue
  rw [execSpinUpCadence_due hlife hdue]
  refine ⟨?_, ?_, ?_⟩
  · intro h
    exact congrArg _ (spinUpTest_none (s := { s with psm := { s.psm with spinUpDue := false } }) h)
  · intro hready hcalm hnew
    exact congrArg _ (spinUpTest_start (s := { s with psm := { s.psm with spinUpDue := false } }) hready hcalm hnew)
  · intro c hready hcalm hc hstage
    have htest := spinUpTest_goesOn (s := { s with psm := { s.psm with spinUpDue := false } }) hready hcalm hc hstage
    constructor
    · intro hage
      rw [htest, if_pos hage, SpinUp.next_eq, hstage]
      rfl
    · intro hage
      exact congrArg _ (htest.trans (if_neg hage.not_gt))

/-! ### MAINS_CADENCE and REST_ADVICE (R135, R136) -/

theorem execMainsCadence_due {s : State} (hlife : s.mju.life = .active) (hdue : s.psm.mainsDue = true) :
    exec .mainsCadence s = .next (mainsTest { s with psm := { s.psm with mainsDue := false } }) := by
  simp [exec, execMainsCadence, active, hlife, hdue]

theorem execRestAdvice_due {s : State} (hlife : s.mju.life = .active) (hdue : s.psm.restDue = true) :
    exec .restAdvice s = .next (restTest { s with psm := { s.psm with restDue := false } }) := by
  simp [exec, execRestAdvice, active, hlife, hdue]

theorem mainsHolds_iff (s : State) :
    mainsHolds s = true ↔ s.psm.supply = .mains ∧ s.ou.pinFill.waiting ≠ [] ∧ s.psm.platter ≠ .ready
      ∧ s.psm.spinUp = none := by
  simp [mainsHolds, OrderUnit.length, ready, List.length_pos_iff, and_assoc]

theorem mainsTest_holds {s : State} (h : mainsHolds s = true) :
    (s.psm.mains = none → mainsTest s
      = { s.advise .spinUp .soon with psm := { s.psm with mains := some (s.seconds + 60#32) } })
    ∧ (∀ due, s.psm.mains = some due → mainsTest s = if age s.seconds due < 2147483648 then
        { s.advise .spinUp .soon with psm := { s.psm with mains := some (due + 60#32) } } else s) := by
  constructor
  · intro hnone
    rw [mainsTest, if_pos h, hnone]
    rfl
  · intro due hsome
    rw [mainsTest, if_pos h, hsome]
    simp only [reached_iff]
    rfl

theorem restWait_eq (s : State) :
    restWait s = if s.psm.supply = .mains then s.policy.restDelay else s.policy.restDelay / 2 := by
  unfold restWait
  cases s.psm.supply <;> rfl

theorem orders_eq_nil_iff (ou : OrderUnit) : ou.orders = [] ↔ ou.queued = 0 ∧ ou.issued = [] := by
  simp only [OrderUnit.orders, OrderUnit.ordersIn, OrderUnit.queued, OrderUnit.length, List.append_eq_nil_iff,
    List.map_eq_nil_iff, Nat.add_eq_zero_iff, List.length_eq_zero_iff]

/-- The REST advice is given exactly when everything is quiet and the wait is over. -/
theorem restHolds_iff (s : State) :
    restHolds s = true ↔ s.psm.platter = .ready ∧ dirtyCount s.bt.slots = 0 ∧ s.ou.orders = []
      ∧ s.psm.restGiven = false ∧ ∃ ref, s.psm.restRef = some ref ∧ restWait s ≤ age s.seconds ref := by
  unfold restHolds
  cases href : s.psm.restRef with
  | none => simp
  | some ref => simp [orders_eq_nil_iff, ready, and_assoc]

/-- Settles O10: each test by its conditions, the due time and the wait apart. -/
theorem mainsCadenceAndRestAdvice : Obligations.MainsCadenceAndRestAdvice := by
  refine ⟨?_, ?_, ?_⟩
  · intro s hlife hdue
    rw [execMainsCadence_due hlife hdue]
    constructor
    · intro hsupply hfills hplatter hspin
      obtain ⟨hstart, hgoes⟩ := mainsTest_holds (s := { s with psm := { s.psm with mainsDue := false } })
        ((mainsHolds_iff _).mpr ⟨hsupply, hfills, hplatter, hspin⟩)
      refine ⟨fun h => congrArg _ (hstart h), fun due h hage => ?_, fun due h hage => ?_⟩
      · exact congrArg _ ((hgoes due h).trans (if_pos hage))
      · exact congrArg _ ((hgoes due h).trans (if_neg hage.not_gt))
    · intro h
      refine congrArg _ (if_neg (mt (mainsHolds_iff _).mp ?_))
      rintro ⟨hsupply, hfills, hplatter, hspin⟩
      rcases h with h | h | h | h
      · exact nomatch h.symm.trans hsupply
      · exact hfills h
      · exact hplatter h
      · exact h hspin
  · intro s ref hlife hdue hplatter hclean horders hgiven href
    rw [execRestAdvice_due hlife hdue, ← restWait_eq]
    constructor
    · intro hage
      exact congrArg _ (if_pos ((restHolds_iff _).mpr ⟨hplatter, hclean, horders, hgiven, ref, href, hage⟩))
    · intro hage
      refine congrArg _ (if_neg (mt (restHolds_iff _).mp ?_))
      rintro ⟨-, -, -, -, ref', href', hage'⟩
      obtain rfl := Option.some.inj (href.symm.trans href')
      exact absurd hage' (show ¬ restWait s ≤ _ from hage.not_ge)
  · intro s hlife hdue h
    rw [execRestAdvice_due hlife hdue]
    refine congrArg _ (if_neg (mt (restHolds_iff _).mp ?_))
    rintro ⟨hplatter, hclean, horders, hgiven, ref, href, -⟩
    rcases h with h | h | h | h | h
    · exact h hplatter
    · exact h hclean
    · exact h horders
    · exact nomatch h.symm.trans hgiven
    · exact nomatch h.symm.trans href

end Sys2Proof.Machine
end


section
/-! SUPPORT. The claims on the advance: the refill, and the ageing and the visits of bindings and rows. -/

namespace Sys2Proof.Machine

/-! ### The advance (R33 to R36, R57) -/

theorem execSecondsAdvance_active {s : State} (hlife : s.mju.life = .active) :
    exec .secondsAdvance s = .next (tickActive (tick s)) := by
  simp [exec, execSecondsAdvance, active, hlife]

theorem execSecondsAdvance_inactive {s : State} (hlife : s.mju.life ≠ .active) :
    exec .secondsAdvance s = .next (tick s) := by
  simp [exec, execSecondsAdvance, active, hlife]

theorem tickActive_au (s : State) :
    (tickActive s).au = { refilled s.policy s.au with
      runsOwed := if s.au.tokens < (refilled s.policy s.au).tokens then s.au.runsOwed + 1 else s.au.runsOwed } := rfl

theorem refilled_full {p : Policy} {au : Admission} (h : au.tokens = p.bMax) : refilled p au = { au with acc := 0 } :=
  if_pos h

theorem refilled_below {p : Policy} {au : Admission} (h : au.tokens ≠ p.bMax) :
    refilled p au = { au with
      tokens := au.tokens + refillGain p au
      acc := if au.tokens + refillGain p au = p.bMax then 0 else au.acc + p.rate - 60 * refillGain p au } :=
  if_neg h

/-- The gain is as many sixties as the accumulator holds, up to B_max (R57). -/
theorem refillGain_spec {p : Policy} {au : Admission} (h : au.tokens < p.bMax) :
    au.tokens + refillGain p au ≤ p.bMax ∧ 60 * refillGain p au ≤ au.acc + p.rate
    ∧ (au.acc + p.rate < 60 * (refillGain p au + 1) ∨ au.tokens + refillGain p au = p.bMax) := by
  unfold refillGain
  omega

/-- Settles O3, by what the gain is. -/
theorem advanceRefillsTokens : Obligations.AdvanceRefillsTokens := by
  constructor
  · intro s hlife _
    refine ⟨_, execSecondsAdvance_active hlife, ?_, ?_⟩
    · intro hfull
      have hrefill : refilled (tick s).policy (tick s).au = { s.au with acc := 0 } := refilled_full hfull
      rw [tickActive_au, hrefill]
      exact congrArg (fun n => ({ s.au with acc := 0, runsOwed := n } : Admission)) (if_neg (lt_irrefl s.au.tokens))
    · intro hbelow
      have hrefill := refilled_below (p := (tick s).policy) (au := (tick s).au) hbelow.ne
      obtain ⟨hmax, hsixties, hall⟩ := refillGain_spec (p := (tick s).policy) (au := (tick s).au) hbelow
      have htokens : (tick s).au = s.au ∧ (tick s).policy = s.policy := ⟨rfl, rfl⟩
      rw [tickActive_au, hrefill]
      simp only [htokens] at hmax hsixties hall ⊢
      refine ⟨refillGain s.policy s.au, rfl, hmax, hsixties, hall, fun h => if_pos h, fun h => ?_, ?_⟩
      · rw [if_neg h.ne]
        omega
      · by_cases hgain : 0 < refillGain s.policy s.au
        · rw [if_pos hgain, if_pos (by omega)]
        · rw [if_neg hgain, if_neg (by omega), Nat.add_zero]
  · intro s hlife
    rw [execSecondsAdvance_inactive hlife]
    rfl

/-! ### Bindings and rows at an advance -/

theorem Binding.advance_eq (wheel pr : Nat) (b : Binding) :
    b.advance wheel pr = { b with
      heat := if b.owners = 0#4 ∧ b.extent % pr = wheel % pr then b.heat - (b.heat + 7) / 8 else b.heat
      idle := min 1023 (b.idle + 1) } := by
  have hvisit : (!b.pinned && onWheel wheel pr b.extent) = true ↔ b.owners = 0#4 ∧ b.extent % pr = wheel % pr := by
    simp [onWheel]
  simp only [Binding.advance, hvisit]
  rfl

theorem Watch.advance_idle (wheel pc lifetime choice i low high : Nat) (w : Watch) :
    (w.advance wheel pc lifetime choice i low high).extent = w.extent
    ∧ (w.advance wheel pc lifetime choice i low high).idle = min 1023 (w.idle + 1)
    ∧ ((w.advance wheel pc lifetime choice i low high).eligible = true → w.eligible = true) :=
  ⟨rfl, rfl, fun h => (Bool.and_eq_true_iff.mp h).1⟩

theorem Watch.advance_expiryDue (wheel pc lifetime choice i low high : Nat) (w : Watch) :
    (w.advance wheel pc lifetime choice i low high).expiryDue = true ↔
      (w.advance wheel pc lifetime choice i low high).heat = 0
        ∧ lifetime ≤ (w.advance wheel pc lifetime choice i low high).idle := by
  simp [Watch.advance]

theorem Watch.advance_unvisited {wheel pc : Nat} (lifetime choice i low high : Nat) {w : Watch}
    (h : w.extent % pc ≠ wheel % pc) :
    (w.advance wheel pc lifetime choice i low high).heat = w.heat
    ∧ (w.advance wheel pc lifetime choice i low high).eligible = w.eligible := by
  simp [Watch.advance, onWheel, h]

/-- A visit keeps the flag of a row that is hot enough by the old threshold, and clears it below both (R46, log 7). -/
theorem Watch.advance_visited {wheel pc : Nat} (lifetime choice i low high : Nat) {w : Watch}
    (h : w.extent % pc = wheel % pc) :
    (w.advance wheel pc lifetime choice i low high).heat = w.heat - (w.heat + 7) / 8
    ∧ (high ≤ (w.advance wheel pc lifetime choice i low high).heat →
        (w.advance wheel pc lifetime choice i low high).eligible = w.eligible)
    ∧ ((w.advance wheel pc lifetime choice i low high).heat < high →
        (w.advance wheel pc lifetime choice i low high).heat < low →
        (w.advance wheel pc lifetime choice i low high).eligible = false) := by
  have hvisited : onWheel wheel pc w.extent = true := decide_eq_true h
  simp only [Watch.advance, hvisited, if_true, Bool.not_true, Bool.false_or, visitKeeps]
  refine ⟨rfl, fun hhot => by simp [hhot], fun hhigh hlow => by simp [hhigh.not_ge, hlow.not_ge]⟩

/-- Settles O4: both tables are mapped entry by entry, and of an entry the claim says what its map does. -/
theorem advanceVisitsAndAges : Obligations.AdvanceVisitsAndAges := by
  intro s hlife
  have hslot (k : Nat) : tget (tickActive (tick s)).bt.slots k
      = (tget s.bt.slots k).map (Slot.advance (tick s).hu.wheel s.policy.pr) :=
    tget_map s.bt.slots (fun _ => Slot.advance (tick s).hu.wheel s.policy.pr) k
  have hrow (i : Nat) : tget (tickActive (tick s)).ct.rows i
      = (tget s.ct.rows i).map fun r => r.advance (tick s).hu.wheel s.policy.pc s.policy.lifetime (tick s).choices i
          (aEff (tickActive (tick s))) (aEff s) :=
    tget_map s.ct.rows (fun i r => r.advance (tick s).hu.wheel s.policy.pc s.policy.lifetime (tick s).choices i
      (aEff (tickActive (tick s))) (aEff s)) i
  refine ⟨_, execSecondsAdvance_active hlife, rfl, rfl, ?_, ?_, ?_, ?_, rfl, rfl, rfl⟩
  · intro k b hb
    rw [bindingAt_eq_some, hslot, tget_of_bindingAt hb]
    exact congrArg (fun b => some (Slot.bound b)) (Binding.advance_eq _ _ b)
  · intro k hnone
    rw [hslot]
    cases hk : tget s.bt.slots k with
    | none => rfl
    | some v =>
      cases v with
      | retired => rfl
      | bound b => exact nomatch hnone.symm.trans ((bindingAt_eq_some _ _ _).mpr hk)
  · intro i w hw
    refine ⟨w.advance (tick s).hu.wheel s.policy.pc s.policy.lifetime (tick s).choices i
      (aEff (tickActive (tick s))) (aEff s), by rw [hrow, hw]; rfl, ?_⟩
    obtain ⟨hextent, hidle, heligible⟩ := Watch.advance_idle (tick s).hu.wheel s.policy.pc s.policy.lifetime
      (tick s).choices i (aEff (tickActive (tick s))) (aEff s) w
    exact ⟨hextent, hidle, heligible, Watch.advance_expiryDue _ _ _ _ _ _ _ w,
      Watch.advance_unvisited _ _ _ _ _, Watch.advance_visited _ _ _ _ _⟩
  · intro i hnone
    rw [hrow]
    cases hi : tget s.ct.rows i with
    | none => rfl
    | some r =>
      cases r with
      | watching w => exact absurd hi (hnone w)
      | barred x u => rfl

end Sys2Proof.Machine
end


section
/-! SUPPORT. The claims on the dispatch arbiter and on DISPATCH; with them the alerts of an owner and what a change of one slot
enters into the log. -/

namespace Sys2Proof.Machine

/-! ### The arbiter (R99, R101, R156) -/

theorem heldBack_iff (s : State) (o : Order) :
    heldBack s o = true ↔ 256 ≤ s.mju.log.length ∧ inLog s.mju.log o.slot = false
      ∧ ∃ b, bindingAt s.bt.slots o.slot = some b ∧ 2 ≤ b.strikes ∧ b.dirty = 0#64 := by
  unfold heldBack
  cases bindingAt s.bt.slots o.slot with
  | none => simp
  | some b => simp [and_assoc]

theorem orderReady_iff (s : State) (w : Waiting) :
    orderReady s w = true ↔ w.notBefore = none
      ∧ ¬(256 ≤ s.mju.log.length ∧ inLog s.mju.log w.order.slot = false
        ∧ ∃ b, bindingAt s.bt.slots w.order.slot = some b ∧ 2 ≤ b.strikes ∧ b.dirty = 0#64) := by
  rw [← heldBack_iff]
  simp [orderReady]

theorem queueOpen_iff (s : State) (q : QueueId) :
    queueOpen s q = true ↔ (s.ou.queue q).skip = false ∧ (s.ou.queue q).halted = false
      ∧ ∃ w ∈ (s.ou.queue q).waiting, orderReady s w = true := by
  simp [queueOpen, and_assoc]

theorem condemnedSlot_iff (slots : List (Nat × Slot)) (k : Nat) :
    condemnedSlot slots k = true ↔ ∃ b, bindingAt slots k = some b ∧ 2 ≤ b.strikes := by
  unfold condemnedSlot
  cases bindingAt slots k with
  | none => simp
  | some b => simp

/-- The drain queue goes first (R101). -/
def drainFirst (s : State) : Prop :=
  queueOpen s .drain = true ∧ (holdStage s = .urgent ∨ holdStage s = .closed
    ∨ ∃ w ∈ s.ou.drain.waiting, ∃ b, bindingAt s.bt.slots w.order.slot = some b ∧ 2 ≤ b.strikes)

theorem drainFirst_iff (s : State) :
    drainFirst s ↔ (queueOpen s .drain && (decide (holdStage s = .urgent) || decide (holdStage s = .closed)
      || condemnedDrainWaiting s)) = true := by
  simp [drainFirst, condemnedDrainWaiting, condemnedSlot_iff, or_assoc]

theorem arbiterChoice_of_drainFirst {s : State} (h : drainFirst s) : arbiterChoice s = some .drain :=
  if_pos ((drainFirst_iff s).mp h)

theorem arbiterChoice_of_pinFill {s : State} (h : ¬ drainFirst s) (hpin : queueOpen s .pinFill = true) :
    arbiterChoice s = some .pinFill :=
  (if_neg (mt (drainFirst_iff s).mpr h)).trans (if_pos hpin)

/-- With neither of the first two, the choice is between heat fill and drain. -/
theorem arbiterChoice_of_others {s : State} (h : ¬ drainFirst s) (hpin : ¬ queueOpen s .pinFill = true) :
    arbiterChoice s =
      if queueOpen s .heatFill = true then
        if queueOpen s .drain = true then some (if s.ou.lastServed = .heatFill then .drain else .heatFill)
        else some .heatFill
      else if queueOpen s .drain = true then some .drain else none := by
  rw [arbiterChoice, if_neg (mt (drainFirst_iff s).mpr h), if_neg hpin]
  cases queueOpen s .heatFill <;> cases queueOpen s .drain <;> simp
  split <;> rfl

theorem exec_dispatch_idle {s : State} (h : s.mju.life ≠ .active ∨ s.psm.platter ≠ .ready
      ∨ s.policy.window ≤ s.ou.issued.length ∨ arbiterChoice s = none) : exec .dispatch s = .next s := by
  rcases exec_dispatch_cases s with hsame | ⟨q, w, b, hactive, hwindow, hchoice, -⟩
  · exact hsame
  · obtain ⟨hready, hroom⟩ := Bool.and_eq_true_iff.mp hwindow
    rcases h with h | h | h | h
    · exact absurd ((active_iff s).mp hactive) h
    · exact absurd ((ready_iff s).mp hready) h
    · exact absurd h (of_decide_eq_true hroom).not_ge
    · exact nomatch h.symm.trans hchoice

/-- Settles O15: readiness and openness are the model's, so the choice is the model's chain of conditions. -/
theorem dispatchArbiter : Obligations.DispatchArbiter := by
  refine ⟨?_, fun s => exec_dispatch_idle⟩
  intro s ready opened first hready hopened hfirst
  have hr (w : Waiting) : orderReady s w = true ↔ ready w := (orderReady_iff s w).trans (hready w).symm
  have ho (q : QueueId) : opened q ↔ queueOpen s q = true := by
    rw [hopened, queueOpen_iff]
    simp only [hr]
  have hf : first ↔ drainFirst s := by rw [hfirst, ho, drainFirst]
  simp only [hf, ho]
  refine ⟨hr, arbiterChoice_of_drainFirst, arbiterChoice_of_pinFill, ?_, ?_, ?_, ?_⟩
  · intro hnot hpin hheat hdrain
    rw [arbiterChoice_of_others hnot hpin, if_pos hheat, if_neg hdrain]
  · intro hnot hpin hheat hdrain
    rw [arbiterChoice_of_others hnot hpin, if_neg hheat, if_pos hdrain]
  · intro hnot hpin hheat hdrain
    rw [arbiterChoice_of_others hnot hpin, if_pos hheat, if_pos hdrain]
  · intro hnot hpin hheat hdrain
    rw [arbiterChoice_of_others hnot hpin, if_neg hheat, if_neg hdrain]

/-! ### DISPATCH with an order to take (R100 to R103) -/

theorem selectionBlocks_eq (q : QueueId) (b : Binding) :
    selectionBlocks q b = if q = .drain then b.dirty else ~~~b.valid := by
  cases q with
  | drain => rfl
  | pinFill => exact BitVec.allOnes_and
  | heatFill => exact BitVec.allOnes_and

/-- With the conditions of R100 the arbiter's order is selected. -/
theorem exec_dispatch_selects {s : State} {q : QueueId} {w : Waiting} {b : Binding} (hlife : s.mju.life = .active)
    (hplatter : s.psm.platter = .ready) (hwindow : s.ou.issued.length < s.policy.window)
    (hchoice : arbiterChoice s = some q) (hfirst : (s.ou.queue q).waiting.find? (orderReady s) = some w)
    (hb : bindingAt s.bt.slots w.order.slot = some b) : exec .dispatch s = .next (selectOrder s q w b) := by
  have hexec : exec .dispatch s = execDispatch s := rfl
  have hw : firstReady s q = some w := hfirst
  simp [hexec, execDispatch, (active_iff s).mpr hlife, windowOpen, (ready_iff s).mpr hplatter, hwindow, hchoice, hw, hb]

theorem retryAtDispatch_eq (last : Option OrderKind) (k : OrderKind) (count : Nat) :
    retryAtDispatch last k count = if last = none ∨ last = some k then count else 0 := by
  cases last <;> simp [retryAtDispatch]

theorem dispatched_eq (b : Binding) (q : QueueId) (tag : Tag) :
    b.dispatched q tag = if q = .drain then { b with tag := some tag, redirtied := some 0#64 }
      else { b with tag := some tag, overtaken := some 0#64 } := by
  cases q <;> rfl

theorem dispatchOrder_ou (s : State) (q : QueueId) (w : Waiting) (b : Binding) :
    (dispatchOrder s q w b).ou = { s.ou.setQueue q { s.ou.queue q with
            waiting := (s.ou.queue q).waiting.eraseP (orderReady s) } with
        issued := s.ou.issued ++
          [⟨w.order, selectionBlocks q b, freeTag s.ou.issued s.ou.issued.length s.ou.tagCounter, s.seconds, false⟩]
        tagCounter := nextTag (freeTag s.ou.issued s.ou.issued.length s.ou.tagCounter)
        lastServed := (match q with | .pinFill => s.ou.lastServed | .heatFill => .heatFill | .drain => .drain)
        retryCount := if s.ou.lastKind = none ∨ s.ou.lastKind = some q.kind then s.ou.retryCount else 0
        lastKind := some q.kind } := by
  rw [← retryAtDispatch_eq]
  cases q <;> rfl

theorem dispatchOrder_slots (s : State) (q : QueueId) (w : Waiting) (b : Binding) :
    (dispatchOrder s q w b).bt.slots = tset s.bt.slots w.order.slot
      (.bound (b.dispatched q (freeTag s.ou.issued s.ou.issued.length s.ou.tagCounter))) := by
  cases q <;> rfl

/-- Settles O16, field by field of the dispatched state. -/
theorem dispatchIssuesTheOrder : Obligations.DispatchIssuesTheOrder := by
  rintro s q w b _ hlife hplatter hwindow hchoice hfirst hb rfl hblocks
  rw [← selectionBlocks_eq] at hblocks ⊢
  have hexec : exec .dispatch s = .next (dispatchOrder s q w b) :=
    (exec_dispatch_selects hlife hplatter hwindow hchoice hfirst hb).trans (congrArg _ (if_neg hblocks))
  refine ⟨_, _, hexec, rfl, dispatchOrder_ou s q w b, ?_, ?_, ?_, ?_, ?_, ?_, ?_⟩
  · rw [dispatchOrder_slots, bindingAt_tset_same, dispatched_eq]
  · intro k hk
    rw [dispatchOrder_slots, tget_tset_ne _ _ hk]
  · cases q <;> rfl
  · cases q <;> rfl
  · cases q <;> rfl
  · cases q <;> rfl
  · cases q <;> rfl

/-! ### The alerts (R141) -/

theorem PinUnit.alert_scansOwed (pu : PinUnit) (n o : Nat) : ({ pu with scansOwed := n } : PinUnit).alert o = pu.alert o := by
  unfold PinUnit.alert
  split <;> rfl

theorem PinUnit.alert_raise (pu : PinUnit) (owners : OwnerSet) (c : AlertCode) {o : Nat} (ho : o ≤ 3) :
    (pu.raise owners c).alert o = if owners.getLsbD o then some c else pu.alert o := by
  interval_cases o <;> rfl

theorem PinUnit.raise_scansOwed (pu : PinUnit) (owners : OwnerSet) (c : AlertCode) :
    (pu.raise owners c).scansOwed = pu.scansOwed := rfl

/-! ### A change of one slot and the log (R17, R18) -/

/-- The persisted form of a bound slot that retires is another. -/
theorem persistedChanged_retired {before : List (Nat × Slot)} {k : Nat} {b : Binding}
    (hb : bindingAt before k = some b) (after : List (Nat × Slot)) (h : tget after k = some .retired) :
    persistedChanged before after k = true := by
  simp [persistedChanged, persisted, tget_of_bindingAt hb, h]

theorem persistedChanged_free {before : List (Nat × Slot)} {k : Nat} {b : Binding}
    (hb : bindingAt before k = some b) (after : List (Nat × Slot)) (h : tget after k = none) :
    persistedChanged before after k = true := by
  simp [persistedChanged, persisted, tget_of_bindingAt hb, h]

/-- The persisted forms of two bindings, heat apart. -/
theorem persistedChanged_bound {before after : List (Nat × Slot)} {k : Nat} {b c : Binding}
    (hb : bindingAt before k = some b) (hc : bindingAt after k = some c) :
    persistedChanged before after k = false ↔
      b.extent = c.extent ∧ b.owners = c.owners ∧ b.strikes = c.strikes ∧ b.valid = c.valid ∧ b.dirty = c.dirty := by
  simp only [persistedChanged, persisted, tget_of_bindingAt hb, tget_of_bindingAt hc, Record.mk.injEq, ne_eq,
    decide_eq_false_iff_not, not_not, true_and, and_true]
  constructor
  · rintro ⟨h1, h2, -, h3, h4, h5⟩
    exact ⟨h1, h2, h3, h4, h5⟩
  · rintro ⟨h1, h2, h3, h4, h5⟩
    exact ⟨h1, h2, by rw [Binding.condemned, Binding.condemned, h3], h3, h4, h5⟩

/-- A change of one slot that leaves its persisted form leaves the log. -/
theorem logChange_mju_same {s : State} {before : List (Nat × Slot)} {k : Nat}
    (h : persistedChanged before s.bt.slots k = false) : (s.logChange before [k]).mju = s.mju := by
  rw [State.logChange_mju, grownLog_same _ _ _ _ _ (by simpa using h)]

theorem inLog_logChange {s : State} {before : List (Nat × Slot)} {ks : List Nat} {k : Nat} (hk : k ∈ ks)
    (h : persistedChanged before s.bt.slots k = true) : inLog (s.logChange before ks).mju.log k = true := by
  rw [State.logChange_mju]
  exact (inLog_grownLog _ _ _ _ _ _).mpr (.inr ⟨hk, h⟩)

/-! ### DISPATCH of an order with no block to copy (R102) -/

/-- The end of an order at a slot that is not to be freed: RETIRED where condemned and clean (R16), else HELD (R10). -/
theorem leaveOrder_retires {s : State} {k : Nat} {b : Binding} (hstrikes : 2 ≤ b.strikes) (hclean : b.dirty = 0#64)
    (free : Bool) : s.leaveOrder k b free = s.retire k b := by
  obtain ⟨-, h⟩ | ⟨⟨hlt, -⟩, -⟩ | ⟨⟨hkept, -⟩, -⟩ := leaveOrder_cases s k b free
  · exact h
  · omega
  · rcases hkept with hlt | hdirty
    · omega
    · exact absurd hclean hdirty

theorem leaveOrder_holds {s : State} {k : Nat} {b : Binding} (h : b.strikes < 2 ∨ b.dirty ≠ 0#64) :
    s.leaveOrder k b false = (s.setBinding k { b.orderless with state := .held }).startScanIf b.pinned := by
  obtain ⟨⟨hge, hclean⟩, -⟩ | ⟨⟨-, hfree, -⟩, -⟩ | ⟨-, heq⟩ := leaveOrder_cases s k b false
  · rcases h with hlt | hdirty
    · omega
    · exact absurd hclean hdirty
  · cases hfree
  · exact heq

/-- The credit after a settling, written out. -/
theorem settleCredit_record (s : State) :
    s.settleCredit = { s with lif := { s.lif with credit := if attn s then s.lif.credit else 0 } } := by
  rw [settleCredit_eq, State.settleCredit_lif]

/-- The order gone from its queue. -/
def OrderUnit.withoutFirst (s : State) (q : QueueId) : OrderUnit :=
  s.ou.setQueue q { s.ou.queue q with waiting := (s.ou.queue q).waiting.eraseP (orderReady s) }

/-- The order ends at a binding that comes to HELD: of its own or by the order's queue, a scan starts (R148). -/
theorem endAtSelection_holds {s : State} {q : QueueId} {w : Waiting} {b : Binding}
    (h : b.strikes < 2 ∨ b.dirty ≠ 0#64) :
    endAtSelection s q w b = ({ s with
      ou := .withoutFirst s q
      bt := { s.bt with slots := tset s.bt.slots w.order.slot (.bound { b.orderless with state := .held }) }
      au := { s.au with runsOwed := s.au.runsOwed + if q = QueueId.heatFill then 1 else 0 }
      pu := { s.pu with scansOwed := s.pu.scansOwed + if b.owners ≠ 0#4 ∨ q = QueueId.pinFill then 1 else 0 }
      }.logChange s.bt.slots [w.order.slot]).settleCredit := by
  unfold endAtSelection
  rw [leaveOrder_holds h]
  by_cases howners : b.owners = 0#4
  · have hpinned : b.pinned = false := (Binding.pinned_eq_false b).mpr howners
    simp only [hpinned, howners]
    cases q <;> rfl
  · have hpinned : b.pinned = true := (Binding.pinned_eq_true b).mpr howners
    rw [hpinned, if_pos (Or.inl howners)]
    cases q <;> rfl

theorem endAtSelection_retires {s : State} {q : QueueId} {w : Waiting} {b : Binding} (hstrikes : 2 ≤ b.strikes)
    (hclean : b.dirty = 0#64) :
    endAtSelection s q w b = ({ s with
      ou := .withoutFirst s q
      bt := { s.bt with slots := tset s.bt.slots w.order.slot .retired }
      au := { s.au with runsOwed := s.au.runsOwed + if q = QueueId.heatFill then 1 else 0 }
      pu := { s.pu.raise b.owners .pinsDropped with
        scansOwed := s.pu.scansOwed + if q = QueueId.pinFill ∧ b.owners = 0#4 then 1 else 0 }
      }.logChange s.bt.slots [w.order.slot]).settleCredit := by
  unfold endAtSelection
  rw [leaveOrder_retires hstrikes hclean]
  by_cases howners : b.owners = 0#4
  · have hpinned : b.pinned = false := (Binding.pinned_eq_false b).mpr howners
    simp only [hpinned, and_iff_left howners]
    cases q <;> rfl
  · have hpinned : b.pinned = true := (Binding.pinned_eq_true b).mpr howners
    have hno : ¬ (q = QueueId.pinFill ∧ b.owners = 0#4) := fun h => howners h.2
    rw [hpinned, if_neg hno]
    cases q <;> rfl

/-- Settles O18, by whether the binding is condemned and clean. -/
theorem dispatchEndsAnEmptyOrder : Obligations.DispatchEndsAnEmptyOrder := by
  intro s q w b hlife hplatter hwindow hchoice hfirst hb hblocks
  rw [← selectionBlocks_eq] at hblocks
  refine ⟨_, (exec_dispatch_selects hlife hplatter hwindow hchoice hfirst hb).trans (congrArg _ (if_pos hblocks)), ?_⟩
  by_cases hretires : 2 ≤ b.strikes ∧ b.dirty = 0#64
  · obtain ⟨hstrikes, hclean⟩ := hretires
    rw [endAtSelection_retires hstrikes hclean]
    refine ⟨by simp [OrderUnit.withoutFirst], fun hlt => absurd hlt hstrikes.not_gt, fun _ _ => ⟨by simp, ?_, ?_⟩,
      fun k hk => by simp [tget_tset_ne _ _ hk], by simp, by rw [settleCredit_record]; rfl, creditRule_settleCredit rfl⟩
    · rw [State.settleCredit_mju]
      exact inLog_logChange (List.mem_singleton_self _) (persistedChanged_retired hb _ (tget_tset_same _ _ _))
    · intro owner howner
      simp only [State.settleCredit_pu, State.logChange_pu]
      rw [PinUnit.alert_scansOwed, PinUnit.alert_raise _ _ _ howner]
  · have hholds : b.strikes < 2 ∨ b.dirty ≠ 0#64 := by
      by_contra! hnot
      exact hretires hnot
    rw [endAtSelection_holds hholds]
    refine ⟨by simp [OrderUnit.withoutFirst], fun _ => ⟨by simp [Binding.orderless], ?_, by simp⟩,
      fun hge hclean => absurd ⟨hge, (Binding.isDirty_eq_false b).mp hclean⟩ hretires,
      fun k hk => by simp [tget_tset_ne _ _ hk], by simp, by rw [settleCredit_record]; rfl, creditRule_settleCredit rfl⟩
    rw [State.settleCredit_mju, logChange_mju_same (persistedChanged_held hb)]

end Sys2Proof.Machine
end


section
/-! SUPPORT. The claims on IMPORT_END and POLICY; with them the records of a body. -/

namespace Sys2Proof.Machine

/-! ### IMPORT_END (R164) -/

theorem requestRow_importEnd {f : Frame} (hkind : f.kind = 0x13#8) : requestRow f = .importEnd := by
  rw [requestRow, hkind]
  rfl

theorem Slot.commit_retires {b : Binding} (now : Time) (hstrikes : 2 ≤ b.strikes) (hclean : b.isDirty = false) :
    (Slot.bound b).commit now = .retired := by
  simp [Slot.commit, Binding.condemned, hstrikes, hclean]

theorem Slot.commit_stays {b : Binding} (now : Time) (h : b.strikes < 2 ∨ b.isDirty = true) :
    (Slot.bound b).commit now = .bound { b with dirtySince := if b.isDirty then some now else b.dirtySince } := by
  rcases h with h | h
  · have hlow : b.condemned = false := (Binding.condemned_eq_false b).mpr h
    simp [Slot.commit, hlow]
  · simp [Slot.commit, h]

/-- Some slot retires at the commit exactly where a bound one is condemned and clean. -/
theorem any_retiresAtCommit (slots : List (Nat × Slot)) :
    (slots.any fun p => p.2.retiresAtCommit) = true ↔
      ∃ kb ∈ bindingsOf slots, 2 ≤ kb.2.strikes ∧ kb.2.isDirty = false := by
  rw [List.any_eq_true]
  constructor
  · rintro ⟨⟨k, v⟩, hmem, hretires⟩
    cases v with
    | retired => exact nomatch hretires
    | bound b =>
      refine ⟨(k, b), (mem_bindingsOf slots k b).mpr hmem, ?_⟩
      simpa [Slot.retiresAtCommit] using hretires
  · rintro ⟨⟨k, b⟩, hmem, hretires⟩
    exact ⟨(k, .bound b), (mem_bindingsOf slots k b).mp hmem, by simpa [Slot.retiresAtCommit] using hretires⟩

theorem commitImport_eq (s : State) :
    commitImport s = { s with
      bt := { s.bt with slots := s.bt.slots.map fun p => (p.1, p.2.commit s.seconds) }
      au := { s.au with tokens := s.policy.bMax, acc := 0 }
      mju := { s.mju with
        life := .active
        stale := s.mju.stale || (decide (0 < s.mju.rejected) || s.bt.slots.any fun p => p.2.retiresAtCommit) }
      psm := if s.psm.platter = PlatterState.ready then { s.psm with restRef := some s.seconds, restGiven := false }
        else s.psm
      pu := ⟨some .mapReplaced, some .mapReplaced, some .mapReplaced, some .mapReplaced, s.pu.scansOwed + 1⟩ } := by
  rw [commitImport, becomeActive_eq]
  rfl

/-- Settles O27: the counts agree or not, and the commit maps the table slot by slot. -/
theorem importEndCommitsOrDrops : Obligations.ImportEndCommitsOrDrops := by
  rintro s f rest total hlife hturn hlen rfl
  rw [exec_of_turn (serve := serveImportEnd) rfl hturn (requestRow_importEnd (kind_of_turn hturn))
    (by simp [phaseRefusal, hlife]) (by simp [lengthOk, hlen])]
  constructor
  · intro hdiffer
    exact congrArg _ (if_neg hdiffer)
  · intro hagree
    have hserve : serveImportEnd f (s.taken rest) = (commitImport (s.taken rest)).answerOk f.tag .bare := if_pos hagree
    have hslot (k : Nat) : tget (commitImport (s.taken rest)).bt.slots k
        = (tget s.bt.slots k).map (Slot.commit s.seconds) :=
      tget_map s.bt.slots (fun _ => Slot.commit s.seconds) k
    rw [hserve]
    refine ⟨_, rfl, ?_, ?_, ?_, ?_, by rw [commitImport_eq]; rfl⟩
    · intro k b hb hstrikes hclean
      rw [State.answerOk_bt, hslot, tget_of_bindingAt hb, Option.map_some, Slot.commit_retires _ hstrikes hclean]
    · intro k b hb h
      rw [State.answerOk_bt, bindingAt_eq_some, hslot, tget_of_bindingAt hb, Option.map_some, Slot.commit_stays _ h]
    · intro k hnone
      rw [State.answerOk_bt, hslot]
      cases hk : tget s.bt.slots k with
      | none => rfl
      | some v =>
        cases v with
        | retired => rfl
        | bound b => exact nomatch hnone.symm.trans ((bindingAt_eq_some _ _ _).mpr hk)
    · have hstale : (commitImport (s.taken rest)).mju.stale = (s.mju.stale
          || (decide (0 < s.mju.rejected) || s.bt.slots.any fun p => p.2.retiresAtCommit)) := by rw [commitImport_eq]; rfl
      rw [State.answerOk_mju, hstale, ← any_retiresAtCommit]
      simp only [Bool.or_eq_true, decide_eq_true_eq]

/-! ### The records of a body (section 10.7) -/

theorem recordsOf_eq (size count : Nat) (body : List Byte) :
    recordsOf size count body = (List.range count).map fun i => (body.drop (size * i)).take size := by
  induction count generalizing body with
  | zero => rfl
  | succ count ih =>
    rw [recordsOf, ih, List.range_succ_eq_map, List.map_cons, List.map_map]
    refine congrArg₂ _ (by simp) (List.map_congr_left fun i _ => ?_)
    simp only [List.drop_drop, Function.comp, Nat.mul_succ, Nat.add_comm size]

/-- A field of a record is a field of the body. -/
theorem fieldAt_record (body : List Byte) (start size offset n : Nat) (h : offset + n ≤ size) :
    fieldAt ((body.drop start).take size) offset n = fieldAt body (start + offset) n := by
  unfold fieldAt
  rw [List.drop_take, List.take_take, List.drop_drop, Nat.min_eq_left (by omega)]

/-! ### POLICY (R176, R177) -/

theorem requestRow_policy {f : Frame} (hkind : f.kind = 0x50#8) : requestRow f = .policy := by
  rw [requestRow, hkind]
  rfl

theorem policyPairs_eq {f : Frame} {m : Nat} (hlen : f.body.length = 5 * m) :
    policyPairs f = (List.range m).map fun i => (fieldAt f.body (5 * i) 1, fieldAt f.body (5 * i + 1) 4) := by
  rw [policyPairs, hlen, Nat.mul_div_cancel_left m (by decide), recordsOf_eq, List.map_map]
  refine List.map_congr_left fun i _ => ?_
  simp only [Function.comp, pairOf, fieldAt_record _ _ _ _ _ (show 0 + 1 ≤ 5 by decide),
    fieldAt_record _ _ _ _ _ (show 1 + 4 ≤ 5 by decide), Nat.add_zero]

theorem knownId_iff (a : Nat) : knownId a = true ↔ 1 ≤ a ∧ a ≤ 18 := by simp [knownId]

/-- The policy in which each id has the value of its last pair, if it has one, clamped; `n` and `pinned` bound S_lim and the
pin limit. -/
def policyWith (p : Policy) (n pinned : Nat) (last : Nat → Option Nat) : Policy where
  aBase := (last 1).elim p.aBase (clampTo 16 2048)
  hyst := (last 2).elim p.hyst (clampTo 0 1024)
  bMax := (last 3).elim p.bMax (clampTo 64 16384)
  rate := (last 4).elim p.rate (clampTo 0 600)
  pc := (last 5).elim p.pc clampPeriod
  pr := (last 6).elim p.pr clampPeriod
  lifetime := (last 7).elim p.lifetime (clampTo 10 1023)
  barPeriod := (last 8).elim p.barPeriod (clampTo 60 65535)
  streamThreshold := (last 9).elim p.streamThreshold (clampTo 16 4096)
  sLim := (last 10).elim p.sLim (clampTo 0 n)
  hHold := (last 11).elim p.hHold (clampTo 60 3600)
  drainDelay := (last 12).elim p.drainDelay (clampTo 0 600)
  pinLimit := (last 13).elim p.pinLimit (clampTo pinned n)
  orderTimeout := (last 14).elim p.orderTimeout (clampTo 5 255)
  flushCount := (last 15).elim p.flushCount (clampTo 1 16)
  deltaDelay := (last 16).elim p.deltaDelay (clampTo 0 60)
  restDelay := (last 17).elim p.restDelay (clampTo 5 600)
  window := (last 18).elim p.window (clampTo 1 8)

theorem clampTo_zero (hi : Nat) : clampTo 0 hi = fun v => min hi v := funext fun _ => Nat.zero_max _

/-- One pair more. -/
theorem policyWith_set (p : Policy) (n pinned : Nat) (last : Nat → Option Nat) {a : Nat} (ha : 1 ≤ a ∧ a ≤ 18) (v : Nat) :
    (policyWith p n pinned last).set n pinned a v = policyWith p n pinned (Function.update last a (some v)) := by
  obtain ⟨hlow, hhigh⟩ := ha
  interval_cases a <;> rfl

/-- The value of the last of the first `m` pairs that has id `a`. -/
def lastValue (id value : Nat → Nat) (m a : Nat) : Option Nat :=
  (((List.range m).filter fun i => id i == a).getLast?).map value

theorem lastValue_succ (id value : Nat → Nat) (m : Nat) :
    lastValue id value (m + 1) = Function.update (lastValue id value m) (id m) (some (value m)) := by
  funext a
  unfold lastValue
  rw [List.range_succ, List.filter_append]
  by_cases ha : a = id m
  · subst ha
    simp
  · rw [Function.update_of_ne ha]
    simp [Ne.symm ha]

/-- T after the first `m` pairs: lowered to each new B_max (R60, log 18). -/
def loweredTokens (id value : Nat → Nat) (m tokens : Nat) : Nat :=
  (List.range m).foldl (fun tokens i => if id i = 3 then min tokens (max 64 (min 16384 (value i))) else tokens) tokens

theorem applyPairs_eq (s : State) (id value : Nat → Nat) (m : Nat) (hids : ∀ i, i < m → 1 ≤ id i ∧ id i ≤ 18) :
    ((List.range m).map fun i => (id i, value i)).foldl applyPair s = { s with
      policy := policyWith s.policy s.bt.n (pinnedCount s.bt.slots) (lastValue id value m)
      au := { s.au with tokens := loweredTokens id value m s.au.tokens } } := by
  induction m with
  | zero => rfl
  | succ m ih =>
    have hset := policyWith_set s.policy s.bt.n (pinnedCount s.bt.slots) (lastValue id value m) (hids m m.lt_succ_self)
      (value m)
    rw [List.range_succ, List.map_append, List.foldl_append, ih fun i hi => hids i (by omega), lastValue_succ, ← hset]
    have htokens : loweredTokens id value (m + 1) s.au.tokens = if id m = 3
        then min (loweredTokens id value m s.au.tokens) (max 64 (min 16384 (value m)))
        else loweredTokens id value m s.au.tokens := by
      rw [loweredTokens, List.range_succ, List.foldl_append]
      rfl
    rw [htokens, List.map_singleton, List.foldl_cons, List.foldl_nil, applyPair]
    by_cases hid : id m = 3
    · have hmax : ((policyWith s.policy s.bt.n (pinnedCount s.bt.slots) (lastValue id value m)).set s.bt.n
          (pinnedCount s.bt.slots) (id m) (value m)).bMax = max 64 (min 16384 (value m)) := by rw [hid]; rfl
      simp only [if_pos hid, hmax]
    · simp only [if_neg hid]

theorem clampPeriod_spec (v : Nat) :
    clampPeriod v ∈ [1, 2, 4, 8, 16, 32] ∧ (v = 0 → clampPeriod v = 1) ∧ (0 < v → clampPeriod v ≤ v)
    ∧ (v < 2 * clampPeriod v ∨ clampPeriod v = 32) := by
  unfold clampPeriod
  split_ifs <;> simp <;> omega

/-- Settles O41: the first unknown id refuses the request; with none the pairs are applied one after another. -/
theorem policyClamps : Obligations.PolicyClamps := by
  intro s f rest m id value last hturn hlen hm hid hvalue hlast
  obtain rfl : id = fun i => fieldAt f.body (5 * i) 1 := funext hid
  obtain rfl : value = fun i => fieldAt f.body (5 * i + 1) 4 := funext hvalue
  obtain rfl : last = lastValue _ _ m := funext hlast
  rw [exec_of_turn (serve := servePolicy) rfl hturn (requestRow_policy (kind_of_turn hturn)) rfl
    (by simp [lengthOk, hlen]; omega)]
  have hpairs := policyPairs_eq hlen
  constructor
  · intro i hi hbad hgood
    have hfind : (policyPairs f).findIdx? (fun pair => !knownId pair.1) = some i := by
      rw [List.findIdx?_eq_some_iff_getElem, hpairs]
      have hunknown : ¬ (1 ≤ fieldAt f.body (5 * i) 1 ∧ fieldAt f.body (5 * i) 1 ≤ 18) := by
        dsimp only at hbad
        omega
      refine ⟨by simpa using hi, by simpa [← knownId_iff] using hunknown, fun j hj => ?_⟩
      simp only [List.getElem_map, List.getElem_range, Bool.not_eq_true', Bool.not_eq_false]
      exact (knownId_iff _).mpr (hgood j hj)
    rw [servePolicy, hfind]
    rfl
  · intro hgood
    have hfind : (policyPairs f).findIdx? (fun pair => !knownId pair.1) = none := by
      rw [List.findIdx?_eq_none_iff, hpairs]
      intro pair hpair
      obtain ⟨i, hi, rfl⟩ := List.mem_map.mp hpair
      simp [(knownId_iff _).mpr (hgood i (List.mem_range.mp hi))]
    have hserve : servePolicy f (s.taken rest)
        = ((policyPairs f).foldl applyPair (s.taken rest)).answerOk f.tag
          (.policy ((policyPairs f).foldl applyPair (s.taken rest)).policy) := by
      rw [servePolicy, hfind]
    rw [hserve, hpairs, applyPairs_eq _ _ _ _ hgood]
    refine ⟨policyWith s.policy s.bt.n (pinnedCount s.bt.slots) (lastValue _ _ m), rfl, ?_, ?_, ?_, ?_⟩
    · simp only [policyWith, clampTo_zero]
      rfl
    · intro h
      simp only [policyWith, h, Option.elim_none]
    · intro h
      simp only [policyWith, h, Option.elim_none]
    · rintro v q (⟨h, rfl⟩ | ⟨h, rfl⟩)
      · simp only [policyWith, h, Option.elim_some]
        exact clampPeriod_spec v
      · simp only [policyWith, h, Option.elim_some]
        exact clampPeriod_spec v

end Sys2Proof.Machine
end


section
/-! SUPPORT. The claims on STATUS and on the frames of an export; with them the counts of a table over all its keys, and the head of
a list in order. -/

namespace Sys2Proof.Machine

/-! ### Counts over all the keys of a table -/

section
variable {α : Type}

/-- What is counted over the keys from `start` on is what is counted over the entries, where no entry counts for none. -/
theorem countP_range'_tget (p : Option α → Bool) (hnone : p none = false) (n : Nat) :
    ∀ (start : Nat) (l : List (Nat × α)), tsorted l = true → (∀ e ∈ l, start ≤ e.1 ∧ e.1 < start + n) →
      (List.range' start n).countP (fun k => p (tget l k)) = l.countP fun e => p (some e.2) := by
  induction n with
  | zero =>
    intro start l _ hkeys
    cases l with
    | nil => rfl
    | cons e rest =>
      have he := hkeys e (List.mem_cons_self ..)
      omega
  | succ n ih =>
    intro start l hsorted hkeys
    rw [List.range'_succ, List.countP_cons]
    cases l with
    | nil => simp [tget, hnone]
    | cons e rest =>
      obtain ⟨i, a⟩ := e
      obtain ⟨hbelow, hrest⟩ := (tsorted_cons i a rest).mp hsorted
      obtain ⟨hi, hin⟩ := hkeys _ (List.mem_cons_self ..)
      dsimp only at hi hin
      have hkeysRest : ∀ e ∈ rest, start + 1 ≤ e.1 ∧ e.1 < start + 1 + n := fun e he => by
        have hbound := hkeys e (List.mem_cons_of_mem _ he)
        have habove := hbelow e he
        omega
      by_cases hhead : i = start
      · have hskip : (List.range' (start + 1) n).countP (fun k => p (tget ((i, a) :: rest) k))
            = (List.range' (start + 1) n).countP fun k => p (tget rest k) := by
          refine List.countP_congr fun k hk => ?_
          have hk := (List.mem_range'_1.mp hk).1
          rw [tget, if_neg (by omega)]
        rw [hskip, ih (start + 1) rest hrest hkeysRest, List.countP_cons, tget, if_pos hhead]
      · have habsent : tget ((i, a) :: rest) start = none := by
          rw [tget_eq_none_iff]
          intro b hb
          rcases List.mem_cons.mp hb with heq | hmem
          · exact hhead (Prod.mk.inj heq).1.symm
          · have hlt := hbelow _ hmem
            dsimp only at hlt
            omega
        rw [ih (start + 1) _ hsorted, habsent, hnone]
        · simp
        · intro e he
          rcases List.mem_cons.mp he with rfl | hmem
          · exact ⟨by omega, by omega⟩
          · have hbound := hkeysRest e hmem
            omega

theorem countP_range_tget {p : Option α → Bool} (hnone : p none = false) {n : Nat} {l : List (Nat × α)}
    (hsorted : tsorted l = true) (hkeys : ∀ e ∈ l, e.1 < n) :
    (List.range n).countP (fun k => p (tget l k)) = l.countP fun e => p (some e.2) := by
  rw [List.range_eq_range']
  exact countP_range'_tget p hnone n 0 l hsorted fun e he => ⟨Nat.zero_le _, by simpa using hkeys e he⟩

/-- The keys with no entry are the rest. -/
theorem countP_range_absent {n : Nat} {l : List (Nat × α)} (hsorted : tsorted l = true) (hkeys : ∀ e ∈ l, e.1 < n) :
    (List.range n).countP (fun k => (tget l k).isNone) = n - l.length := by
  have hsome := countP_range_tget (p := Option.isSome) rfl hsorted hkeys
  have hall := List.length_eq_countP_add_countP (fun k => (tget l k).isSome) (l := List.range n)
  have hnot : (List.range n).countP (fun k => (tget l k).isNone)
      = (List.range n).countP (fun k => decide ¬ (tget l k).isSome = true) :=
    List.countP_congr fun k _ => by cases tget l k <;> simp
  simp only [Option.isSome_some, List.countP_true] at hsome
  rw [List.length_range, hsome] at hall
  omega

end

/-- A count of bindings, over the entries of the table. -/
theorem countBindings_eq_countP (slots : List (Nat × Slot)) (p : Binding → Bool) :
    countBindings slots p = slots.countP fun e => match e.2 with | .bound b => p b | .retired => false := by
  unfold countBindings
  induction slots with
  | nil => rfl
  | cons e rest ih => obtain ⟨k, _ | _⟩ := e <;> simp [bindingsOf, List.countP_cons, ih]

theorem retiredCount_eq_countP (slots : List (Nat × Slot)) :
    retiredCount slots = slots.countP fun e => decide (e.2 = .retired) := by
  induction slots with
  | nil => rfl
  | cons e rest ih => obtain ⟨k, _ | _⟩ := e <;> simp [retiredCount, ih]

/-- A bound slot is in one of three states, and a slot with an entry is bound or RETIRED. -/
theorem countBindings_states (slots : List (Nat × Slot)) :
    countBindings slots (fun b => decide (b.state = .filling)) + countBindings slots (fun b => decide (b.state = .held))
      + countBindings slots (fun b => decide (b.state = .draining)) + retiredCount slots = slots.length := by
  induction slots with
  | nil => rfl
  | cons e rest ih =>
    obtain ⟨k, b | _⟩ := e
    · cases hstate : b.state <;> simp [countBindings_cons, retiredCount, hstate] <;> omega
    · simp [countBindings_cons, retiredCount]
      omega

/-! ### STATUS (R178) -/

theorem requestRow_status {f : Frame} (hkind : f.kind = 0x51#8) : requestRow f = .status := by
  rw [requestRow, hkind]
  rfl

/-- The slot is bound, and its binding has the property. -/
def boundWith (p : Binding → Bool) : Option Slot → Bool
  | some (.bound b) => p b
  | some .retired => false
  | none => false

/-- The bindings in a state, over all the slots. -/
theorem countP_range_state {n : Nat} {slots : List (Nat × Slot)} (hsorted : tsorted slots = true)
    (hkeys : ∀ e ∈ slots, e.1 < n) (p : Binding → Bool) :
    (List.range n).countP (fun k => (bindingAt slots k).any p) = countBindings slots p := by
  have hcount : countBindings slots p = slots.countP fun e => boundWith p (some e.2) := by
    rw [countBindings_eq_countP]
    exact List.countP_congr fun e _ => by obtain ⟨k, _ | _⟩ := e <;> rfl
  rw [hcount]
  refine (List.countP_congr fun k _ => ?_).trans (countP_range_tget (p := boundWith p) rfl hsorted hkeys)
  unfold bindingAt
  cases tget slots k with
  | none => rfl
  | some v => cases v <;> rfl

/-- Settles O42: the counts of the reply are counts of entries, and each entry has its key. -/
theorem statusReports : Obligations.StatusReports := by
  intro s f rest hturn hbody
  rw [exec_of_turn (serve := serveStatus) rfl hturn (requestRow_status (kind_of_turn hturn)) rfl
    (by simp [lengthOk, hbody])]
  refine ⟨statusOf s, rfl, fun hmap => ?_, rfl, rfl, rfl, rfl, rfl, rfl, rfl, rfl, rfl, rfl, rfl, rfl, rfl, rfl, rfl, rfl,
    rfl, rfl, rfl, rfl, rfl, rfl, rfl, rfl, rfl, rfl, rfl, rfl, rfl⟩
  obtain ⟨hok, -⟩ := (mapLaw_iff s).mp hmap
  have hsorted := hok.slots_sorted
  have hkeys : ∀ e ∈ s.bt.slots, e.1 < s.bt.n := fun e he =>
    hok.slot_lt ((tget_eq_some _ hsorted e.1 e.2).mpr he)
  have hlength := tsorted_length_le hsorted hkeys
  have hstates := countBindings_states s.bt.slots
  have hstate (st : BindState) := (countP_range_state hsorted hkeys fun b => decide (b.state = st)).symm
  refine ⟨?_, hstate .filling, hstate .held, hstate .draining, ?_, ?_⟩
  · simp only [← Option.isNone_iff_eq_none, Bool.decide_eq_true]
    exact (countP_range_absent hsorted hkeys).symm
  · refine (retiredCount_eq_countP s.bt.slots).trans (Eq.symm ?_)
    have hcount := countP_range_tget (p := fun v => decide (v = some Slot.retired)) rfl hsorted hkeys
    simpa using hcount
  · show s.bt.n - s.bt.slots.length + _ + _ + _ + _ = s.bt.n
    simp only [statusOf]
    omega

/-! ### The frames of an export (R159, R160) -/

/-- Of a rising list, the first `m` are those up to the last of them. -/
theorem mem_take_iff_le_getLast {l : List Nat} (hrising : l.Pairwise (· < ·)) (m : Nat) (h : l.take m ≠ []) (k : Nat) :
    k ∈ l.take m ↔ k ∈ l ∧ k ≤ (l.take m).getLast h := by
  have hsplit := List.take_append_drop m l
  have hparts := hrising
  rw [← hsplit] at hparts
  obtain ⟨htake, -, hcross⟩ := List.pairwise_append.mp hparts
  constructor
  · intro hk
    refine ⟨List.mem_of_mem_take hk, ?_⟩
    rw [← List.dropLast_append_getLast h] at hk htake
    rcases List.mem_append.mp hk with hk | hk
    · exact ((List.pairwise_append.mp htake).2.2 k hk _ (List.mem_singleton_self _)).le
    · exact (List.mem_singleton.mp hk).le
  · rintro ⟨hk, hle⟩
    rw [← hsplit] at hk
    rcases List.mem_append.mp hk with hk | hk
    · exact hk
    · exact absurd hle (hcross _ (List.getLast_mem h) k hk).not_ge

/-- The slots of the frame are the first 16 of those left. -/
theorem exportSlots_eq (s : State) (cursor : Nat) :
    exportSlots s cursor
      = ((s.bt.slots.map Prod.fst).filter fun k => decide (cursor ≤ k) && decide (k < s.bt.n)).take 16 := by
  rw [exportSlots, List.map_take, List.filter_map]
  rfl

/-- The slots left from the cursor on. -/
def leftSlots (s : State) (cursor : Nat) : List Nat :=
  (s.bt.slots.map Prod.fst).filter fun k => decide (cursor ≤ k) && decide (k < s.bt.n)

theorem leftSlots_rising {s : State} (hsorted : tsorted s.bt.slots = true) (cursor : Nat) :
    (leftSlots s cursor).Pairwise (· < ·) :=
  (List.pairwise_map.mpr ((tsorted_iff_pairwise _).mp hsorted)).filter _

theorem mem_leftSlots {s : State} {rows : List (Nat × Row)} (hok : MapOk s.bt.n s.bt.e s.bt.slots rows) {cursor k : Nat} :
    k ∈ leftSlots s cursor ↔ cursor ≤ k ∧ tget s.bt.slots k ≠ none := by
  have hentry : k ∈ s.bt.slots.map Prod.fst ↔ tget s.bt.slots k ≠ none := by
    rw [Ne, tget_eq_none_iff]
    simp
  simp only [leftSlots, List.mem_filter, hentry, Bool.and_eq_true, decide_eq_true_eq]
  constructor
  · rintro ⟨hk, hcursor, -⟩
    exact ⟨hcursor, hk⟩
  · rintro ⟨hcursor, hk⟩
    obtain ⟨v, hv⟩ := Option.ne_none_iff_exists'.mp hk
    exact ⟨hk, hcursor, hok.slot_lt hv⟩

theorem execExportData_granted {s : State} {x : Exporting} (hlane : s.laneFor .exporting)
    (hx : s.mju.exporting = some x) (hcursor : x.cursor < s.bt.n) :
    exec .exportData s = .next (sendExportData s x) := by
  have hgrant := (granted_exporting s).mpr ⟨hlane, by simp [hx]⟩
  simp only [exec, execExportData, hgrant, if_true, hx, hcursor]

theorem execExportEnd_granted {s : State} {x : Exporting} (hlane : s.laneFor .exporting)
    (hx : s.mju.exporting = some x) (hcursor : s.bt.n ≤ x.cursor) :
    exec .exportEnd s = .next (sendExportEnd s x.sent) := by
  have hgrant := (granted_exporting s).mpr ⟨hlane, by simp [hx]⟩
  simp only [exec, execExportEnd, hgrant, if_true, hx, hcursor]

theorem sendExportData_some {s : State} {x : Exporting} (h : exportSlots s x.cursor ≠ []) :
    sendExportData s x = { s with
      mju := { s.mju with
        exporting := some ⟨cursorAfter s.bt.n (exportSlots s x.cursor), x.sent + (exportSlots s x.cursor).length⟩ }
      }.startFrame
      ⟨Kind.exportData, 0#16, recordsBody ((exportSlots s x.cursor).map (persisted s.bt.slots))⟩ := by
  obtain ⟨k, ks, hks⟩ := List.exists_cons_of_ne_nil h
  simp only [sendExportData, hks]

/-- The slots of a data frame are those from the cursor up to the cursor after it. -/
theorem mem_exportSlots {s : State} {rows : List (Nat × Row)} (hok : MapOk s.bt.n s.bt.e s.bt.slots rows) {cursor : Nat}
    (h : exportSlots s cursor ≠ []) (k : Nat) :
    k ∈ exportSlots s cursor ↔
      cursor ≤ k ∧ k < cursorAfter s.bt.n (exportSlots s cursor) ∧ tget s.bt.slots k ≠ none := by
  have heq : exportSlots s cursor = (leftSlots s cursor).take 16 := exportSlots_eq s cursor
  have hrising := leftSlots_rising hok.slots_sorted cursor
  rw [heq] at h ⊢
  unfold cursorAfter
  split
  · next hshort =>
    have hall : (leftSlots s cursor).take 16 = leftSlots s cursor :=
      List.take_of_length_le (by rw [List.length_take] at hshort; omega)
    rw [hall, mem_leftSlots hok]
    constructor
    · rintro ⟨hcursor, hk⟩
      obtain ⟨v, hv⟩ := Option.ne_none_iff_exists'.mp hk
      exact ⟨hcursor, hok.slot_lt hv, hk⟩
    · rintro ⟨hcursor, -, hk⟩
      exact ⟨hcursor, hk⟩
  · rw [mem_take_iff_le_getLast hrising 16 h, mem_leftSlots hok, List.getLastD_eq_getLast?, List.getLast?_eq_some_getLast h,
      Option.getD_some, Nat.lt_succ_iff]
    tauto

/-- Settles O50: the slots left are in order, and the frame takes the first 16 of them. -/
theorem exportFramesAreSent : Obligations.ExportFramesAreSent := by
  intro s x hlane hx hmap
  obtain ⟨hok, -⟩ := (mapLaw_iff s).mp hmap
  have heq : exportSlots s x.cursor = (leftSlots s x.cursor).take 16 := exportSlots_eq s x.cursor
  refine ⟨?_, ?_, ?_⟩
  · intro hcursor
    rw [execExportEnd_granted hlane hx hcursor]
    rfl
  · intro hcursor hnone
    have hleft : leftSlots s x.cursor = [] :=
      List.eq_nil_iff_forall_not_mem.mpr fun k hk => ((mem_leftSlots hok).mp hk).2 (hnone k ((mem_leftSlots hok).mp hk).1)
    have hslots : exportSlots s x.cursor = [] := by rw [heq, hleft]; rfl
    rw [execExportData_granted hlane hx hcursor, sendExportData, hslots]
    rfl
  · rintro hcursor ⟨k, hk, hentry⟩
    have hne : exportSlots s x.cursor ≠ [] := by
      rw [heq]
      intro hnil
      rcases List.take_eq_nil_iff.mp hnil with h | h
      · exact absurd h (by decide)
      · exact List.ne_nil_of_mem ((mem_leftSlots hok).mpr ⟨hk, hentry⟩) h
    refine ⟨_, ⟨cursorAfter s.bt.n (exportSlots s x.cursor), x.sent + (exportSlots s x.cursor).length⟩,
      exportSlots s x.cursor, (execExportData_granted hlane hx hcursor).trans (congrArg _ (sendExportData_some hne)), ?_,
      hne, ?_, rfl, ?_, mem_exportSlots hok hne, fun hshort => if_pos hshort⟩
    · rw [recordsBody, List.map_map]
      rfl
    · rw [heq]
      exact List.length_take_le _ _
    · rw [heq]
      exact (leftSlots_rising hok.slots_sorted _).sublist (List.take_sublist _ _)

end Sys2Proof.Machine
end


section
/-! SUPPORT. The claim on ACCESS: the form of its items, and the intake as they are offered. -/

namespace Sys2Proof.Machine

/-! ### The form of an item (R23, section 10.7) -/

/-- The item at place `i` of an ACCESS body is malformed. -/
def itemMalformed (body : List Byte) (i : Nat) : Prop :=
  fieldAt body (8 * i + 4) 2 = 0 ∨ 256 < fieldAt body (8 * i + 4) 2
    ∨ 1 < fieldAt body (8 * i + 6) 1 ∨ 2 < fieldAt body (8 * i + 7) 1

def accessKindValue : AccessKind → Nat
  | .read => 0
  | .write => 1

def servedValue : Served → Nat
  | .flash => 0
  | .platter => 1
  | .platterWoke => 2

/-- The fields of an item at place `i` of an ACCESS body. -/
structure ItemAt (body : List Byte) (i : Nat) (item : AccessItem) : Prop where
  start : item.start = fieldAt body (8 * i) 4
  count : item.count = fieldAt body (8 * i + 4) 2
  kind : fieldAt body (8 * i + 6) 1 = accessKindValue item.kind
  served : fieldAt body (8 * i + 7) 1 = servedValue item.served

theorem accessKindOf_value (kind : AccessKind) : accessKindOf (accessKindValue kind) = some kind := by
  cases kind <;> rfl

theorem servedOf_value (served : Served) : servedOf (servedValue served) = some served := by
  cases served <;> rfl

theorem accessKindOf_eq_none {v : Nat} (h : 1 < v) : accessKindOf v = none := by
  obtain ⟨k, rfl⟩ := Nat.exists_eq_add_of_le' h
  simp [accessKindOf]

theorem servedOf_eq_none {v : Nat} (h : 2 < v) : servedOf v = none := by
  obtain ⟨k, rfl⟩ := Nat.exists_eq_add_of_le' h
  simp [servedOf]

/-- The record at place `i`. -/
abbrev itemRecord (body : List Byte) (i : Nat) : List Byte := (body.drop (8 * i)).take 8

theorem accessItemOf_malformed {body : List Byte} {i : Nat} (h : itemMalformed body i) :
    accessItemOf (itemRecord body i) = none := by
  unfold accessItemOf
  simp only [fieldAt_record body (8 * i) 8 4 2 (by decide), fieldAt_record body (8 * i) 8 6 1 (by decide),
    fieldAt_record body (8 * i) 8 7 1 (by decide)]
  rcases h with hcount | hcount | hkind | hserved
  · exact if_pos (.inl hcount)
  · exact if_pos (.inr hcount)
  · simp [accessKindOf_eq_none hkind]
  · simp [servedOf_eq_none hserved]

theorem accessItemOf_wellFormed {body : List Byte} {i : Nat} {item : AccessItem} (h : ¬ itemMalformed body i)
    (hitem : ItemAt body i item) : accessItemOf (itemRecord body i) = some item := by
  obtain ⟨hzero, hmany, -, -⟩ := by simpa only [itemMalformed, not_or] using h
  obtain ⟨hstart, hcount, hkind, hserved⟩ := hitem
  unfold accessItemOf
  simp only [fieldAt_record body (8 * i) 8 0 4 (by decide), fieldAt_record body (8 * i) 8 4 2 (by decide),
    fieldAt_record body (8 * i) 8 6 1 (by decide), fieldAt_record body (8 * i) 8 7 1 (by decide), hkind, hserved,
    accessKindOf_value, servedOf_value, Nat.add_zero]
  rw [if_neg (by omega), ← hstart, ← hcount]

theorem accessItemsOf_eq_none {records : List (List Byte)} {r : List Byte} (hr : r ∈ records)
    (hbad : accessItemOf r = none) : accessItemsOf records = none := by
  induction records with
  | nil => exact nomatch hr
  | cons r' rest ih =>
    rcases List.mem_cons.mp hr with rfl | hrest
    · simp [accessItemsOf, hbad]
    · simp [accessItemsOf, ih hrest]

theorem accessItemsOf_eq_some {records : List (List Byte)} {items : List AccessItem}
    (h : records.map accessItemOf = items.map some) : accessItemsOf records = some items := by
  induction records generalizing items with
  | nil =>
    rw [List.map_nil, eq_comm, List.map_eq_nil_iff] at h
    rw [h]
    rfl
  | cons r rest ih =>
    cases items with
    | nil => exact nomatch h
    | cons item items =>
      obtain ⟨hr, hrest⟩ := List.cons.inj h
      simp [accessItemsOf, hr, ih hrest]

/-! ### The intake (R24 to R26) -/

/-- The state after `n` items are discarded in lapse. -/
def State.discarded (s : State) (n : Nat) : State :=
  { s with hu := { s.hu with lapseCount := min 65535 (s.hu.lapseCount + n) } }

/-- In lapse every item is discarded and counted. -/
theorem offerItems_lapsed (items : List AccessItem) :
    ∀ s : State, s.hu.lapse = true → s.hu.lapseCount ≤ 65535 → items.foldl offerItem s = s.discarded items.length := by
  induction items with
  | nil =>
    intro s _ hcount
    rw [State.discarded, List.length_nil, Nat.add_zero, Nat.min_eq_right hcount]
    rfl
  | cons item items ih =>
    intro s hlapse hcount
    have hoffer : offerItem s item = s.discarded 1 := if_pos hlapse
    have hsum : min 65535 (min 65535 (s.hu.lapseCount + 1) + items.length)
        = min 65535 (s.hu.lapseCount + (items.length + 1)) := by omega
    rw [List.foldl_cons, hoffer, ih (s.discarded 1) hlapse (Nat.min_le_left _ _), List.length_cons]
    simp only [State.discarded, hsum]

/-- The state after items are offered out of lapse: as many as there are places join. -/
def State.offered (s : State) (items : List AccessItem) : State :=
  { s with
    hu := { s.hu with
      intake := s.hu.intake ++ items.take (64 - s.hu.intake.length)
      lapse := decide (64 < s.hu.intake.length + items.length)
      lapseCount := min 65535 (s.hu.lapseCount + (s.hu.intake.length + items.length - 64)) }
    cfu := if 64 < s.hu.intake.length + items.length then (s.recordFault .intakeLapse .none).cfu else s.cfu }

theorem offerItem_room {s : State} {item : AccessItem} (hlapse : s.hu.lapse = false) (hroom : s.hu.intake.length < 64) :
    offerItem s item = { s with hu := { s.hu with intake := s.hu.intake ++ [item] } } := by
  rw [offerItem, if_neg (by simp [hlapse]), if_pos hroom]

theorem offerItem_full {s : State} {item : AccessItem} (hlapse : s.hu.lapse = false) (hfull : 64 ≤ s.hu.intake.length) :
    offerItem s item = { s with
      hu := { s.hu with lapse := true, lapseCount := min 65535 (s.hu.lapseCount + 1) }
      cfu := (s.recordFault .intakeLapse .none).cfu } := by
  rw [offerItem, if_neg (by simp [hlapse]), if_neg hfull.not_gt, (recordFault_frame _ _ _).1]
  rw [recordFault_congr (s := s) (u := { s with hu := { s.hu with
    lapse := true, lapseCount := min 65535 (s.hu.lapseCount + 1) } }) rfl rfl]

theorem offerItems_offered (items : List AccessItem) :
    ∀ s : State, s.hu.lapse = false → s.hu.intake.length ≤ 64 → s.hu.lapseCount ≤ 65535 →
      items.foldl offerItem s = s.offered items := by
  induction items with
  | nil =>
    intro s hlapse hlen hcount
    have hnone : s.hu.intake.length + ([] : List AccessItem).length - 64 = 0 := by simp; omega
    have hfits : ¬ 64 < s.hu.intake.length + ([] : List AccessItem).length := by simp; omega
    rw [State.offered, hnone, if_neg hfits, decide_eq_false hfits, List.take_nil, List.append_nil, Nat.add_zero,
      Nat.min_eq_right hcount, ← hlapse]
    rfl
  | cons item items ih =>
    intro s hlapse hlen hcount
    rw [List.foldl_cons]
    rcases hlen.lt_or_eq with hroom | hfull
    · have hjoined : (s.hu.intake ++ [item]).length + items.length = s.hu.intake.length + (item :: items).length := by
        simp; omega
      have htake : s.hu.intake ++ [item] ++ items.take (64 - (s.hu.intake ++ [item]).length)
          = s.hu.intake ++ (item :: items).take (64 - s.hu.intake.length) := by
        obtain ⟨n, hn⟩ : ∃ n, 64 - s.hu.intake.length = n + 1 := ⟨63 - s.hu.intake.length, by omega⟩
        have hn' : 64 - (s.hu.intake ++ [item]).length = n := by simp; omega
        rw [hn, hn', List.take_succ_cons, List.append_assoc]
        rfl
      rw [offerItem_room hlapse hroom, ih { s with hu := { s.hu with intake := s.hu.intake ++ [item] } } hlapse
        (by simpa using hroom) hcount]
      simp only [State.offered]
      simp only [hjoined, htake]
      rw [recordFault_congr (s := s) (u := { s with hu := { s.hu with intake := s.hu.intake ++ [item] } }) rfl rfl]
    · have hover : 64 < s.hu.intake.length + (item :: items).length := by simp; omega
      have hsum : min 65535 (min 65535 (s.hu.lapseCount + 1) + items.length)
          = min 65535 (s.hu.lapseCount + (s.hu.intake.length + (item :: items).length - 64)) := by simp; omega
      rw [offerItem_full hlapse hfull.ge, offerItems_lapsed _ { s with
        hu := { s.hu with lapse := true, lapseCount := min 65535 (s.hu.lapseCount + 1) }
        cfu := (s.recordFault .intakeLapse .none).cfu } rfl (Nat.min_le_left _ _)]
      simp only [State.discarded, State.offered, hsum, decide_eq_true hover, if_pos hover]
      rw [hfull, Nat.sub_self, List.take_zero, List.append_nil]

/-! ### ACCESS (R22) -/

theorem takeAccess_badLength {f : Frame} {s : State}
    (h : f.body.length < 8 ∨ 64 < f.body.length ∨ f.body.length % 8 ≠ 0) :
    takeAccess f s = s.recordFault .linkForm .none :=
  if_neg (by omega)

theorem takeAccess_inactive {f : Frame} {s : State} (hmin : 8 ≤ f.body.length) (hmax : f.body.length ≤ 64)
    (hmod : f.body.length % 8 = 0) (hlife : s.mju.life ≠ .active) : takeAccess f s = s :=
  (if_pos ⟨hmin, hmax, hmod⟩).trans (if_neg (by rwa [active_iff]))

theorem takeAccess_active {f : Frame} {s : State} (hmin : 8 ≤ f.body.length) (hmax : f.body.length ≤ 64)
    (hmod : f.body.length % 8 = 0) (hlife : s.mju.life = .active) :
    (∀ items, accessItemsOf (recordsOf 8 (f.body.length / 8) f.body) = some items →
      takeAccess f s = items.foldl offerItem s)
    ∧ (accessItemsOf (recordsOf 8 (f.body.length / 8) f.body) = none →
      takeAccess f s = s.recordFault .linkForm .none) := by
  rw [takeAccess, if_pos ⟨hmin, hmax, hmod⟩, if_pos ((active_iff s).mpr hlife)]
  exact ⟨fun items h => by rw [h], fun h => by rw [h]⟩

/-- Settles O22: the body's length, the lifecycle, the form of the items, and then the items one after another. -/
theorem accessOffersItems : Obligations.AccessOffersItems := by
  intro s bytes f more malformed stands hevent hkind hmalformed hstands
  have hexec : exec (.access bytes) s = .next (takeAccess f (s.withRx more)) :=
    congrArg Host.Outcome.next (receiveNotice_frame hevent hkind)
  rw [hexec]
  refine ⟨?_, ?_, ?_, ?_⟩
  · intro hlen
    exact congrArg _ ((takeAccess_badLength hlen).trans (recordFault_withRx _ _ _ _))
  · intro hmin hmax hmod hlife
    exact congrArg _ (takeAccess_inactive hmin hmax hmod hlife)
  · rintro hmin hmax hmod hlife ⟨i, hi, hbad⟩
    have hnone : accessItemsOf (recordsOf 8 (f.body.length / 8) f.body) = none := by
      rw [recordsOf_eq]
      exact accessItemsOf_eq_none (List.mem_map.mpr ⟨i, List.mem_range.mpr (by omega), rfl⟩)
        (accessItemOf_malformed ((hmalformed i).mp hbad))
    exact congrArg _ (((takeAccess_active (s := s.withRx more) hmin hmax hmod hlife).2 hnone).trans (recordFault_withRx _ _ _ _))
  · intro items hmin hmax hmod hlife hgood hlen hitems hcount
    have hsome : accessItemsOf (recordsOf 8 (f.body.length / 8) f.body) = some items := by
      refine accessItemsOf_eq_some ?_
      rw [recordsOf_eq, List.map_map]
      refine List.ext_getElem (by simp; omega) fun i hi hi' => ?_
      have hi' : i < items.length := by simpa using hi'
      obtain ⟨hstart, hcount, hkind, hserved⟩ := (hstands i items[i]).mp (hitems i _ (List.getElem?_eq_getElem hi'))
      have hitem : ItemAt f.body i items[i] := by
        refine ⟨hstart, hcount, hkind.trans ?_, hserved.trans ?_⟩
        · cases items[i].kind <;> rfl
        · cases items[i].served <;> rfl
      simpa using accessItemOf_wellFormed (mt (hmalformed i).mpr (hgood i (by omega))) hitem
    rw [(takeAccess_active (s := s.withRx more) hmin hmax hmod hlife).1 items hsome]
    constructor
    · intro hlapse hintake
      rw [offerItems_offered items (s.withRx more) hlapse hintake hcount, State.offered,
        recordFault_congr (s := s) (u := s.withRx more) rfl rfl]
      rfl
    · intro hlapse
      rw [offerItems_lapsed items (s.withRx more) hlapse hcount]
      rfl

end Sys2Proof.Machine
end


section
/-! SUPPORT. The claim on when a request is taken and what it is refused for. -/

namespace Sys2Proof.Machine

/-! ### The rows of the requests -/

/-- The command of a row is the taking of its frames. -/
theorem exec_command (row : RequestRow) : ∃ serve, ∀ s, exec row.command s = .next (takeRequest row serve s) := by
  cases row <;> exact ⟨_, fun _ => rfl⟩

theorem replySent_intake (s : State) : s.replySent.lif.intake = s.lif.intake := by
  rcases replySent_cases s with h | ⟨-, h⟩ <;> simp [h]

theorem replySent_sync (s : State) : s.replySent.mju = s.mju ∧ s.replySent.lif.reply = s.lif.reply := by
  rcases replySent_cases s with h | ⟨-, h⟩ <;> simp [h]

/-- With a SYNC or a reply waiting, or the intake empty, no request is taken (R172). -/
theorem takeRequest_notFree {s : State} (h : s.mju.sync ≠ none ∨ s.lif.reply ≠ none ∨ s.lif.intake = [])
    (row : RequestRow) (serve : Frame → State → State) : takeRequest row serve s = s := by
  rcases takeRequest_cases row serve s with heq | ⟨u, f, rest, rfl, hfree, hintake, -⟩
  · exact heq
  · obtain ⟨hsync, hreply, -, -⟩ := (handlerFree_iff _).mp hfree
    obtain ⟨hmju, hreplySent⟩ := replySent_sync s
    rw [hmju] at hsync
    rw [hreplySent] at hreply
    rw [replySent_intake] at hintake
    rcases h with h | h | h
    · exact absurd hsync h
    · exact absurd hreply h
    · exact nomatch h.symm.trans hintake

/-- A frame is taken by its own row alone. -/
theorem takeRequest_otherRow {s : State} {f : Frame} {rest : List Frame} {row : RequestRow}
    (hintake : s.lif.intake = f :: rest) (hrow : requestRow f ≠ row) (serve : Frame → State → State) :
    takeRequest row serve s = s := by
  rcases takeRequest_cases row serve s with heq | ⟨u, g, rest', rfl, -, hintake', hrow', -⟩
  · exact heq
  · rw [replySent_intake, hintake] at hintake'
    obtain ⟨rfl, -⟩ := List.cons.inj hintake'
    exact absurd hrow' hrow

/-- The state at the last byte of a REPLY, where no other reply waits. -/
theorem finishFrame_of_noReply {s : State} (hreply : s.lif.reply = none) :
    s.finishFrame = { s with lif := { s.lif with
      upLane := none
      credit := if s.lif.orderFrames ≠ [] ∨ s.lif.advice ≠ none ∨ s.lif.deltaAsking = true ∨ s.mju.exporting ≠ none
        then s.lif.credit else 0 } } := by
  have hattn : attn { s with lif := { s.lif with upLane := none } } = true ↔
      s.lif.orderFrames ≠ [] ∨ s.lif.advice ≠ none ∨ s.lif.deltaAsking = true ∨ s.mju.exporting ≠ none := by
    simp [attn, hreply, Option.isSome_iff_ne_none, or_assoc]
  rw [finishFrame_eq]
  simp only [hattn]

/-! ### The checks of R173 -/

theorem phaseRefusal_open (f : Frame) (life : Lifecycle) (h : f.kind ∈ [0x10#8, 0x11#8]) :
    phaseRefusal (requestRow f) life = phaseRefusal .attach life := by
  simp only [List.mem_cons, List.not_mem_nil, or_false] at h
  rcases h with h | h
  · rw [requestRow_attach h]
  · rw [requestRow_importBegin h]; rfl

theorem requestRow_importPut {f : Frame} (hkind : f.kind = 0x12#8) : requestRow f = .importPut := by
  rw [requestRow, hkind]
  rfl

theorem requestRow_lookup {f : Frame} (hkind : f.kind = 0x20#8) : requestRow f = .lookup := by
  rw [requestRow, hkind]
  rfl

theorem requestRow_planWrite {f : Frame} (hkind : f.kind = 0x21#8) : requestRow f = .planWrite := by
  rw [requestRow, hkind]
  rfl

theorem requestRow_discard {f : Frame} (hkind : f.kind = 0x22#8) : requestRow f = .discard := by
  rw [requestRow, hkind]
  rfl

theorem requestRow_pin {f : Frame} (hkind : f.kind = 0x30#8) : requestRow f = .pin := by
  rw [requestRow, hkind]
  rfl

theorem requestRow_unpin {f : Frame} (hkind : f.kind = 0x31#8) : requestRow f = unpinRow f.body := by
  rw [requestRow, hkind]
  rfl

/-- The two rows of UNPIN pass the same checks. -/
theorem unpinRow_checks (body : List Byte) (life : Lifecycle) (n : Nat) :
    phaseRefusal (unpinRow body) life = phaseRefusal .unpin life ∧ lengthOk (unpinRow body) n = (n == 6) := by
  unfold unpinRow
  split <;> exact ⟨rfl, rfl⟩

/-- The two rows of RESET pass the same checks. -/
theorem resetRow_checks (body : List Byte) (life : Lifecycle) (n : Nat) :
    phaseRefusal (resetRow body) life = none ∧ lengthOk (resetRow body) n = (n == 1) := by
  unfold resetRow
  split <;> exact ⟨rfl, rfl⟩

theorem phaseRefusal_import (f : Frame) (life : Lifecycle) (h : f.kind ∈ [0x12#8, 0x13#8]) :
    phaseRefusal (requestRow f) life = phaseRefusal .importPut life := by
  simp only [List.mem_cons, List.not_mem_nil, or_false] at h
  rcases h with h | h
  · rw [requestRow_importPut h]
  · rw [requestRow_importEnd h]; rfl

theorem phaseRefusal_served (f : Frame) (life : Lifecycle)
    (h : f.kind ∈ [0x14#8, 0x15#8, 0x20#8, 0x21#8, 0x22#8, 0x30#8, 0x31#8, 0x40#8, 0x41#8, 0x42#8]) :
    phaseRefusal (requestRow f) life = phaseRefusal .exportMap life := by
  simp only [List.mem_cons, List.not_mem_nil, or_false] at h
  rcases h with h | h | h | h | h | h | h | h | h | h
  · rw [requestRow_exportMap h]
  · rw [requestRow_sync h]; rfl
  · rw [requestRow_lookup h]; rfl
  · rw [requestRow_planWrite h]; rfl
  · rw [requestRow_discard h]; rfl
  · rw [requestRow_pin h]; rfl
  · rw [requestRow_unpin h, (unpinRow_checks _ _ 0).1]; rfl
  · rw [requestRow_complete h]; rfl
  · rw [requestRow_queueControl h, (queueControlRow_checks _ _ 0).1]; rfl
  · rw [requestRow_drainAll h]; rfl

theorem phaseRefusal_always (f : Frame) (life : Lifecycle)
    (h : f.kind ∈ [0x50#8, 0x51#8, 0x52#8, 0x53#8, 0x54#8, 0x5F#8]) : phaseRefusal (requestRow f) life = none := by
  simp only [List.mem_cons, List.not_mem_nil, or_false] at h
  rcases h with h | h | h | h | h | h
  · rw [requestRow_policy h]; rfl
  · rw [requestRow_status h]; rfl
  · rw [requestRow_condition h]; rfl
  · rw [requestRow_faults h]; rfl
  · rw [requestRow_faultsClear h]; rfl
  · rw [requestRow_reset h, (resetRow_checks _ _ 0).1]

/-- The kinds of the requests (section 10.3). -/
def requestKinds : List Byte :=
  [0x10#8, 0x11#8, 0x12#8, 0x13#8, 0x14#8, 0x15#8, 0x20#8, 0x21#8, 0x22#8, 0x30#8, 0x31#8, 0x40#8, 0x41#8, 0x42#8, 0x50#8,
    0x51#8, 0x52#8, 0x53#8, 0x54#8, 0x5F#8]

theorem requestRow_unknownKind {f : Frame} (h : f.kind ∉ requestKinds) : requestRow f = .unknownKind := by
  simp only [requestKinds, List.mem_cons, List.not_mem_nil, or_false, not_or] at h
  obtain ⟨h1, h2, h3, h4, h5, h6, h7, h8, h9, h10, h11, h12, h13, h14, h15, h16, h17, h18, h19, h20⟩ := h
  simp only [requestRow, Kind.attach, Kind.importBegin, Kind.importPut, Kind.importEnd, Kind.exportMap, Kind.sync,
    Kind.lookup, Kind.planWrite, Kind.discard, Kind.pin, Kind.unpin, Kind.complete, Kind.queueControl, Kind.drainAll,
    Kind.policy, Kind.status, Kind.condition, Kind.faults, Kind.faultsClear, Kind.reset, h1, h2, h3, h4, h5, h6, h7, h8, h9,
    h10, h11, h12, h13, h14, h15, h16, h17, h18, h19, h20, if_false]

theorem lengthOk_importPut (n : Nat) :
    lengthOk .importPut n = true ↔ ∃ m, 1 ≤ m ∧ m ≤ 16 ∧ n = 26 * m := by
  simp only [lengthOk, Bool.and_eq_true, decide_eq_true_eq, beq_iff_eq]
  constructor
  · rintro ⟨⟨hmin, hmax⟩, hmod⟩
    exact ⟨n / 26, by omega, by omega, by omega⟩
  · rintro ⟨m, hmin, hmax, rfl⟩
    omega

theorem lengthOk_policy (n : Nat) : lengthOk .policy n = true ↔ ∃ m, m ≤ 16 ∧ n = 5 * m := by
  simp only [lengthOk, Bool.and_eq_true, decide_eq_true_eq, beq_iff_eq]
  constructor
  · rintro ⟨hmax, hmod⟩
    exact ⟨n / 5, by omega, by omega⟩
  · rintro ⟨m, hmax, rfl⟩
    omega

/-- The lengths of section 10.7, kind by kind. -/
def lengthRight (kind : Byte) (n : Nat) : Prop :=
  (kind ∈ [0x10#8, 0x11#8] → n = 7)
  ∧ (kind = 0x12#8 → ∃ m, 1 ≤ m ∧ m ≤ 16 ∧ n = 26 * m)
  ∧ (kind = 0x13#8 → n = 4)
  ∧ (kind ∈ [0x14#8, 0x15#8, 0x42#8, 0x51#8, 0x52#8, 0x53#8, 0x54#8] → n = 0)
  ∧ (kind ∈ [0x20#8, 0x21#8, 0x22#8, 0x30#8, 0x31#8] → n = 6)
  ∧ (kind = 0x40#8 → n = 11)
  ∧ (kind = 0x41#8 → n = 2)
  ∧ (kind = 0x50#8 → ∃ m, m ≤ 16 ∧ n = 5 * m)
  ∧ (kind = 0x5F#8 → n = 1)

theorem lengthOk_iff (f : Frame) (n : Nat) : lengthOk (requestRow f) n = true ↔ lengthRight f.kind n := by
  by_cases hkind : f.kind ∈ requestKinds
  · simp only [requestKinds, List.mem_cons, List.not_mem_nil, or_false] at hkind
    rcases hkind with h | h | h | h | h | h | h | h | h | h | h | h | h | h | h | h | h | h | h | h
    · rw [requestRow_attach h, h]; simp [lengthRight, lengthOk]
    · rw [requestRow_importBegin h, h]; simp [lengthRight, lengthOk]
    · rw [requestRow_importPut h, h, lengthOk_importPut]; simp [lengthRight]
    · rw [requestRow_importEnd h, h]; simp [lengthRight, lengthOk]
    · rw [requestRow_exportMap h, h]; simp [lengthRight, lengthOk]
    · rw [requestRow_sync h, h]; simp [lengthRight, lengthOk]
    · rw [requestRow_lookup h, h]; simp [lengthRight, lengthOk]
    · rw [requestRow_planWrite h, h]; simp [lengthRight, lengthOk]
    · rw [requestRow_discard h, h]; simp [lengthRight, lengthOk]
    · rw [requestRow_pin h, h]; simp [lengthRight, lengthOk]
    · rw [requestRow_unpin h, (unpinRow_checks _ .active n).2, h]; simp [lengthRight]
    · rw [requestRow_complete h, h]; simp [lengthRight, lengthOk]
    · rw [requestRow_queueControl h, (queueControlRow_checks _ .active n).2, h]; simp [lengthRight]
    · rw [requestRow_drainAll h, h]; simp [lengthRight, lengthOk]
    · rw [requestRow_policy h, h, lengthOk_policy]; simp [lengthRight]
    · rw [requestRow_status h, h]; simp [lengthRight, lengthOk]
    · rw [requestRow_condition h, h]; simp [lengthRight, lengthOk]
    · rw [requestRow_faults h, h]; simp [lengthRight, lengthOk]
    · rw [requestRow_faultsClear h, h]; simp [lengthRight, lengthOk]
    · rw [requestRow_reset h, (resetRow_checks _ .active n).2, h]; simp [lengthRight]
  · rw [requestRow_unknownKind hkind]
    simp only [requestKinds, List.mem_cons, List.not_mem_nil, or_false, not_or] at hkind
    refine ⟨fun _ => ?_, fun _ => rfl⟩
    simp only [lengthRight, List.mem_cons, List.not_mem_nil, or_false]
    refine ⟨?_, ?_, ?_, ?_, ?_, ?_, ?_, ?_, ?_⟩ <;> intro h <;> exfalso <;> tauto

/-! ### The refusals of a range of blocks (R73) -/

/-- A request over a block range is served by its own serve behind the check of the range. -/
theorem exec_range {f : Frame} (hkind : f.kind ∈ [0x20#8, 0x21#8, 0x22#8]) :
    ∃ serve, ∀ s, exec (requestRow f).command s = .next (takeRequest (requestRow f) (serveRange serve) s) := by
  simp only [List.mem_cons, List.not_mem_nil, or_false] at hkind
  rcases hkind with h | h | h
  · rw [requestRow_lookup h]; exact ⟨_, fun _ => rfl⟩
  · rw [requestRow_planWrite h]; exact ⟨_, fun _ => rfl⟩
  · rw [requestRow_discard h]; exact ⟨_, fun _ => rfl⟩

theorem serveRange_empty {serve : Nat → Nat → Frame → State → State} {f : Frame} {s : State}
    (h : fieldAt f.body 4 2 = 0) : serveRange serve f s = s.refer f .range .outOfRange 0 := by
  simp [serveRange, outOfRange, rangeCount, h]

theorem serveRange_beyond {serve : Nat → Nat → Frame → State → State} {f : Frame} {s : State}
    (hpos : 0 < fieldAt f.body 4 2) (hbeyond : 64 * s.bt.e < fieldAt f.body 0 4 + fieldAt f.body 4 2) :
    serveRange serve f s = s.refer f .range .outOfRange
      (min 65535 (fieldAt f.body 0 4 + fieldAt f.body 4 2 - max (fieldAt f.body 0 4) (64 * s.bt.e))) := by
  have hrange : outOfRange s.bt.e (rangeStart f) (rangeCount f) = true := by
    refine Bool.or_eq_true_iff.2 (.inr (decide_eq_true ?_))
    rwa [Nat.mul_comm]
  rw [serveRange, if_pos hrange, if_neg (show ¬ rangeCount f = 0 from hpos.ne'), blocksBeyond, Nat.mul_comm s.bt.e]
  rfl

/-! ### The refusals of PIN and UNPIN (R140) -/

theorem PinUnit.alert_setAlert_same (pu : PinUnit) {owner : Nat} (h : owner ≤ 3) (a : Option AlertCode) :
    (pu.setAlert owner a).alert owner = a := by
  interval_cases owner <;> rfl

theorem PinUnit.alert_setAlert_ne (pu : PinUnit) {owner o : Nat} (h : o ≠ owner) (a : Option AlertCode) :
    (pu.setAlert owner a).alert o = pu.alert o := by
  by_cases howner : 3 < owner
  · obtain ⟨n, rfl⟩ := Nat.exists_eq_add_of_lt howner
    rw [show 3 + n + 1 = n + 4 by omega]
    rfl
  · interval_cases owner <;> unfold PinUnit.alert <;> split <;> simp_all [PinUnit.setAlert]

theorem PinUnit.setAlert_scansOwed (pu : PinUnit) (owner : Nat) (a : Option AlertCode) :
    (pu.setAlert owner a).scansOwed = pu.scansOwed := by
  unfold PinUnit.setAlert
  split <;> rfl

section
variable {serve : Frame → State → State} {f : Frame} {s : State}

theorem checkOwner_badOwner (h : 3 < fieldAt f.body 0 1) : checkOwner serve f s = s.refer f .form .badField 0 :=
  if_pos h

theorem checkOwner_badCount (howner : fieldAt f.body 0 1 ≤ 3) (h : 64 < fieldAt f.body 5 1) :
    checkOwner serve f s = s.refer f .form .badField 5 :=
  (if_neg howner.not_gt).trans (if_pos h)

theorem checkOwner_alerted (howner : fieldAt f.body 0 1 ≤ 3) (hcount : fieldAt f.body 5 1 ≤ 64) {a : AlertCode}
    (ha : s.pu.alert (fieldAt f.body 0 1) = some a) :
    checkOwner serve f s = { s with pu := s.pu.setAlert (fieldAt f.body 0 1) none }.refer f .lost (alertCondition a)
      (fieldAt f.body 0 1) := by
  rw [checkOwner, if_neg (show ¬ 3 < pinOwner f from howner.not_gt), if_neg (show ¬ 64 < pinCount f from hcount.not_gt)]
  simp only [pinOwner, ha]

theorem checkOwner_clear (howner : fieldAt f.body 0 1 ≤ 3) (hcount : fieldAt f.body 5 1 ≤ 64)
    (ha : s.pu.alert (fieldAt f.body 0 1) = none) : checkOwner serve f s = serve f s := by
  rw [checkOwner, if_neg (show ¬ 3 < pinOwner f from howner.not_gt), if_neg (show ¬ 64 < pinCount f from hcount.not_gt)]
  simp only [pinOwner, ha]

end

/-- PIN and both rows of UNPIN are served behind the checks of the owner and the count. -/
theorem exec_owner {f : Frame} (hkind : f.kind ∈ [0x30#8, 0x31#8]) :
    ∃ serve, ∀ s, exec (requestRow f).command s = .next (takeRequest (requestRow f) (checkOwner serve) s) := by
  simp only [List.mem_cons, List.not_mem_nil, or_false] at hkind
  rcases hkind with h | h
  · rw [requestRow_pin h]; exact ⟨_, fun _ => rfl⟩
  · rw [requestRow_unpin h]
    unfold unpinRow
    split
    · exact ⟨_, fun _ => rfl⟩
    · exact ⟨_, fun _ => rfl⟩

theorem servePin_none {f : Frame} {s : State} (h : fieldAt f.body 5 1 = 0) :
    servePin f s = s.refer f .range .outOfRange 0 :=
  if_pos h

theorem servePin_beyond {f : Frame} {s : State} (hpos : 0 < fieldAt f.body 5 1)
    (h : s.bt.e < fieldAt f.body 1 4 + fieldAt f.body 5 1) :
    servePin f s = s.refer f .range .outOfRange
      (min 65535 (fieldAt f.body 1 4 + fieldAt f.body 5 1 - max (fieldAt f.body 1 4) s.bt.e)) :=
  (if_neg hpos.ne').trans (if_pos h)

theorem serveUnpin_beyond {f : Frame} {s : State} (h : s.bt.e < fieldAt f.body 1 4 + fieldAt f.body 5 1) :
    serveUnpin f s = s.refer f .range .outOfRange
      (min 65535 (fieldAt f.body 1 4 + fieldAt f.body 5 1 - max (fieldAt f.body 1 4) s.bt.e)) :=
  if_pos h

/-- What the refusal of an alerted owner leaves (R142). -/
theorem alerted_refusal (s : State) (rest : List Frame) (f : Frame) {owner : Nat} (howner : owner ≤ 3) (a : AlertCode) :
    ({ s with pu := s.pu.setAlert owner none }.refused rest f .lost (alertCondition a) owner).pu.alert owner = none
    ∧ (∀ o, o ≠ owner →
      ({ s with pu := s.pu.setAlert owner none }.refused rest f .lost (alertCondition a) owner).pu.alert o = s.pu.alert o)
    ∧ ({ s with pu := s.pu.setAlert owner none }.refused rest f .lost (alertCondition a) owner).pu.scansOwed
      = s.pu.scansOwed :=
  ⟨s.pu.alert_setAlert_same howner none, fun _ ho => s.pu.alert_setAlert_ne ho none, s.pu.setAlert_scansOwed owner none⟩

/-- Settles O24: the handler's turn first, then the lifecycle, the length, and the fields in the order of the serves. -/
theorem requestsRefused : Obligations.RequestsRefused := by
  refine ⟨?_, ?_, ?_, ?_, ?_, ?_, ?_, fun f => lengthOk_iff f f.body.length, ?_, ?_, ?_⟩
  · intro s row h
    obtain ⟨serve, hexec⟩ := exec_command row
    rw [hexec, takeRequest_notFree h]
  · intro s f rest row hintake hrow
    obtain ⟨serve, hexec⟩ := exec_command row
    rw [hexec, takeRequest_otherRow hintake hrow]
  · intro s f g rest hintake hsync hreply hlane hkind hfirst
    obtain ⟨serve, hexec⟩ := exec_command (requestRow f)
    have hsending : sendingReply s = true := by simp [sendingReply, hlane, hkind, Kind.reply]
    have horder : orderStarts s.finishFrame = false := by
      rw [finishFrame_of_noReply hreply]
      rcases hfirst with h | h <;> simp [orderStarts, h]
    rw [← finishFrame_of_noReply hreply, hexec, hexec, takeRequest_behindReply _ _ _ f rest hsync hreply hsending horder
      hintake rfl]
  · intro s hlane hcredit hframes row
    obtain ⟨serve, hexec⟩ := exec_command row
    have hstarts : s.lif.upLane = none ∨ sendingReply s = true := by
      rcases hlane with h | ⟨g, hg, hkind⟩
      · exact .inl h
      · exact .inr (by simp [sendingReply, hg, hkind, Kind.reply])
    rw [hexec, takeRequest_orderFirst _ _ _ hstarts hcredit hframes]
  · intro s f rest code hturn hphase
    obtain ⟨serve, hexec⟩ := exec_command (requestRow f)
    rw [hexec, takeRequest_phaseRefused_of_turn serve hturn rfl hphase]
  · intro s f rest hturn hphase hlen
    obtain ⟨serve, hexec⟩ := exec_command (requestRow f)
    rw [hexec, takeRequest_badLength_of_turn serve hturn rfl hphase hlen]
  · intro f life
    refine ⟨fun h => ?_, fun h => ?_, fun h => ?_, phaseRefusal_always f life⟩
    · rw [phaseRefusal_open f life h]
      cases life <;> rfl
    · rw [phaseRefusal_import f life h]
      cases life <;> rfl
    · rw [phaseRefusal_served f life h]
      cases life <;> rfl
  · rintro s f rest _ _ hturn hlife hkind hlen rfl rfl
    obtain ⟨serve, hexec⟩ := exec_range hkind
    have hphase : phaseRefusal (requestRow f) s.mju.life = none := by
      rw [phaseRefusal_served f _ (by simp only [List.mem_cons] at hkind ⊢; tauto), hlife]
      rfl
    have hlength : lengthOk (requestRow f) f.body.length = true := by
      obtain ⟨serve, -⟩ := exec_range hkind
      simp only [List.mem_cons, List.not_mem_nil, or_false] at hkind
      rw [hlen]
      rcases hkind with h | h | h
      · rw [requestRow_lookup h]; rfl
      · rw [requestRow_planWrite h]; rfl
      · rw [requestRow_discard h]; rfl
    rw [exec_of_turn (hexec s) hturn rfl hphase hlength]
    exact ⟨fun hzero => congrArg _ (serveRange_empty hzero),
      fun hpos hbeyond => congrArg _ (serveRange_beyond (s := s.taken rest) hpos hbeyond)⟩
  · rintro s f rest _ _ _ hturn hlife hkind hlen rfl rfl rfl
    obtain ⟨serve, hexec⟩ := exec_owner hkind
    have hphase : phaseRefusal (requestRow f) s.mju.life = none := by
      rw [phaseRefusal_served f _ (by simp only [List.mem_cons] at hkind ⊢; tauto), hlife]
      rfl
    have hlength : lengthOk (requestRow f) f.body.length = true := by
      simp only [List.mem_cons, List.not_mem_nil, or_false] at hkind
      rcases hkind with h | h
      · rw [requestRow_pin h, hlen]; rfl
      · rw [requestRow_unpin h, (unpinRow_checks _ .active _).2, hlen]; rfl
    refine ⟨?_, ?_, ?_, ?_⟩
    · intro howner
      rw [exec_of_turn (hexec s) hturn rfl hphase hlength, checkOwner_badOwner howner, refer_taken]
    · intro howner hcount
      rw [exec_of_turn (hexec s) hturn rfl hphase hlength, checkOwner_badCount howner hcount, refer_taken]
    · intro a howner hcount ha
      obtain ⟨hcleared, hothers, hscans⟩ := alerted_refusal s rest f howner a
      rw [exec_of_turn (hexec s) hturn rfl hphase hlength, checkOwner_alerted (s := s.taken rest) howner hcount ha]
      refine ⟨_, rfl, hcleared, hothers, hscans, ?_⟩
      cases a <;> rfl
    · intro howner hcount ha
      constructor
      · intro hpin hzero
        have hexecPin : exec (requestRow f).command s = .next (takeRequest .pin (checkOwner servePin) s) := by
          rw [requestRow_pin hpin]; rfl
        rw [requestRow_pin hpin] at hphase hlength
        rw [exec_of_turn hexecPin hturn (requestRow_pin hpin) hphase hlength,
          checkOwner_clear (s := s.taken rest) howner hcount ha, servePin_none hzero, refer_taken]
      · intro hpos hbeyond
        simp only [List.mem_cons, List.not_mem_nil, or_false] at hkind
        rcases hkind with hpin | hunpin
        · have hexecPin : exec (requestRow f).command s = .next (takeRequest .pin (checkOwner servePin) s) := by
            rw [requestRow_pin hpin]; rfl
          rw [requestRow_pin hpin] at hphase hlength
          rw [exec_of_turn hexecPin hturn (requestRow_pin hpin) hphase hlength,
            checkOwner_clear (s := s.taken rest) howner hcount ha, servePin_beyond (s := s.taken rest) hpos hbeyond,
            refer_taken]
          rfl
        · have hrow : requestRow f = .unpin := by
            rw [requestRow_unpin hunpin]
            exact if_neg (by omega)
          have hexecUnpin : exec (requestRow f).command s = .next (takeRequest .unpin (checkOwner serveUnpin) s) := by
            rw [hrow]; rfl
          rw [hrow] at hphase hlength
          rw [exec_of_turn hexecUnpin hturn hrow hphase hlength, checkOwner_clear (s := s.taken rest) howner hcount ha,
            serveUnpin_beyond (s := s.taken rest) hbeyond, refer_taken]
          rfl
  · intro s f rest hturn hkind
    rw [exec_of_turn (i := .unknownKindRequest) (serve := serveUnknownKind) rfl hturn (requestRow_unknownKind hkind) rfl rfl]
    rfl

end Sys2Proof.Machine
end


section
/-! SUPPORT. How the delta log changes over every command, and the claim on DELTA. -/

namespace Sys2Proof.Machine

/-! ### How a log grows (R154) -/

theorem grownLog_appends (now : Time) (before after : List (Nat × Slot)) (log : List LogEntry) (ks : List Nat) :
    ∃ made, grownLog now before after log ks = log ++ made ∧ (made.map LogEntry.slot).Nodup
      ∧ ∀ e ∈ made, e.time = now ∧ inLog log e.slot = false := by
  induction ks generalizing log with
  | nil => exact ⟨[], by simp [grownLog]⟩
  | cons k ks ih =>
    obtain ⟨made, heq, hnodup, hmade⟩ := ih (addEntry now before after log k)
    rw [show grownLog now before after log (k :: ks) = grownLog now before after (addEntry now before after log k) ks
      from rfl, heq]
    rw [addEntry] at hmade ⊢
    split at hmade
    · next hadd =>
      rw [if_pos hadd]
      have hnot : inLog log k = false := by simpa using (Bool.and_eq_true_iff.mp hadd).2
      have hfresh : ∀ e ∈ made, e.time = now ∧ inLog log e.slot = false ∧ e.slot ≠ k := fun e he => by
        obtain ⟨htime, hin⟩ := hmade e he
        rw [inLog_append, Bool.or_eq_false_iff] at hin
        exact ⟨htime, hin.1, fun heq => by simp [heq] at hin⟩
      refine ⟨⟨k, now⟩ :: made, by simp, List.nodup_cons.mpr ⟨fun hk => ?_, hnodup⟩, fun e he => ?_⟩
      · obtain ⟨e, he, hslot⟩ := List.mem_map.mp hk
        exact (hfresh e he).2.2 hslot
      · rcases List.mem_cons.mp he with rfl | he
        · exact ⟨rfl, hnot⟩
        · exact ⟨(hfresh e he).1, (hfresh e he).2.1⟩
    · next hadd =>
      rw [if_neg hadd]
      exact ⟨made, rfl, hnodup, hmade⟩

/-- The MJU asks for the lane exactly while a condition of R157 holds. -/
def State.AsksRight (t : State) : Prop := t.lif.deltaAsking = deltaWanted t.seconds t.policy t.mju

/-- Entries of now join the log behind those that stand, and the MJU makes its test when they do. -/
structure LogGrows (s t : State) : Prop where
  made : ∃ made, t.mju.log = s.mju.log ++ made ∧ (made.map LogEntry.slot).Nodup
    ∧ ∀ e ∈ made, e.time = s.seconds ∧ inLog s.mju.log e.slot = false
  asks : t.mju.log ≠ s.mju.log → t.AsksRight

namespace LogGrows
variable {s t u : State}

theorem of_eq (h : t.mju.log = s.mju.log) : LogGrows s t := ⟨⟨[], by simp [h]⟩, fun hne => absurd h hne⟩

/-- What follows a change of the log and leaves the log and the request for the lane. -/
theorem settled (h : LogGrows s t) (hsec : u.seconds = t.seconds) (hpolicy : u.policy = t.policy) (hmju : u.mju = t.mju)
    (hasking : u.lif.deltaAsking = t.lif.deltaAsking) : LogGrows s u := by
  obtain ⟨hmade, hasks⟩ := h
  refine ⟨hmju ▸ hmade, fun hne => ?_⟩
  rw [State.AsksRight, hasking, hsec, hpolicy, hmju]
  exact hasks (hmju ▸ hne)

theorem settleCredit (h : LogGrows s t) : LogGrows s t.settleCredit := by
  refine h.settled ?_ ?_ ?_ ?_ <;> unfold State.settleCredit <;> split <;> rfl

theorem answerOk (h : LogGrows s t) (tag : Tag) (b : OkBody) : LogGrows s (t.answerOk tag b) := h.settled rfl rfl rfl rfl

theorem logChange (hlog : t.mju.log = s.mju.log) (hsec : t.seconds = s.seconds) (before : List (Nat × Slot))
    (ks : List Nat) : LogGrows s (t.logChange before ks) := by
  refine ⟨?_, fun _ => rfl⟩
  rw [← hlog, ← hsec]
  exact grownLog_appends _ _ _ _ _

theorem of_keeps (hmju : t.mju = s.mju) (hsec : t.seconds = s.seconds) (before : List (Nat × Slot)) (ks : List Nat) :
    LogGrows s (t.logChange before ks) :=
  .logChange (by rw [hmju]) hsec _ _

/-- A run that goes on from an earlier state of the part, which has the same seconds. -/
theorem trans (h : LogGrows s t) (h' : LogGrows t u) (hsec : t.seconds = s.seconds)
    (hkeep : u.mju.log = t.mju.log → t.AsksRight → u.AsksRight) : LogGrows s u := by
  obtain ⟨⟨made, hlog, hnodup, hmade⟩, hasks⟩ := h
  obtain ⟨⟨more, hlog', hnodup', hmore⟩, hasks'⟩ := h'
  rw [hlog] at hmore hlog'
  have hfresh : ∀ e ∈ more, inLog s.mju.log e.slot = false ∧ e.slot ∉ made.map LogEntry.slot := fun e he => by
    have hnot := inLog_eq_false.mp (hmore e he).2
    rw [List.map_append, List.mem_append, not_or] at hnot
    exact ⟨inLog_eq_false.mpr hnot.1, hnot.2⟩
  refine ⟨⟨made ++ more, by rw [hlog', List.append_assoc], ?_, fun e he => ?_⟩, fun hne => ?_⟩
  · rw [List.map_append, List.nodup_append]
    refine ⟨hnodup, hnodup', fun a ha b hb hab => ?_⟩
    obtain ⟨e, he, rfl⟩ := List.mem_map.mp hb
    exact (hfresh e he).2 (hab ▸ ha)
  · rcases List.mem_append.mp he with he | he
    · exact hmade e he
    · exact ⟨(hmore e he).1.trans hsec, (hfresh e he).1⟩
  · by_cases hsame : u.mju.log = t.mju.log
    · exact hkeep hsame (hasks (hsame ▸ hne))
    · exact hasks' hsame

/-- A request whose serve lets the log grow, served in the state with the frame taken. -/
theorem request {row : RequestRow} {serve : Frame → State → State}
    (hserve : ∀ f (v : State), LogGrows v (serve f v)) : LogGrows s (takeRequest row serve s) :=
  takeRequest_induction (R := LogGrows) (.of_eq rfl) (fun _ _ _ _ _ _ => .of_eq rfl)
    fun lif f _ _ _ _ _ _ => ⟨(hserve f { s with lif := lif }).made, (hserve f { s with lif := lif }).asks⟩

theorem notice {kind : Byte} {serve : Frame → State → State} (bytes : List Byte)
    (hserve : ∀ f (v : State), (serve f v).mju.log = v.mju.log) : LogGrows s (receiveNotice kind serve bytes s) := by
  rcases receiveNotice_cases kind serve bytes s with heq | ⟨held, -, heq⟩ | ⟨f, rest, -, -, heq⟩ <;> rw [heq]
  · exact .of_eq rfl
  · exact .of_eq rfl
  · exact .of_eq (hserve f _)

end LogGrows

/-- A request whose serve leaves the log. -/
theorem request_log_same {s : State} {row : RequestRow} {serve : Frame → State → State}
    (hserve : ∀ f (v : State), (serve f v).mju.log = v.mju.log) : LogGrows s (takeRequest row serve s) :=
  .request fun f v => .of_eq (hserve f v)

/-! ### The changes of the log -/

section
variable (s : State)

/-- Where no promotion is made the request for the lane stays with the log. -/
theorem promoteLoop_asksRight (fuel : Nat) {s : State} (h : s.AsksRight) : (promoteLoop fuel s).AsksRight := by
  induction fuel generalizing s with
  | zero => exact h
  | succ fuel ih =>
    unfold promoteLoop
    split
    · exact h
    · split
      · exact h
      · split
        · exact ih (s := clearFlag s _ _) h
        · split
          · exact h
          · exact ih (s := promote s _ _ _ _) rfl

theorem promoteLoop_logGrows (fuel : Nat) (s : State) : LogGrows s (promoteLoop fuel s) := by
  induction fuel generalizing s with
  | zero => exact .of_eq rfl
  | succ fuel ih =>
    unfold promoteLoop
    split
    · exact .of_eq rfl
    · split
      · exact .of_eq rfl
      · next i w _ =>
        split
        · have hrest := ih (clearFlag s i w)
          exact ⟨hrest.made, hrest.asks⟩
        · split
          · exact .of_eq rfl
          · next k strikes _ =>
            have hone : LogGrows s (promote s i w k strikes) := ⟨grownLog_appends _ _ _ _ _, fun _ => rfl⟩
            exact hone.trans (ih _) rfl fun _ => promoteLoop_asksRight _

theorem timeoutOrder_logGrows (i : Issued) (b : Binding) : LogGrows s (timeoutOrder s i b) := by
  unfold timeoutOrder
  dsimp only
  split
  · have hkeep := timeoutChange_keeps s i b
    exact (LogGrows.of_keeps (s := s) hkeep.mju hkeep.seconds _ _).settleCredit
  · exact .of_eq rfl

theorem endAtSelection_logGrows (q : QueueId) (w : Waiting) (b : Binding) : LogGrows s (endAtSelection s q w b) := by
  have hkeep := leaveOrder_keeps (s.setWaiting q (withoutFirstReady s q)) w.order.slot b false
  refine LogGrows.settleCredit (.logChange ?_ ?_ _ _)
  · rw [State.startScanIf_mju, State.startPickerIf_mju, hkeep.mju, State.setWaiting_mju]
  · rw [State.startScanIf_seconds, State.startPickerIf_seconds, hkeep.seconds, State.setWaiting_seconds]

theorem dispatch_logGrows {s t : State} (h : exec .dispatch s = .next t) : LogGrows s t := by
  rcases exec_dispatch_cases s with heq | ⟨q, w, b, -, -, -, -, -, ⟨-, heq⟩ | ⟨-, heq⟩⟩ <;>
    rw [heq] at h <;> obtain rfl := Host.Outcome.next.inj h
  · exact .of_eq rfl
  · exact endAtSelection_logGrows s q w b
  · exact .of_eq (by simp [dispatchOrder])

theorem servePlanWrite_logGrows (start count : Nat) (f : Frame) : LogGrows s (servePlanWrite start count f s) := by
  unfold servePlanWrite
  split
  · exact .of_eq rfl
  · split
    · next p _ _ => exact (LogGrows.of_keeps (s := s) (t := (s.withSlots p.slots).withRows p.rows) rfl rfl s.bt.slots
        p.touched).answerOk _ _
    · exact .of_eq rfl

theorem serveDiscard_logGrows (start count : Nat) (f : Frame) : LogGrows s (serveDiscard start count f s) := by
  unfold serveDiscard
  dsimp only
  split
  · obtain ⟨slots, pu, heq⟩ := discardShares_onlySlots (sharesOf start count) ⟨s, [], false, false⟩
    refine LogGrows.answerOk (.logChange ?_ ?_ _ _) _ _
    · rw [State.startScanIf_mju, State.startPickerIf_mju, State.settleDrainAll_mju, heq]; rfl
    · rw [State.startScanIf_seconds, State.startPickerIf_seconds, State.settleDrainAll_seconds, heq]; rfl
  · exact .of_eq rfl

theorem makeUnpin_logGrows (ks : List Nat) (f : Frame) : LogGrows s (makeUnpin ks f s) := by
  unfold makeUnpin
  dsimp only
  split
  · obtain ⟨slots, pu, heq⟩ := unpinSlots_onlySlots (pinOwner f) ks ⟨s, false⟩
    refine LogGrows.answerOk (.logChange ?_ ?_ _ _) _ _
    · rw [State.startPickerIf_mju, heq]; rfl
    · rw [State.startPickerIf_seconds, heq]; rfl
  · exact .of_eq rfl

theorem servePin_logGrows (f : Frame) : LogGrows s (servePin f s) := by
  unfold servePin makePin
  dsimp only
  split
  · exact .of_eq rfl
  · split
    · exact .of_eq rfl
    · split
      · exact (LogGrows.of_keeps (s := s) (t := ((s.withSlots (pinPlan s (pinOwner f) (pinFirst f) (pinCount f)).slots).withRows
          (pinPlan s (pinOwner f) (pinFirst f) (pinCount f)).rows).startScan) rfl rfl s.bt.slots _).answerOk _ _
      · exact .of_eq rfl

theorem serveComplete_logGrows (f : Frame) : LogGrows s (serveComplete f s) := by
  unfold serveComplete
  split
  · exact .of_eq rfl
  · split
    · exact .of_eq rfl
    · split
      · exact .of_eq rfl
      · next _ code _ _ i _ _ b _ =>
        unfold acceptCompletion
        dsimp only
        split
        · have hkeep := completeOrder_keeps s i b code (completeCopied f)
          exact (LogGrows.of_keeps (s := s) hkeep.mju hkeep.seconds _ _).answerOk _ _
        · exact .of_eq rfl

theorem serveRange_logGrows {serve : Nat → Nat → Frame → State → State} (f : Frame)
    (hserve : ∀ start count, LogGrows s (serve start count f s)) : LogGrows s (serveRange serve f s) := by
  unfold serveRange
  split
  · exact .of_eq rfl
  · exact hserve _ _

theorem checkOwner_logGrows {serve : Frame → State → State} (f : Frame) (hserve : LogGrows s (serve f s)) :
    LogGrows s (checkOwner serve f s) := by
  unfold checkOwner
  split
  · exact .of_eq rfl
  · split
    · exact .of_eq rfl
    · split
      · exact .of_eq rfl
      · exact hserve

end

/-! ### The commands that leave the log -/

section
variable (s : State)

theorem takeAccess_mju (f : Frame) : (takeAccess f s).mju = s.mju := by
  have hoffer : ∀ (items : List AccessItem) (u : State), (items.foldl offerItem u).mju = u.mju := fun items => by
    induction items with
    | nil => exact fun _ => rfl
    | cons item items ih =>
      intro u
      rw [List.foldl_cons, ih]
      unfold offerItem
      split
      · rfl
      · split
        · rfl
        · exact State.recordFault_mju ..
  unfold takeAccess
  split
  · split
    · split
      · exact hoffer _ _
      · exact State.recordFault_mju ..
    · rfl
  · exact State.recordFault_mju ..

theorem takePlatter_mju (f : Frame) : (takePlatter f s).mju = s.mju := by
  unfold takePlatter
  split
  · split
    · unfold recordPlatter leaveReady
      dsimp only
      repeat' split
      all_goals rfl
    · exact State.recordFault_mju ..
  · exact State.recordFault_mju ..

theorem takeSupply_mju (f : Frame) : (takeSupply f s).mju = s.mju := by
  unfold takeSupply
  split
  · split
    · rfl
    · exact State.recordFault_mju ..
  · exact State.recordFault_mju ..

theorem serveQueueControl_mju {act : QueueId → State → State} (h : ∀ q (u : State), (act q u).mju = u.mju) (f : Frame) :
    (serveQueueControl act f s).mju = s.mju := by
  unfold serveQueueControl
  split
  · rfl
  · split
    · rfl
    · exact h _ s

theorem importRecord_log (r : Record) : (importRecord s r).mju.log = s.mju.log := by
  unfold importRecord
  split <;> rfl

theorem importRecords_log (rs : List Record) : (rs.foldl importRecord s).mju.log = s.mju.log := by
  induction rs generalizing s with
  | nil => rfl
  | cons r rs ih => exact (ih _).trans (importRecord_log s r)

theorem applyPairs_mju (pairs : List (Nat × Nat)) : (pairs.foldl applyPair s).mju = s.mju := by
  induction pairs generalizing s with
  | nil => rfl
  | cons pair pairs ih => exact ih _

theorem frameEnd_log : s.frameEnd.mju.log = s.mju.log := by
  unfold State.frameEnd
  split
  · exact congrArg Journal.log (settleCredit_log _)
  · rfl

/-- Every command but DELTA and the resets lets the log stand or grow. -/
theorem exec_logGrows {s t : State} {c : Instr} (h : exec c s = .next t)
    (hc : c ∉ [Instr.delta, .powerOn, .resetLine, .resetWarm, .resetCold]) : LogGrows s t := by
  cases c with
  | powerOn | resetLine | delta | resetWarm | resetCold => exact absurd (by decide) hc
  | orderTimeout tag =>
    obtain rfl := Host.Outcome.next.inj h
    split
    · split
      · split
        · split
          · exact timeoutOrder_logGrows s _ _
          · exact .of_eq rfl
        · exact .of_eq rfl
      · exact .of_eq rfl
    · exact .of_eq rfl
  | promotionPickerRun =>
    obtain rfl := Host.Outcome.next.inj h
    split
    · have hrun := promoteLoop_logGrows (eligibleRows s.ct.rows).length
        { s with au := { s.au with runsOwed := s.au.runsOwed - 1 } }
      exact LogGrows.settleCredit ⟨hrun.made, hrun.asks⟩
    · exact .of_eq rfl
  | dispatch => exact dispatch_logGrows h
  | planWrite =>
    obtain rfl := Host.Outcome.next.inj h
    exact .request fun f v => serveRange_logGrows v f fun _ _ => servePlanWrite_logGrows v _ _ f
  | discard =>
    obtain rfl := Host.Outcome.next.inj h
    exact .request fun f v => serveRange_logGrows v f fun _ _ => serveDiscard_logGrows v _ _ f
  | pin =>
    obtain rfl := Host.Outcome.next.inj h
    exact .request fun f v => checkOwner_logGrows v f (servePin_logGrows v f)
  | unpin =>
    obtain rfl := Host.Outcome.next.inj h
    refine .request fun f v => checkOwner_logGrows v f ?_
    unfold serveUnpin
    split
    · exact .of_eq rfl
    · exact makeUnpin_logGrows v _ f
  | unpinAll =>
    obtain rfl := Host.Outcome.next.inj h
    exact .request fun f v => checkOwner_logGrows v f (makeUnpin_logGrows v _ f)
  | complete =>
    obtain rfl := Host.Outcome.next.inj h
    exact .request fun f v => serveComplete_logGrows v f
  | takeItem =>
    obtain rfl := Host.Outcome.next.inj h
    unfold takeOneItem
    split
    · split
      · exact .of_eq rfl
      · next item rest _ =>
        obtain ⟨slots, ct, trackers, owed, heq⟩ := applyItem_eq (s.dropItem rest) item
        rw [heq]
        exact .of_eq rfl
    · exact .of_eq rfl
  | drainPickerRun =>
    obtain rfl := Host.Outcome.next.inj h
    split
    · dsimp only
      split
      · exact .of_eq (by rw [(drainLoop_link _ _).2])
      · exact .of_eq rfl
    · exact .of_eq rfl
  | refillScan =>
    obtain rfl := Host.Outcome.next.inj h
    split
    · exact .of_eq (by rw [(refillLoop_link _ _).2])
    · exact .of_eq rfl
  | deltaDelayExpiry =>
    obtain rfl := Host.Outcome.next.inj h
    split
    · exact .of_eq (by rw [settleCredit_log]; rfl)
    · exact .of_eq rfl
  | access bytes => obtain rfl := Host.Outcome.next.inj h; exact .notice bytes fun f v => by rw [takeAccess_mju]
  | platter bytes => obtain rfl := Host.Outcome.next.inj h; exact .notice bytes fun f v => by rw [takePlatter_mju]
  | supply bytes => obtain rfl := Host.Outcome.next.inj h; exact .notice bytes fun f v => by rw [takeSupply_mju]
  | attach | importBegin | condition | faults | faultsClear | status | unknownKindRequest =>
    obtain rfl := Host.Outcome.next.inj h
    exact request_log_same fun _ _ => rfl
  | importPut =>
    obtain rfl := Host.Outcome.next.inj h
    exact request_log_same fun f v => importRecords_log v (importedRecords f)
  | importEnd =>
    obtain rfl := Host.Outcome.next.inj h
    exact request_log_same fun f v => by unfold serveImportEnd; dsimp only; split <;> rfl
  | policy =>
    obtain rfl := Host.Outcome.next.inj h
    refine request_log_same fun f v => ?_
    unfold servePolicy
    split
    · rfl
    · exact congrArg Journal.log (applyPairs_mju v _)
  | exportMap =>
    obtain rfl := Host.Outcome.next.inj h
    exact request_log_same fun f v => by unfold serveExport; split <;> rfl
  | sync =>
    obtain rfl := Host.Outcome.next.inj h
    exact request_log_same fun f v => by unfold serveSync; split <;> rfl
  | drainAll =>
    obtain rfl := Host.Outcome.next.inj h
    exact request_log_same fun f v => by unfold serveDrainAll; split <;> rfl
  | lookup =>
    obtain rfl := Host.Outcome.next.inj h
    exact request_log_same fun f v => by unfold serveRange; split <;> rfl
  | skipOn | skipOff =>
    obtain rfl := Host.Outcome.next.inj h
    refine request_log_same fun f v => congrArg Journal.log (serveQueueControl_mju v (fun q u => ?_) f)
    exact State.setSkip_mju ..
  | resume =>
    obtain rfl := Host.Outcome.next.inj h
    refine request_log_same fun f v => congrArg Journal.log (serveQueueControl_mju v (fun q u => ?_) f)
    cases q <;> rfl
  | sendReply =>
    obtain rfl := Host.Outcome.next.inj h
    refine .of_eq ?_
    split
    · split <;> rfl
    · exact frameEnd_log s
  | sendOrder =>
    obtain rfl := Host.Outcome.next.inj h
    refine .of_eq ?_
    split
    · split <;> rfl
    · exact frameEnd_log s
  | sendAdvice =>
    obtain rfl := Host.Outcome.next.inj h
    refine .of_eq ?_
    split
    · split <;> rfl
    · exact frameEnd_log s
  | exportData =>
    obtain rfl := Host.Outcome.next.inj h
    refine .of_eq ?_
    split
    · split
      · split
        · unfold sendExportData; split <;> rfl
        · rfl
      · rfl
    · exact frameEnd_log s
  | exportEnd =>
    obtain rfl := Host.Outcome.next.inj h
    refine .of_eq ?_
    split
    · split
      · split <;> rfl
      · rfl
    · exact frameEnd_log s
  | secondsAdvance =>
    obtain rfl := Host.Outcome.next.inj h
    exact .of_eq (by split <;> rfl)
  | rowExpiry row | barEnd row | backoffEnd slot =>
    obtain rfl := Host.Outcome.next.inj h
    refine .of_eq ?_
    repeat' split
    all_goals rfl
  | spinUpCadence =>
    obtain rfl := Host.Outcome.next.inj h
    refine .of_eq ?_
    unfold spinUpTest
    repeat' split
    all_goals rfl
  | mainsCadence =>
    obtain rfl := Host.Outcome.next.inj h
    refine .of_eq ?_
    unfold mainsTest
    repeat' split
    all_goals rfl
  | restAdvice =>
    obtain rfl := Host.Outcome.next.inj h
    refine .of_eq ?_
    unfold restTest
    repeat' split
    all_goals rfl
  | pullByte bytes =>
    obtain rfl := Host.Outcome.next.inj h
    refine .of_eq ?_
    unfold takePull
    repeat' split
    all_goals rfl
  | badFrame bytes =>
    obtain rfl := Host.Outcome.next.inj h
    refine .of_eq ?_
    split
    · exact congrArg Journal.log (State.recordFault_mju ..)
    · rfl
    · rfl
    · rfl
  | requestIntake bytes =>
    obtain rfl := Host.Outcome.next.inj h
    refine .of_eq ?_
    split
    · unfold offerRequest
      split
      · rfl
      · split
        · rfl
        · exact congrArg Journal.log (State.recordFault_mju ..)
    · rfl
    · rfl
    · rfl

end

/-! ### DELTA -/

theorem State.AsksRight.iff {t : State} (h : t.AsksRight) :
    t.lif.deltaAsking = true ↔ ∃ e rest, t.mju.log = e :: rest ∧ (t.policy.flushCount ≤ t.mju.log.length
      ∨ t.policy.deltaDelay ≤ age t.seconds e.time ∨ t.mju.sync ≠ none) := by
  rw [h]
  cases hlog : t.mju.log with
  | nil => simp [deltaWanted, hlog]
  | cons e rest =>
    rw [deltaWanted_cons hlog, ← hlog]
    refine ⟨fun hw => ⟨e, rest, hlog, or_left_comm.mp hw⟩, ?_⟩
    rintro ⟨e', rest', hlog', hw⟩
    obtain ⟨rfl, -⟩ := List.cons.inj (hlog.symm.trans hlog')
    exact or_left_comm.mp hw

theorem sendDelta_asksRight (s : State) : (sendDelta s).AsksRight := rfl

theorem request_asksRight {s : State} {row : RequestRow} {serve : Frame → State → State}
    (hserve : ∀ f (v : State), (serve f v).mju.log ≠ v.mju.log → (serve f v).AsksRight)
    (h : (takeRequest row serve s).mju.log ≠ s.mju.log) : (takeRequest row serve s).AsksRight :=
  takeRequest_induction (R := fun s t => t.mju.log ≠ s.mju.log → t.AsksRight) (fun hne => absurd rfl hne)
    (fun _ _ _ _ _ _ hne => absurd rfl hne) (fun lif f _ _ _ _ _ _ => hserve f { s with lif := lif }) h

theorem serveResetWarm_asksRight (f : Frame) (s : State) (h : (serveResetWarm f s).mju.log ≠ s.mju.log) :
    (serveResetWarm f s).AsksRight := by
  revert h
  unfold serveResetWarm
  split
  · split
    · exact fun _ => rfl
    · exact fun h => absurd rfl h
    · exact fun h => absurd rfl h
  · exact fun h => absurd rfl h

theorem exec_asksRight {s t : State} {c : Instr} (hexec : exec c s = .next t) (hne : t.mju.log ≠ s.mju.log) :
    t.AsksRight := by
  by_cases hc : c ∉ [Instr.delta, .powerOn, .resetLine, .resetWarm, .resetCold]
  · exact (exec_logGrows hexec hc).asks hne
  simp only [List.mem_cons, List.not_mem_nil, or_false, not_not] at hc
  rcases hc with rfl | rfl | rfl | rfl | rfl <;> obtain rfl := Host.Outcome.next.inj hexec
  · revert hne
    split
    · split
      · exact fun hne => absurd rfl hne
      · exact fun _ => sendDelta_asksRight s
    · exact fun hne => absurd (frameEnd_log s) hne
  · rfl
  · rfl
  · exact request_asksRight serveResetWarm_asksRight hne
  · exact request_asksRight (fun _ _ _ => rfl) hne

theorem execDelta_granted {s : State} (hlane : s.laneFor .delta) (hasking : s.lif.deltaAsking = true)
    (hlog : s.mju.log ≠ []) : exec .delta s = .next (sendDelta s) := by
  have hgrant := (granted_delta s).mpr ⟨hlane, hasking⟩
  have hempty : s.mju.log.isEmpty = false := by simpa using hlog
  simp only [exec, execDelta, hgrant, if_true, hempty, Bool.false_eq_true, if_false]

/-- Settles O49: a change of the log goes with the test of R157; entries join it one by one; the DELTA frame by the mark of
the waiting SYNC. -/
theorem deltaSendsTheLog : Obligations.DeltaSendsTheLog := by
  refine ⟨fun s t c hexec hne => (exec_asksRight hexec hne).iff, fun s t c hexec hc => (exec_logGrows hexec hc).made, ?_⟩
  intro s hlane hasking hlog
  have hbody : recordsBody (deltaRecords s)
      = ((s.mju.log.take 16).map fun e => recordBytes (persisted s.bt.slots e.slot)).flatten := by
    rw [recordsBody, deltaRecords, List.map_map]
    rfl
  refine ⟨sendDelta s, execDelta_granted hlane hasking hlog, ?_⟩
  unfold sendDelta State.lowerMark
  rw [hbody]
  cases hsync : s.mju.sync with
  | none => exact ⟨rfl, rfl, rfl, rfl, fun _ => ⟨hsync, rfl, rfl⟩, fun w hw => absurd hw (by simp), rfl⟩
  | some w =>
    by_cases hmark : w.mark ≤ min 16 s.mju.log.length
    · simp only [hmark, if_true]
      refine ⟨rfl, rfl, rfl, rfl, fun h => absurd h (by simp), fun w' hw' => ?_, rfl⟩
      obtain rfl := Option.some.inj hw'
      exact ⟨fun _ => ⟨rfl, rfl, rfl⟩, fun hlt => absurd hmark hlt.not_ge⟩
    · simp only [hmark, if_false]
      refine ⟨rfl, rfl, rfl, rfl, fun h => absurd h (by simp), fun w' hw' => ?_, rfl⟩
      obtain rfl := Option.some.inj hw'
      exact ⟨fun hle => absurd hle hmark, fun _ => ⟨rfl, rfl, rfl⟩⟩

end Sys2Proof.Machine
end


section
/-! SUPPORT. The bytes of the link: fields and their values, frames as sent and found again, the check, and binding records. -/

namespace Sys2Proof.Machine

/-! ### Little-endian values -/

theorem length_leBytes (n v : Nat) : (leBytes n v).length = n := by
  induction n generalizing v with
  | zero => rfl
  | succ n ih => simp [leBytes, ih]

theorem leValue_leBytes (n v : Nat) : leValue (leBytes n v) = v % 256 ^ n := by
  induction n generalizing v with
  | zero => simp [leBytes, leValue, Nat.mod_one]
  | succ n ih =>
    rw [leBytes, leValue, ih, BitVec.toNat_ofNat, show 2 ^ 8 = 256 from rfl, Nat.pow_succ', Nat.mod_mul]

theorem leBytes_eq_map (n v : Nat) : leBytes n v = (List.range n).map fun i => BitVec.ofNat 8 (v / 256 ^ i) := by
  induction n generalizing v with
  | zero => rfl
  | succ n ih =>
    rw [leBytes, ih, List.range_succ_eq_map, List.map_cons, List.map_map, pow_zero, Nat.div_one]
    congr 1
    refine List.map_congr_left fun i _ => ?_
    rw [Function.comp_apply, Nat.pow_succ', Nat.div_div_eq_div_mul]

theorem leValue_take (l : List Byte) (n : Nat) :
    leValue (l.take n) = ((List.range n).map fun i => (l[i]?.getD 0#8).toNat * 256 ^ i).sum := by
  induction n generalizing l with
  | zero => rfl
  | succ n ih =>
    rw [List.range_succ_eq_map, List.map_cons, List.map_map, List.sum_cons, pow_zero, Nat.mul_one]
    cases l with
    | nil =>
      simp [leValue, Function.comp_def]
    | cons b l =>
      rw [List.take_succ_cons, leValue, ih, ← List.sum_map_mul_left]
      congr 2
      refine List.map_congr_left fun i _ => ?_
      simp only [Function.comp_apply, List.getElem?_cons_succ, Nat.pow_succ']
      ring

theorem fieldAt_eq_sum (bytes : List Byte) (offset n : Nat) :
    fieldAt bytes offset n = ((List.range n).map fun i => (bytes[offset + i]?.getD 0#8).toNat * 256 ^ i).sum := by
  rw [fieldAt, leValue_take]
  simp only [List.getElem?_drop]

/-! ### Fields of bytes that follow one another -/

theorem fieldAt_append_right {a : List Byte} {offset : Nat} (h : a.length ≤ offset) (c : List Byte) (n : Nat) :
    fieldAt (a ++ c) offset n = fieldAt c (offset - a.length) n := by
  rw [fieldAt, List.drop_append, List.drop_of_length_le h, List.nil_append, fieldAt]

theorem fieldAt_leBytes_append (n v : Nat) (c : List Byte) : fieldAt (leBytes n v ++ c) 0 n = v % 256 ^ n := by
  rw [fieldAt, List.drop_zero, List.take_left' (length_leBytes n v), leValue_leBytes]

theorem fieldAt_leBytes (n v : Nat) : fieldAt (leBytes n v) 0 n = v % 256 ^ n := by
  rw [← List.append_nil (leBytes n v), fieldAt_leBytes_append]

/-! ### Frames (R168 to R170) -/

theorem checkedBytes_eq (f : Frame) :
    checkedBytes f = leBytes 1 f.kind.toNat ++ (leBytes 2 f.tag.toNat ++ (leBytes 2 f.body.length ++ f.body)) := by
  simp [checkedBytes, leBytes]

theorem length_checkedBytes (f : Frame) : (checkedBytes f).length = 5 + f.body.length := by
  simp only [checkedBytes_eq, List.length_append, length_leBytes]
  omega

/-- Inside the frame: the kind, the tag, the length and the body lie at the head of what follows the sync byte. -/
theorem fieldAt_checkedBytes (f : Frame) (more : List Byte) (hlen : f.body.length ≤ 496) :
    fieldAt (checkedBytes f ++ more) 0 1 = f.kind.toNat ∧ fieldAt (checkedBytes f ++ more) 1 2 = f.tag.toNat
    ∧ fieldAt (checkedBytes f ++ more) 3 2 = f.body.length := by
  have hkind := f.kind.isLt
  have htag := f.tag.isLt
  rw [checkedBytes_eq]
  simp only [List.append_assoc]
  refine ⟨?_, ?_, ?_⟩
  · rw [fieldAt_leBytes_append]
    omega
  · rw [fieldAt_append_right (by simp [length_leBytes]), length_leBytes, fieldAt_leBytes_append]
    omega
  · rw [fieldAt_append_right (by simp [length_leBytes]), fieldAt_append_right (by simp [length_leBytes]), length_leBytes,
      length_leBytes, fieldAt_leBytes_append]
    omega

theorem readFrame_frame (f : Frame) (more : List Byte) (hlen : f.body.length ≤ 496) :
    readFrame (checkedBytes f ++ (leBytes 2 (crc16 (checkedBytes f)).toNat ++ more)) = .checked f more := by
  obtain ⟨hkind, htag, hfield⟩ :=
    fieldAt_checkedBytes f (leBytes 2 (crc16 (checkedBytes f)).toNat ++ more) hlen
  have hchecked := length_checkedBytes f
  have hcrc := (crc16 (checkedBytes f)).isLt
  have hcheck : fieldAt (checkedBytes f ++ (leBytes 2 (crc16 (checkedBytes f)).toNat ++ more)) (5 + f.body.length) 2
      = (crc16 (checkedBytes f)).toNat := by
    rw [fieldAt_append_right hchecked.le, hchecked, Nat.sub_self, fieldAt_leBytes_append]
    omega
  have hbody : ((checkedBytes f ++ (leBytes 2 (crc16 (checkedBytes f)).toNat ++ more)).drop 5).take f.body.length
      = f.body := by
    rw [checkedBytes_eq]
    simp [leBytes]
  have hmore : (checkedBytes f ++ (leBytes 2 (crc16 (checkedBytes f)).toNat ++ more)).drop (7 + f.body.length) = more := by
    rw [← List.append_assoc, List.drop_left']
    rw [List.length_append, hchecked, length_leBytes]
    omega
  have htotal : (checkedBytes f ++ (leBytes 2 (crc16 (checkedBytes f)).toNat ++ more)).length
      = 7 + f.body.length + more.length := by
    simp only [List.length_append, hchecked, length_leBytes]
    omega
  unfold readFrame
  simp only [hkind, htag, hfield, hcheck, hbody, hmore, htotal, List.take_left' hchecked]
  rw [if_neg (by omega), if_neg (by omega), if_neg (by omega), if_pos trivial]
  simp

theorem hunt_pull (more : List Byte) : hunt (0x3C#8 :: more) = .pull more := rfl

theorem hunt_other {b : Byte} (hpull : b ≠ 0x3C#8) (hsync : b ≠ 0xA7#8) (more : List Byte) :
    hunt (b :: more) = hunt more := by
  rw [hunt, if_neg (show ¬ b = pullByteValue from hpull), if_neg (show ¬ b = syncByte from hsync)]

/-- After the sync byte the receiver does what it finds inside the frame. -/
theorem hunt_incomplete {bytes : List Byte} (h : readFrame bytes = .incomplete) :
    hunt (0xA7#8 :: bytes) = .quiet (0xA7#8 :: bytes) := by
  rw [hunt, if_neg (by decide), if_pos (show 0xA7#8 = syncByte from rfl), h]

theorem hunt_bad {bytes : List Byte} (h : readFrame bytes = .bad) : hunt (0xA7#8 :: bytes) = .bad bytes := by
  rw [hunt, if_neg (by decide), if_pos (show 0xA7#8 = syncByte from rfl), h]

theorem hunt_checked {bytes more : List Byte} {f : Frame} (h : readFrame bytes = .checked f more) :
    hunt (0xA7#8 :: bytes) = .frame f more := by
  rw [hunt, if_neg (by decide), if_pos (show 0xA7#8 = syncByte from rfl), h]

theorem hunt_frameBytes (f : Frame) (more : List Byte) (hlen : f.body.length ≤ 496) :
    hunt (frameBytes f ++ more) = .frame f more := by
  rw [frameBytes, List.cons_append, List.cons_append, List.append_assoc]
  exact hunt_checked (readFrame_frame f more hlen)

section
variable {bytes : List Byte}

theorem readFrame_short (h : bytes.length < 5) : readFrame bytes = .incomplete := if_pos h

theorem readFrame_waits (hfield : fieldAt bytes 3 2 ≤ 496) (h : bytes.length < 7 + fieldAt bytes 3 2) :
    readFrame bytes = .incomplete := by
  unfold readFrame
  split
  · rfl
  · exact (if_neg hfield.not_gt).trans (if_pos h)

theorem readFrame_tooLong (hlen : 5 ≤ bytes.length) (h : 496 < fieldAt bytes 3 2) : readFrame bytes = .bad :=
  (if_neg hlen.not_gt).trans (if_pos h)

theorem readFrame_wrongCheck (hlen : 5 ≤ bytes.length) (hfield : fieldAt bytes 3 2 ≤ 496)
    (hwhole : 7 + fieldAt bytes 3 2 ≤ bytes.length)
    (h : (crc16 (bytes.take (5 + fieldAt bytes 3 2))).toNat ≠ fieldAt bytes (5 + fieldAt bytes 3 2) 2) :
    readFrame bytes = .bad :=
  (if_neg hlen.not_gt).trans ((if_neg hfield.not_gt).trans ((if_neg hwhole.not_gt).trans (if_neg h)))

end

/-! ### The check (R168) -/

theorem crcBits_eq_iterate (n : Nat) (c : BitVec 16) : crcBits n c = crcBit^[n] c := by
  induction n generalizing c with
  | zero => rfl
  | succ n ih => rw [crcBits, ih, Function.iterate_succ_apply]

theorem crc16_append_singleton (bytes : List Byte) (b : Byte) :
    crc16 (bytes ++ [b]) = crcBit^[8] (crc16 bytes ^^^ (b.setWidth 16 <<< 8)) := by
  rw [crc16, List.foldl_append, List.foldl_cons, List.foldl_nil, crcByte, crcBits_eq_iterate, crc16]

/-! ### Binding records (section 10.7) -/

theorem recordOfBytes_eq (bytes : List Byte) : recordOfBytes bytes =
    ⟨fieldAt bytes 0 2, fieldAt bytes 6 1, fieldAt bytes 2 4, BitVec.ofNat 4 (fieldAt bytes 7 1),
      (BitVec.ofNat 8 (fieldAt bytes 7 1)).getLsbD 4, min 2 (fieldAt bytes 7 1 / 32 % 4),
      BitVec.ofNat 64 (fieldAt bytes 8 8), BitVec.ofNat 64 (fieldAt bytes 16 8), min 4095 (fieldAt bytes 24 2)⟩ := by
  have howners : (BitVec.ofNat 8 (fieldAt bytes 7 1)).extractLsb' 0 4 = BitVec.ofNat 4 (fieldAt bytes 7 1) := by
    apply BitVec.eq_of_toNat_eq
    simp only [BitVec.extractLsb'_toNat, BitVec.toNat_ofNat, Nat.shiftRight_zero]
    omega
  have hstrikes : ((BitVec.ofNat 8 (fieldAt bytes 7 1)).extractLsb' 5 2).toNat = fieldAt bytes 7 1 / 32 % 4 := by
    simp only [BitVec.extractLsb'_toNat, BitVec.toNat_ofNat, Nat.shiftRight_eq_div_pow]
    omega
  rw [recordOfBytes, howners, hstrikes]

theorem length_recordBytes (r : Record) : (recordBytes r).length = 26 := by
  simp [recordBytes, length_leBytes]

/-- The fields of a record lie where section 10.7 has them. -/
theorem fieldAt_recordBytes (r : Record) :
    fieldAt (recordBytes r) 0 2 = r.slot % 256 ^ 2 ∧ fieldAt (recordBytes r) 2 4 = r.extent % 256 ^ 4
    ∧ fieldAt (recordBytes r) 6 1 = r.pstate % 256 ^ 1 ∧ fieldAt (recordBytes r) 7 1 = recordFlags r % 256 ^ 1
    ∧ fieldAt (recordBytes r) 8 8 = r.valid.toNat % 256 ^ 8 ∧ fieldAt (recordBytes r) 16 8 = r.dirty.toNat % 256 ^ 8
    ∧ fieldAt (recordBytes r) 24 2 = r.heat % 256 ^ 2 := by
  simp only [recordBytes, List.append_assoc]
  refine ⟨fieldAt_leBytes_append _ _ _, ?_, ?_, ?_, ?_, ?_, ?_⟩
  all_goals simp only [fieldAt_append_right, length_leBytes, Nat.reduceLeDiff, Nat.reduceSub, le_refl, Nat.sub_self,
    fieldAt_leBytes_append, fieldAt_leBytes]

theorem recordFlags_lt {r : Record} (h : r.strikes ≤ 2) : recordFlags r < 256 := by
  have := r.owners.isLt
  unfold recordFlags
  split <;> omega

theorem owners_recordFlags (r : Record) : BitVec.ofNat 4 (recordFlags r) = r.owners := by
  have := r.owners.isLt
  apply BitVec.eq_of_toNat_eq
  rw [BitVec.toNat_ofNat]
  unfold recordFlags
  split <;> omega

theorem condemned_recordFlags (r : Record) : (BitVec.ofNat 8 (recordFlags r)).getLsbD 4 = r.condemned := by
  have := r.owners.isLt
  rw [BitVec.getLsbD_ofNat, Nat.testBit_eq_decide_div_mod_eq]
  unfold recordFlags
  cases r.condemned
  · simp only [Bool.false_eq_true, if_false, Bool.and_eq_false_imp, decide_eq_false_iff_not]
    omega
  · simp only [if_true, Bool.and_eq_true, decide_eq_true_eq]
    omega

theorem strikes_recordFlags {r : Record} (h : r.strikes ≤ 2) : recordFlags r / 32 % 4 = r.strikes := by
  have := r.owners.isLt
  unfold recordFlags
  split <;> omega

theorem recordOfBytes_recordBytes {r : Record} (hslot : r.slot < 65536) (hpstate : r.pstate < 256)
    (hextent : r.extent < 4294967296) (hstrikes : r.strikes ≤ 2) (hheat : r.heat ≤ 4095) :
    recordOfBytes (recordBytes r) = r := by
  have hvalid := r.valid.isLt
  have hdirty := r.dirty.isLt
  obtain ⟨h0, h2, h6, h7, h8, h16, h24⟩ := fieldAt_recordBytes r
  rw [Nat.mod_eq_of_lt (by omega)] at h0 h2 h6 h8 h16 h24
  rw [Nat.mod_eq_of_lt (show recordFlags r < 256 ^ 1 from recordFlags_lt hstrikes)] at h7
  rw [recordOfBytes_eq, h0, h2, h6, h7, h8, h16, h24, owners_recordFlags, condemned_recordFlags,
    strikes_recordFlags hstrikes, Nat.min_eq_right hstrikes, Nat.min_eq_right hheat, BitVec.ofNat_toNat, BitVec.ofNat_toNat,
    BitVec.setWidth_eq, BitVec.setWidth_eq]

/-- Settles O20: the fields of the bytes, the receiver after a sync byte, the check bit by bit, and a record's fields. -/
theorem frameRoundTrip : Obligations.FrameRoundTrip := by
  refine ⟨hunt_frameBytes, rfl, hunt_pull, fun b more hpull hsync => hunt_other hpull hsync more, fun bytes => ⟨?_, ?_, ?_⟩,
    fun f => ?_, leBytes_eq_map, fieldAt_eq_sum, fun shift hshift => ⟨rfl, ?_⟩, ?_, recordOfBytes_eq, fun slots k => ?_⟩
  · rintro (hshort | ⟨hfield, hwaits⟩)
    · exact hunt_incomplete (readFrame_short hshort)
    · exact hunt_incomplete (readFrame_waits hfield hwaits)
  · exact fun hlen hlong => hunt_bad (readFrame_tooLong hlen hlong)
  · exact fun hlen hfield hwhole hcheck => hunt_bad (readFrame_wrongCheck hlen hfield hwhole hcheck)
  · simp [frameBytes, checkedBytes, syncByte]
  · obtain rfl : shift = crcBit := funext fun c => (hshift c).trans (by rw [crcBit, BitVec.msb_eq_getLsbD_last])
    exact crc16_append_singleton
  · intro r hslot hpstate hextent hstrikes hheat
    refine ⟨length_recordBytes r, recordOfBytes_recordBytes hslot hpstate hextent hstrikes hheat, rfl⟩
  · unfold persisted
    cases tget slots k with
    | none => rfl
    | some v => cases v <;> rfl

end Sys2Proof.Machine
end


section
/-! SUPPORT. Runs of blocks (R75), and the claim on LOOKUP. -/

namespace Sys2Proof.Machine

/-! ### Runs (R75) -/

/-- The blocks of a run with their tier. -/
def Run.blocks (r : Run) : List (Nat × Tier) := (List.range r.count).map fun i => (r.first + i, r.tier)

theorem Run.length_blocks (r : Run) : r.blocks.length = r.count := by simp [Run.blocks]

theorem Run.blocks_single (b : Nat) (t : Tier) : (Run.mk b 1 t).blocks = [(b, t)] := by simp [Run.blocks]

theorem Run.blocks_longer (b n : Nat) (t : Tier) :
    (Run.mk b (n + 1) t).blocks = (b, t) :: (Run.mk (b + 1) n t).blocks := by
  simp only [Run.blocks, List.range_succ_eq_map, List.map_cons, List.map_map, Nat.add_zero]
  congr 1
  refine List.map_congr_left fun i _ => ?_
  simp only [Function.comp_apply, Nat.succ_eq_add_one]
  congr 1
  omega

theorem Run.mem_blocks {r : Run} {b : Nat} {t : Tier} : (b, t) ∈ r.blocks ↔ (∃ i < r.count, b = r.first + i) ∧ t = r.tier := by
  simp only [Run.blocks, List.mem_map, List.mem_range, Prod.mk.injEq]
  constructor
  · rintro ⟨i, hi, rfl, rfl⟩
    exact ⟨⟨i, hi, rfl⟩, rfl⟩
  · rintro ⟨⟨i, hi, rfl⟩, rfl⟩
    exact ⟨i, hi, rfl, rfl⟩

/-- The blocks of runs, in their order. -/
def runBlocks (runs : List Run) : List (Nat × Tier) := (runs.map Run.blocks).flatten

theorem coveredBy_eq (runs : List Run) : coveredBy runs = (runBlocks runs).length := by
  rw [coveredBy, runBlocks, List.length_flatten, List.map_map]
  congr 1
  exact List.map_congr_left fun r _ => r.length_blocks.symm

/-- Blocks that follow one another from `start` on. -/
def Consecutive (start : Nat) (l : List (Nat × Tier)) : Prop := l.map Prod.fst = List.range' start l.length

theorem consecutive_cons {start : Nat} {x : Nat × Tier} {l : List (Nat × Tier)} :
    Consecutive start (x :: l) ↔ x.1 = start ∧ Consecutive (start + 1) l := by
  simp [Consecutive, List.range'_succ]

/-- The runs of blocks that follow one another hold these blocks in order, and begin at the first. -/
theorem runsOf_blocks {l : List (Nat × Tier)} {start : Nat} (h : Consecutive start l) :
    runBlocks (runsOf l) = l ∧ ∀ r rs, runsOf l = r :: rs → r.first = start := by
  induction l generalizing start with
  | nil => exact ⟨rfl, fun r rs hr => by simp [runsOf] at hr⟩
  | cons x l ih =>
    obtain ⟨b, t⟩ := x
    obtain ⟨rfl, hrest⟩ := consecutive_cons.mp h
    obtain ⟨hblocks, hfirst⟩ := ih hrest
    rw [runsOf]
    cases hruns : runsOf l with
    | nil =>
      rw [hruns] at hblocks
      refine ⟨?_, fun r rs hr => by simp [← (List.cons.inj hr).1]⟩
      rw [runBlocks, List.map_cons, List.flatten_cons, Run.blocks_single]
      exact congrArg _ hblocks
    | cons r rs =>
      rw [hruns] at hblocks
      obtain ⟨first, count, tier⟩ := r
      obtain rfl : first = b + 1 := hfirst _ _ hruns
      by_cases ht : tier = t
      · subst ht
        simp only [if_true]
        refine ⟨?_, fun r rs hr => by simp [← (List.cons.inj hr).1]⟩
        rw [← hblocks, runBlocks, runBlocks, List.map_cons, List.map_cons, List.flatten_cons, List.flatten_cons,
          Run.blocks_longer, List.cons_append]
      · simp only [ht, if_false]
        refine ⟨?_, fun r rs hr => by simp [← (List.cons.inj hr).1]⟩
        rw [← hblocks, runBlocks, runBlocks, List.map_cons, List.flatten_cons, Run.blocks_single]
        rfl

theorem runsOf_tiers (l : List (Nat × Tier)) :
    (∀ r ∈ runsOf l, 0 < r.count) ∧ (runsOf l).IsChain fun r r' => r.tier ≠ r'.tier := by
  induction l with
  | nil => exact ⟨fun r hr => by simp [runsOf] at hr, .nil⟩
  | cons x l ih =>
    obtain ⟨b, t⟩ := x
    obtain ⟨hpos, hchain⟩ := ih
    rw [runsOf]
    cases hruns : runsOf l with
    | nil => exact ⟨fun r hr => by simp [List.mem_singleton.mp hr], .singleton _⟩
    | cons r rs =>
      rw [hruns] at hpos hchain
      by_cases ht : r.tier = t
      · simp only [ht, if_true]
        refine ⟨fun r' hr' => ?_, ?_⟩
        · rcases List.mem_cons.mp hr' with rfl | hr'
          · exact Nat.succ_pos _
          · exact hpos r' (List.mem_cons_of_mem _ hr')
        · cases rs with
          | nil => exact .singleton _
          | cons r2 rs =>
            obtain ⟨hne, hrest⟩ := List.isChain_cons_cons.mp hchain
            exact List.isChain_cons_cons.mpr ⟨ht ▸ hne, hrest⟩
      · simp only [ht, if_false]
        refine ⟨fun r' hr' => ?_, List.isChain_cons_cons.mpr ⟨Ne.symm ht, hchain⟩⟩
        rcases List.mem_cons.mp hr' with rfl | hr'
        · exact Nat.one_pos
        · exact hpos r' hr'

theorem runsOf_neighbours {l : List (Nat × Tier)} {i : Nat} {r r' : Run} (hi : (runsOf l)[i]? = some r)
    (hi' : (runsOf l)[i + 1]? = some r') : r.tier ≠ r'.tier := by
  obtain ⟨hlt, hr⟩ := List.getElem?_eq_some_iff.mp hi
  obtain ⟨hlt', hr'⟩ := List.getElem?_eq_some_iff.mp hi'
  have := List.isChain_iff_getElem.mp (runsOf_tiers l).2 i hlt'
  rwa [hr, hr'] at this

theorem runsOf_eq_nil {l : List (Nat × Tier)} : runsOf l = [] ↔ l = [] := by
  cases l with
  | nil => simp [runsOf]
  | cons x l =>
    simp only [runsOf, List.cons_ne_nil, iff_false]
    split
    · exact List.cons_ne_nil _ _
    · split <;> exact List.cons_ne_nil _ _

/-- The first `n` runs hold the first blocks. -/
theorem runBlocks_take {l : List (Nat × Tier)} {start : Nat} (h : Consecutive start l) (n : Nat) :
    runBlocks ((runsOf l).take n) = l.take (coveredBy ((runsOf l).take n))
    ∧ coveredBy ((runsOf l).take n) ≤ l.length
    ∧ (coveredBy ((runsOf l).take n) < l.length → ((runsOf l).take n).length = n) := by
  have hwhole := (runsOf_blocks h).1
  have hprefix : runBlocks ((runsOf l).take n) <+: l := by
    rw [← hwhole]
    refine ⟨runBlocks ((runsOf l).drop n), ?_⟩
    conv_rhs => rw [hwhole, ← hwhole]
    rw [hwhole, runBlocks, runBlocks, ← List.flatten_append, ← List.map_append, List.take_append_drop]
    exact hwhole
  rw [coveredBy_eq]
  refine ⟨List.prefix_iff_eq_take.mp hprefix, hprefix.length_le, fun hlt => ?_⟩
  rw [List.length_take, Nat.min_eq_left]
  by_contra hn
  rw [List.take_of_length_le (by omega), hwhole] at hlt
  exact lt_irrefl _ hlt

/-! ### LOOKUP (R74 to R76) -/

theorem consecutive_lookupTiers (slots : List (Nat × Slot)) (start count : Nat) :
    Consecutive start (lookupTiers slots start count) := by
  rw [Consecutive, lookupTiers, List.map_map, List.length_map, List.length_range, List.range'_eq_map_range]
  rfl

theorem lookupTiers_take (slots : List (Nat × Slot)) (start : Nat) {n count : Nat} (h : n ≤ count) :
    (lookupTiers slots start count).take n = (List.range n).map fun i => (start + i, tierAt slots (start + i)) := by
  rw [lookupTiers, ← List.map_take, List.take_range, Nat.min_eq_left h]

/-- A range of the drive is served by its own serve, for the count that names it. -/
theorem serveRange_names {serve : Nat → Nat → Frame → State → State} {f : Frame} {s : State} {start count : Nat}
    (h : f.names s.bt.e start count) : serveRange serve f s = serve start count f s := by
  obtain ⟨-, hstart, hpos, hle, hcount⟩ := h
  have hrange : outOfRange s.bt.e (rangeStart f) (rangeCount f) = false :=
    (outOfRange_eq_false _ _ _).mpr ⟨hpos, by rw [rangeStart, hstart, Nat.mul_comm s.bt.e]; exact hle⟩
  rw [serveRange, hrange, if_neg Bool.false_ne_true, rangeStart, hstart, rangeCount, clampedCount, ← hcount]

theorem Frame.names.pos {f : Frame} {e start count : Nat} (h : f.names e start count) : 0 < count := by
  obtain ⟨-, -, hpos, -, hcount⟩ := h
  omega

/-- Settles O29: the runs of consecutive blocks hold them in order, and the first 16 runs the first of them. -/
theorem lookupAnswersTiers : Obligations.LookupAnswersTiers := by
  intro s f rest start count hactive hturn hnames
  have hkind : f.kind = 0x20#8 := hturn.2.1
  set l := lookupTiers s.bt.slots start count with hl
  have hlength : l.length = count := by simp [hl, lookupTiers]
  obtain ⟨hblocks, hcovered, hcut⟩ := runBlocks_take (consecutive_lookupTiers s.bt.slots start count) 16
  rw [hlength] at hcovered hcut
  have hexec : exec .lookup s = .next (s.answered rest f.tag
      (.runs (coveredBy (lookupRuns s.bt.slots start count)) (lookupRuns s.bt.slots start count))) := by
    rw [exec_of_turn (i := .lookup) (serve := serveRange serveLookup) rfl hturn (requestRow_lookup hkind) (by rw [hactive]; rfl) (by rw [hnames.1]; rfl),
      serveRange_names (s := s.taken rest) hnames]
    rfl
  refine ⟨lookupRuns s.bt.slots start count, coveredBy (lookupRuns s.bt.slots start count), hexec, ?_, ?_, hcovered, hcut,
    ?_, fun i r r' hi hi' => ?_⟩
  · exact List.length_take_le _ _
  · have hne : l ≠ [] := List.ne_nil_of_length_pos (hlength ▸ hnames.pos)
    obtain ⟨r, rs, hruns⟩ := List.exists_cons_of_ne_nil (fun h => hne (runsOf_eq_nil.mp h))
    have hpos := (runsOf_tiers l).1 r (by simp [hruns])
    rw [lookupRuns, ← hl, hruns, List.take_succ_cons, coveredBy, List.map_cons, List.sum_cons]
    omega
  · refine hblocks.trans ?_
    exact lookupTiers_take s.bt.slots start hcovered
  · have hof : ∀ {j x}, ((runsOf l).take 16)[j]? = some x → (runsOf l)[j]? = some x := fun h => by
      rw [List.getElem?_take] at h
      split at h
      · exact h
      · cases h
    exact runsOf_neighbours (hof hi) (hof hi')

end Sys2Proof.Machine
end


section
/-! SUPPORT. What the runs choose: the first in an order (R12, R47, R67, R129). -/

namespace Sys2Proof.Machine

/-! ### The first of a list by a fold of choices -/

/-- The fold of choices between two finds the first in the order that the choices follow. -/
theorem foldl_pick_iff {α : Type} {key : α → Nat} {f : α → α → α} {ahead : α → α → Prop}
    (htrans : ∀ {a b c}, ahead a b → ahead b c → ahead a c) (hasymm : ∀ {a b}, ahead a b → ¬ ahead b a)
    (hpick : ∀ a b, key a < key b → f a b = a ∧ ahead a b ∨ f a b = b ∧ ahead b a) {a : α} {l : List α}
    (hs : (a :: l).Pairwise fun p q => key p < key q) (m : α) :
    l.foldl f a = m ↔ m ∈ a :: l ∧ ∀ x ∈ a :: l, key x ≠ key m → ahead m x := by
  have hfirst : l.foldl f a ∈ a :: l ∧ ∀ x ∈ a :: l, key x ≠ key (l.foldl f a) → ahead (l.foldl f a) x := by
    induction l generalizing a with
    | nil => exact ⟨List.mem_singleton_self a, fun x hx hne => absurd (List.mem_singleton.mp hx ▸ rfl) hne⟩
    | cons b l ih =>
      obtain ⟨hab, hrest⟩ := List.pairwise_cons.mp hs
      have hal := fun x hx => hab x (List.mem_cons_of_mem b hx)
      rw [List.foldl_cons]
      rcases hpick a b (hab b (List.mem_cons_self ..)) with ⟨hf, hahead⟩ | ⟨hf, hahead⟩ <;> rw [hf]
      · obtain ⟨hmem, hall⟩ := ih (a := a) (List.pairwise_cons.mpr ⟨hal, (List.pairwise_cons.mp hrest).2⟩)
        refine ⟨?_, fun x hx hne => ?_⟩
        · rcases List.mem_cons.mp hmem with h | h
          · rw [h]; exact List.mem_cons_self ..
          · exact List.mem_cons_of_mem _ (List.mem_cons_of_mem _ h)
        · rcases List.mem_cons.mp hx with rfl | hx
          · exact hall _ (List.mem_cons_self ..) hne
          · rcases List.mem_cons.mp hx with rfl | hx
            · by_cases hsame : key a = key (l.foldl f a)
              · rcases List.mem_cons.mp hmem with h | h
                · rw [h]; exact hahead
                · exact absurd hsame (hal _ h).ne
              · exact htrans (hall a (List.mem_cons_self ..) hsame) hahead
            · exact hall x (List.mem_cons_of_mem _ hx) hne
      · obtain ⟨hmem, hall⟩ := ih (a := b) hrest
        refine ⟨List.mem_cons_of_mem _ hmem, fun x hx hne => ?_⟩
        rcases List.mem_cons.mp hx with rfl | hx
        · by_cases hsame : key b = key (l.foldl f b)
          · rcases List.mem_cons.mp hmem with h | h
            · rw [h]; exact hahead
            · exact absurd hsame ((List.pairwise_cons.mp hrest).1 _ h).ne
          · exact htrans (hall b (List.mem_cons_self ..) hsame) hahead
        · exact hall x hx hne
  refine ⟨fun h => h ▸ hfirst, fun ⟨hmem, hall⟩ => ?_⟩
  by_contra hne
  have hkeys : ((a :: l).map key).Nodup := List.pairwise_map.mpr (hs.imp fun hlt => hlt.ne)
  have hkey : key (l.foldl f a) ≠ key m := fun h => hne (List.inj_on_of_nodup_map hkeys hfirst.1 hmem h)
  exact hasymm (hall _ hfirst.1 hkey) (hfirst.2 _ hmem hkey.symm)

/-! ### The victim (R67) -/

/-- The order of R67: the lowest heat, then the highest idle age, then the lowest slot. -/
def victimAhead (p q : Nat × Binding) : Prop :=
  p.2.heat < q.2.heat ∨ p.2.heat = q.2.heat ∧ (q.2.idle < p.2.idle ∨ q.2.idle = p.2.idle ∧ p.1 < q.1)

theorem betterVictim_pick (a b : Nat × Binding) (h : a.1 < b.1) :
    betterVictim a b = a ∧ victimAhead a b ∨ betterVictim a b = b ∧ victimAhead b a := by
  unfold betterVictim victimAhead
  split
  · right; refine ⟨rfl, ?_⟩; omega
  · left; refine ⟨rfl, ?_⟩; omega

theorem victimOf_iff {slots : List (Nat × Slot)} (hs : tsorted slots = true) (excluded : Nat → Bool) (k : Nat)
    (v : Binding) :
    victimOf slots excluded = some (k, v) ↔
      bindingAt slots k = some v ∧ v.victim = true ∧ excluded v.extent = false
      ∧ ∀ j u, bindingAt slots j = some u → u.victim = true → excluded u.extent = false → j ≠ k →
          v.heat < u.heat ∨ v.heat = u.heat ∧ (u.idle < v.idle ∨ u.idle = v.idle ∧ k < j) := by
  have hmem : ∀ j u, (j, u) ∈ (bindingsOf slots).filter (fun kb => kb.2.victim && !excluded kb.2.extent) ↔
      bindingAt slots j = some u ∧ u.victim = true ∧ excluded u.extent = false := fun j u => by
    rw [List.mem_filter, mem_bindingsOf_iff slots hs]
    simp
  have hrising := (bindingsOf_pairwise hs).filter fun kb => kb.2.victim && !excluded kb.2.extent
  rw [← and_assoc (c := _ ∧ _), ← and_assoc (c := ∀ _, _), and_assoc (c := excluded _ = _), ← hmem]
  unfold victimOf
  generalize (bindingsOf slots).filter (fun kb => kb.2.victim && !excluded kb.2.extent) = l at hmem hrising
  cases l with
  | nil => simp
  | cons a l =>
    rw [Option.some.injEq, foldl_pick_iff (key := Prod.fst) (ahead := victimAhead) (by unfold victimAhead; omega)
      (by unfold victimAhead; omega) betterVictim_pick hrising]
    refine and_congr_right fun _ => ⟨fun h j u hb hv hx hne => h (j, u) ((hmem j u).mpr ⟨hb, hv, hx⟩) hne, ?_⟩
    rintro h ⟨j, u⟩ hju hne
    obtain ⟨hb, hv, hx⟩ := (hmem j u).mp hju
    exact h j u hb hv hx hne

/-! ### The head of the eligible set (R47) -/

/-- The order of R47: the highest heat, then the lowest row. -/
def rowAhead (p q : Nat × Watch) : Prop := q.2.heat < p.2.heat ∨ q.2.heat = p.2.heat ∧ p.1 < q.1

theorem hotter_pick (a b : Nat × Watch) (h : a.1 < b.1) :
    hotter a b = a ∧ rowAhead a b ∨ hotter a b = b ∧ rowAhead b a := by
  unfold hotter rowAhead
  split
  · right; refine ⟨rfl, ?_⟩; omega
  · left; refine ⟨rfl, ?_⟩; omega

theorem eligibleRows_pairwise {rows : List (Nat × Row)} (h : tsorted rows = true) :
    (eligibleRows rows).Pairwise fun p q => p.1 < q.1 := by
  rw [tsorted_iff_pairwise] at h
  induction rows with
  | nil => exact .nil
  | cons p rest ih =>
    obtain ⟨hp, hrest⟩ := List.pairwise_cons.mp h
    obtain ⟨i, r⟩ := p
    cases r with
    | barred x t => exact ih hrest
    | watching w =>
      rw [eligibleRows]
      split
      · exact List.pairwise_cons.mpr ⟨fun q hq => hp _ (mem_eligibleRows.mp hq).1, ih hrest⟩
      · exact ih hrest

theorem eligibleHead_iff {rows : List (Nat × Row)} (hs : tsorted rows = true) (i : Nat) (w : Watch) :
    eligibleHead rows = some (i, w) ↔
      tget rows i = some (.watching w) ∧ w.eligible = true
      ∧ ∀ j u, tget rows j = some (.watching u) → u.eligible = true → j ≠ i →
          u.heat < w.heat ∨ u.heat = w.heat ∧ i < j := by
  have hmem : ∀ j u, (j, u) ∈ eligibleRows rows ↔ tget rows j = some (.watching u) ∧ u.eligible = true := fun j u => by
    rw [mem_eligibleRows, tget_eq_some rows hs]
  have hrising := eligibleRows_pairwise hs
  rw [← and_assoc, ← hmem]
  unfold eligibleHead
  generalize eligibleRows rows = l at hmem hrising
  cases l with
  | nil => simp
  | cons a l =>
    rw [Option.some.injEq, foldl_pick_iff (key := Prod.fst) (ahead := rowAhead) (by unfold rowAhead; omega)
      (by unfold rowAhead; omega) hotter_pick hrising]
    refine and_congr_right fun _ => ⟨fun h j u hr he hne => h (j, u) ((hmem j u).mpr ⟨hr, he⟩) hne, ?_⟩
    rintro h ⟨j, u⟩ hju hne
    obtain ⟨hr, he⟩ := (hmem j u).mp hju
    exact h j u hr he hne

/-! ### The drain picker's binding (R129) -/

/-- The order of R129: condemned first, then the greatest dirty age, then the lowest slot. -/
def drainAhead (now : Time) (p q : Nat × Binding) : Prop :=
  (2 ≤ p.2.strikes ∧ q.2.strikes < 2)
  ∨ (2 ≤ p.2.strikes ↔ 2 ≤ q.2.strikes)
    ∧ ((q.2.dirtyAge now).getD 0 < (p.2.dirtyAge now).getD 0
      ∨ (q.2.dirtyAge now).getD 0 = (p.2.dirtyAge now).getD 0 ∧ p.1 < q.1)

theorem drainAhead_trans {now : Time} {a b c : Nat × Binding} (h : drainAhead now a b) (h' : drainAhead now b c) :
    drainAhead now a c := by
  unfold drainAhead at *
  omega

theorem drainAhead_asymm {now : Time} {a b : Nat × Binding} (h : drainAhead now a b) : ¬ drainAhead now b a := by
  unfold drainAhead at *
  omega

theorem betterDrain_pick (now : Time) (a b : Nat × Binding) (h : a.1 < b.1) :
    betterDrain now a b = a ∧ drainAhead now a b ∨ betterDrain now a b = b ∧ drainAhead now b a := by
  have hsame : a.2.condemned = b.2.condemned ↔ (2 ≤ a.2.strikes ↔ 2 ≤ b.2.strikes) := by
    simp [Binding.condemned]
  unfold betterDrain drainAhead
  split
  · next hc =>
    have := hsame.mp hc
    split
    · right; refine ⟨rfl, ?_⟩; omega
    · left; refine ⟨rfl, ?_⟩; omega
  · next hc =>
    have hdiffer := mt hsame.mpr hc
    split
    · next hb =>
      have : 2 ≤ b.2.strikes := by simpa [Binding.condemned] using hb
      right; refine ⟨rfl, ?_⟩; omega
    · next hb =>
      have : ¬ 2 ≤ b.2.strikes := by simpa [Binding.condemned] using hb
      left; refine ⟨rfl, ?_⟩; omega

theorem drainChoice_iff {s : State} (hs : tsorted s.bt.slots = true) (k : Nat) (v : Binding) :
    drainChoice s = some (k, v) ↔
      bindingAt s.bt.slots k = some v ∧ drainQualifies s v = true
      ∧ ∀ j u, bindingAt s.bt.slots j = some u → drainQualifies s u = true → j ≠ k →
          drainAhead s.seconds (k, v) (j, u) := by
  have hmem : ∀ j u, (j, u) ∈ (bindingsOf s.bt.slots).filter (fun kb => drainQualifies s kb.2) ↔
      bindingAt s.bt.slots j = some u ∧ drainQualifies s u = true := fun j u => by
    rw [List.mem_filter, mem_bindingsOf_iff _ hs]
  have hrising := (bindingsOf_pairwise hs).filter fun kb => drainQualifies s kb.2
  rw [← and_assoc, ← hmem]
  unfold drainChoice
  generalize (bindingsOf s.bt.slots).filter (fun kb => drainQualifies s kb.2) = l at hmem hrising
  cases l with
  | nil => simp
  | cons a l =>
    rw [Option.some.injEq, foldl_pick_iff (key := Prod.fst) (ahead := drainAhead s.seconds) drainAhead_trans
      drainAhead_asymm (betterDrain_pick s.seconds) hrising]
    refine and_congr_right fun _ => ⟨fun h j u hb hq hne => h (j, u) ((hmem j u).mpr ⟨hb, hq⟩) hne, ?_⟩
    rintro h ⟨j, u⟩ hju hne
    obtain ⟨hb, hq⟩ := (hmem j u).mp hju
    exact h j u hb hq hne

/-- Settles O11: each choice is a fold that keeps the first in its order. -/
theorem choicesOfTheRuns : Obligations.ChoicesOfTheRuns := by
  intro s hmap
  obtain ⟨hok, -⟩ := (mapLaw_iff s).mp hmap
  exact ⟨lowestFree_eq_some hok.slots_sorted, victimOf_iff hok.slots_sorted, Binding.victim_iff,
    eligibleHead_iff hok.rows_sorted, drainChoice_iff hok.slots_sorted⟩

end Sys2Proof.Machine
end


section
/-! SUPPORT. The bar of an extent (R43, R50), the end, return and exhaustion of an issued order (R110, R111), and the claims on
ORDER_TIMEOUT. -/

namespace Sys2Proof.Machine

/-! ### The ways of a set (R41 to R43, R50) -/

section
variable {rows : List (Nat × Row)}

/-- The lowest EMPTY way. -/
theorem emptyWay_iff (set i : Nat) :
    emptyWay rows set = some i ↔
      i / 8 = set ∧ tget rows i = none ∧ ∀ j, j / 8 = set → j < i → tget rows j ≠ none := by
  have hway : ∀ j, j / 8 = set → rowIndex set (j % 8) = j := fun j hj => by
    simp only [rowIndex, Config.candidateWays]
    omega
  rw [emptyWay, List.find?_map, Option.map_eq_some_iff]
  simp only [List.find?_range_eq_some, Function.comp_apply, List.mem_range, Bool.not_eq_true',
    Option.isNone_eq_false_iff, Option.isSome_iff_ne_none, Option.isNone_iff_eq_none]
  constructor
  · rintro ⟨way, ⟨hnone, hlt, hlower⟩, rfl⟩
    refine ⟨?_, hnone, fun j hj hji => ?_⟩
    · simp only [rowIndex, Config.candidateWays] at hlt ⊢
      omega
    · rw [← hway j hj]
      refine hlower _ ?_
      simp only [rowIndex, Config.candidateWays] at hji
      omega
  · rintro ⟨hset, hnone, hlower⟩
    refine ⟨i % 8, ⟨by rw [hway i hset]; exact hnone, Nat.mod_lt _ (by decide), fun w hw => hlower _ ?_ ?_⟩, hway i hset⟩
    all_goals simp only [rowIndex, Config.candidateWays]; omega

theorem emptyWay_eq_none (set : Nat) : emptyWay rows set = none ↔ ∀ j, j / 8 = set → tget rows j ≠ none := by
  constructor
  · intro h j hj hnone
    rw [emptyWay, List.find?_eq_none] at h
    refine h j (List.mem_map.mpr ⟨j % 8, List.mem_range.mpr (Nat.mod_lt _ (by decide)), ?_⟩) (by simp [hnone])
    simp only [rowIndex, Config.candidateWays]
    omega
  · intro h
    by_contra hne
    obtain ⟨i, hi⟩ := Option.ne_none_iff_exists'.mp hne
    obtain ⟨hset, hnone, -⟩ := (emptyWay_iff set i).mp hi
    exact h i hset hnone

/-- The order of R43: the lowest heat, then the highest idle age, then the lowest way. -/
def wayAhead (p q : Nat × Watch) : Prop :=
  p.2.heat < q.2.heat ∨ p.2.heat = q.2.heat ∧ (q.2.idle < p.2.idle ∨ q.2.idle = p.2.idle ∧ p.1 < q.1)

theorem colder_pick (a b : Nat × Watch) (h : a.1 < b.1) :
    colder a b = a ∧ wayAhead a b ∨ colder a b = b ∧ wayAhead b a := by
  unfold colder wayAhead
  split
  · right; refine ⟨rfl, ?_⟩; omega
  · left; refine ⟨rfl, ?_⟩; omega

theorem watchingWays_pairwise (h : tsorted rows = true) (set : Nat) :
    (watchingWays rows set).Pairwise fun p q => p.1 < q.1 := by
  rw [tsorted_iff_pairwise] at h
  induction rows with
  | nil => exact .nil
  | cons p rest ih =>
    obtain ⟨hp, hrest⟩ := List.pairwise_cons.mp h
    obtain ⟨i, r⟩ := p
    cases r with
    | barred x t => exact ih hrest
    | watching w =>
      rw [watchingWays]
      split
      · exact List.pairwise_cons.mpr ⟨fun q hq => hp _ (mem_watchingWays.mp hq).1, ih hrest⟩
      · exact ih hrest

/-- The replacement choice of R43. -/
theorem replacementWay_iff (hs : tsorted rows = true) (set i : Nat) (w : Watch) :
    replacementWay rows set = some (i, w) ↔
      tget rows i = some (.watching w) ∧ i / 8 = set
      ∧ ∀ j u, tget rows j = some (.watching u) → j / 8 = set → j ≠ i →
          w.heat < u.heat ∨ w.heat = u.heat ∧ (u.idle < w.idle ∨ u.idle = w.idle ∧ i < j) := by
  have hmem : ∀ j u, (j, u) ∈ watchingWays rows set ↔ tget rows j = some (.watching u) ∧ j / 8 = set := fun j u => by
    rw [mem_watchingWays, tget_eq_some rows hs]
  have hrising := watchingWays_pairwise hs set
  rw [← and_assoc, ← hmem]
  unfold replacementWay
  generalize watchingWays rows set = l at hmem hrising
  cases l with
  | nil => simp
  | cons a l =>
    rw [Option.some.injEq, foldl_pick_iff (key := Prod.fst) (ahead := wayAhead) (by unfold wayAhead; omega)
      (by unfold wayAhead; omega) colder_pick hrising]
    refine and_congr_right fun _ => ⟨fun h j u hr he hne => h (j, u) ((hmem j u).mpr ⟨hr, he⟩) hne, ?_⟩
    rintro h ⟨j, u⟩ hju hne
    obtain ⟨hr, he⟩ := (hmem j u).mp hju
    exact h j u hr he hne

theorem replacementWay_eq_none (set : Nat) :
    replacementWay rows set = none ↔ ∀ i w, (i, Row.watching w) ∈ rows → i / 8 ≠ set := by
  have hnil : replacementWay rows set = none ↔ watchingWays rows set = [] := by
    unfold replacementWay
    cases watchingWays rows set <;> simp
  rw [hnil, List.eq_nil_iff_forall_not_mem]
  exact ⟨fun h i w hr hset => h (i, w) (mem_watchingWays.mpr ⟨hr, hset⟩),
    fun h p hp => h p.1 p.2 (mem_watchingWays.mp hp).1 (mem_watchingWays.mp hp).2⟩

end

/-! ### The bar (R50) -/

theorem barredAt_tset (s : State) (x i : Nat) :
    s.barredAt x (tset s.ct.rows i (.barred x (after s.seconds s.policy.barPeriod))) i :=
  ⟨by rw [tget_tset, if_pos rfl]; rfl, fun j hj => by rw [tget_tset, if_neg hj]⟩

theorem barExtent_of_emptyWay {rows : List (Nat × Row)} {x i : Nat} (h : emptyWay rows (setOf x) = some i) (u : Time) :
    barExtent rows x u = tset rows i (.barred x u) := by
  simp only [barExtent, h]

theorem barExtent_of_replacementWay {rows : List (Nat × Row)} {x i : Nat} {w : Watch} (h : emptyWay rows (setOf x) = none)
    (h' : replacementWay rows (setOf x) = some (i, w)) (u : Time) :
    barExtent rows x u = tset rows i (.barred x u) := by
  simp only [barExtent, h, h']

theorem barExtent_of_none {rows : List (Nat × Row)} {x : Nat} (h : emptyWay rows (setOf x) = none)
    (h' : replacementWay rows (setOf x) = none) (u : Time) : barExtent rows x u = rows := by
  simp only [barExtent, h, h']

/-- The bar of an extent is that of R50. -/
theorem barRule_barExtent (s : State) (x : Nat) :
    s.barRule x (barExtent s.ct.rows x (after s.seconds s.policy.barPeriod)) := by
  refine ⟨fun i hset hnone hlower => ?_, fun i w hs hset hw hfull hfirst => ?_, fun hs hbarred => ?_, ?_⟩
  · rw [barExtent_of_emptyWay ((emptyWay_iff _ _).mpr ⟨hset, hnone, hlower⟩)]
    exact barredAt_tset s x i
  · rw [barExtent_of_replacementWay ((emptyWay_eq_none _).mpr hfull) ((replacementWay_iff hs _ i w).mpr
      ⟨hw, hset, fun j u hj hjset hne => hfirst j u hjset hj hne⟩)]
    exact barredAt_tset s x i
  · refine barExtent_of_none ((emptyWay_eq_none _).mpr fun j hj hnone => ?_)
      ((replacementWay_eq_none _).mpr fun j w hw hj => ?_) _
    · obtain ⟨y, u, hbar⟩ := hbarred j hj
      rw [hnone] at hbar
      cases hbar
    · obtain ⟨y, u, hbar⟩ := hbarred j hj
      rw [(tget_eq_some _ hs j _).mpr hw] at hbar
      cases hbar
  · rintro ⟨j, hj, hfree⟩
    cases hempty : emptyWay s.ct.rows (setOf x) with
    | some i =>
      rw [barExtent_of_emptyWay hempty]
      exact ⟨i, ((emptyWay_iff _ _).mp hempty).1, barredAt_tset s x i⟩
    | none =>
      obtain ⟨r, hr⟩ := Option.ne_none_iff_exists'.mp ((emptyWay_eq_none _).mp hempty j hj)
      cases r with
      | barred y u => exact absurd hr (hfree y u)
      | watching w =>
        cases hrep : replacementWay s.ct.rows (setOf x) with
        | none => exact absurd hj ((replacementWay_eq_none _).mp hrep j w (mem_of_tget hr))
        | some p =>
          rw [barExtent_of_replacementWay hempty hrep]
          exact ⟨p.1, (replacementWay_mem hrep).2, barredAt_tset s x p.1⟩

end Sys2Proof.Machine
end


section
/-! SUPPORT. The return and the exhaustion of an issued order, each as one change of the part (R110, R111), and the claims on
ORDER_TIMEOUT. -/

namespace Sys2Proof.Machine

/-! ### The room of one slot's entry (R155) -/

theorem orderRoom_single {now : Time} {before after : List (Nat × Slot)} {log : List LogEntry} {k : Nat} :
    orderRoom log (grownLog now before after log [k]) = true ↔
      persistedChanged before after k = false ∨ inLog log k = true ∨ log.length < 256 := by
  rw [grownLog_single, orderRoom]
  cases persistedChanged before after k <;> cases inLog log k <;> simp

/-! ### The order leaves the issued set (R106) -/

theorem dropIssued_eq (s : State) (tag : Tag) :
    s.dropIssued tag = { s with
      ou := { s.ou with issued := s.ou.issued.filter fun p => p.tag ≠ tag }
      lif := { s.lif with orderFrames := s.lif.orderFrames.filter fun p => p.tag ≠ tag } } := by
  have hbne : ∀ t : Tag, (t != tag) = decide (t ≠ tag) := fun t => by
    by_cases h : t = tag <;> simp [h]
  simp only [State.dropIssued, hbne]

theorem recordFault_eq (s : State) (kind : FaultKind) (subject : Subject) :
    s.recordFault kind subject = { s with cfu := (s.recordFault kind subject).cfu } :=
  (recordFault_frame s kind subject).1

theorem tag_of_issuedWith {issued : List Issued} {tag : Tag} {i : Issued} (h : issuedWith issued tag = some i) :
    i.tag = tag := by
  simpa using List.find?_some h

/-! ### Return and exhaustion (R110, R111) -/

/-- The order goes back to the head of its queue, and the retry count rises. -/
def OrderUnit.returned (ou : OrderUnit) (o : Order) (notBefore : Option Time) : OrderUnit :=
  { ou.setQueue o.queue { ou.queue o.queue with waiting := ⟨o, notBefore⟩ :: (ou.queue o.queue).waiting } with
    retryCount := min 65535 (ou.retryCount + 1) }

theorem returnOrder_eq (s : State) (o : Order) (b : Binding) (notBefore : Option Time) :
    s.returnOrder o b notBefore = { s with
      bt := { s.bt with slots := tset s.bt.slots o.slot (.bound b.orderless) }
      ou := s.ou.returned o notBefore } := by
  obtain ⟨q, k, x, a, i⟩ := o
  cases q <;> rfl

/-- The exhaustion of a pin fill or a drain halts its queue (R119). -/
def OrderUnit.exhausted (ou : OrderUnit) (q : QueueId) : OrderUnit :=
  if q = .heatFill then ou else ou.setQueue q { ou.queue q with halted := true }

/-- A heat fill's exhaustion starts a picker run (R63). -/
def Admission.exhausted (au : Admission) (q : QueueId) : Admission :=
  if q = .heatFill then { au with runsOwed := au.runsOwed + 1 } else au

theorem startScanIf_pinned (s : State) (b : Binding) : s.startScanIf b.pinned
    = { s with pu := { s.pu with scansOwed := s.pu.scansOwed + if b.owners ≠ 0#4 then 1 else 0 } } := by
  by_cases howners : b.owners = 0#4
  · rw [(Binding.pinned_eq_false b).mpr howners, if_neg (not_not.mpr howners)]
    rfl
  · rw [(Binding.pinned_eq_true b).mpr howners, if_pos howners]
    rfl

section
variable (s : State) (o : Order) (b : Binding)

/-- The fault table after the exhaustion of an order of queue `q`. -/
def State.exhaustedFaults (q : QueueId) : FaultUnit := (s.recordFault .orderExhausted (.queue q)).cfu

/-- A clean, unpinned, uncondemned heat fill's slot is released and its extent barred (R9, R50). -/
theorem exhaust_releases (hq : o.queue = .heatFill) (hclean : b.dirty = 0#64) (howners : b.owners = 0#4)
    (hstrikes : b.strikes < 2) :
    s.exhaust o b = { s with
      bt := { s.bt with slots := terase s.bt.slots o.slot }
      ct := { s.ct with rows := barExtent s.ct.rows b.extent (after s.seconds s.policy.barPeriod) }
      au := s.au.exhausted o.queue, ou := s.ou.exhausted o.queue, cfu := s.exhaustedFaults o.queue } := by
  rw [exhaust_frees hq hclean howners hstrikes, recordFault_eq, State.exhaustedFaults, hq]
  rfl

/-- The slot of a condemned clean binding retires (R16). -/
theorem exhaust_retires (hclean : b.dirty = 0#64) (hstrikes : 2 ≤ b.strikes) :
    s.exhaust o b = { s with
      bt := { s.bt with slots := tset s.bt.slots o.slot .retired }
      pu := s.pu.raise b.owners .pinsDropped
      au := s.au.exhausted o.queue, ou := s.ou.exhausted o.queue, cfu := s.exhaustedFaults o.queue } := by
  obtain ⟨q, k, x, a, i⟩ := o
  cases q with
  | heatFill =>
    rw [exhaust_keeps rfl fun h => h.2.2.not_ge hstrikes, leaveOrder_retires hstrikes hclean, recordFault_eq]
    rfl
  | pinFill | drain =>
    rw [exhaust_halts _ _ _ (by simp), leaveOrder_retires hstrikes hclean, recordFault_eq]
    rfl

/-- Any other slot comes to HELD, and a scan starts if it is pinned (R148). -/
theorem exhaust_holds (hnot : ¬ (o.queue = .heatFill ∧ b.dirty = 0#64 ∧ b.owners = 0#4 ∧ b.strikes < 2))
    (hkept : b.strikes < 2 ∨ b.dirty ≠ 0#64) :
    s.exhaust o b = { s with
      bt := { s.bt with slots := tset s.bt.slots o.slot (.bound { b.orderless with state := .held }) }
      pu := { s.pu with scansOwed := s.pu.scansOwed + if b.owners ≠ 0#4 then 1 else 0 }
      au := s.au.exhausted o.queue, ou := s.ou.exhausted o.queue, cfu := s.exhaustedFaults o.queue } := by
  obtain ⟨q, k, x, a, i⟩ := o
  cases q with
  | heatFill =>
    rw [exhaust_keeps rfl fun h => hnot ⟨rfl, h⟩]
    obtain ⟨⟨hge, hclean⟩, -⟩ | ⟨⟨hlt, -, hclean, howners⟩, -⟩ | ⟨-, heq⟩ :=
      leaveOrder_cases (s.recordFault .orderExhausted (.queue .heatFill)) k b true
    · rcases hkept with hlt | hdirty
      · exact absurd hlt hge.not_gt
      · exact absurd hclean hdirty
    · exact absurd ⟨rfl, hclean, howners, hlt⟩ hnot
    · rw [heq, startScanIf_pinned, recordFault_eq]
      rfl
  | pinFill | drain =>
    rw [exhaust_halts _ _ _ (by simp), leaveOrder_holds hkept, startScanIf_pinned, recordFault_eq]
    rfl

end

/-! ### What the log has of the slot -/

section
variable {slots : List (Nat × Slot)} {k : Nat} {b : Binding} (hb : bindingAt slots k = some b)
include hb

theorem persistedChanged_tset_retired : persistedChanged slots (tset slots k .retired) k = true :=
  persistedChanged_retired hb _ (tget_tset_same _ _ _)

theorem persistedChanged_terase : persistedChanged slots (terase slots k) k = true :=
  persistedChanged_free hb _ (tget_terase_same _ _)

theorem persistedChanged_orderless : persistedChanged slots (tset slots k (.bound b.orderless)) k = false :=
  (persistedChanged_bound hb (bindingAt_tset_same ..)).mpr ⟨rfl, rfl, rfl, rfl, rfl⟩

end

/-- A change that leaves the slot's persisted form makes no entry. -/
theorem logChange_same {u : State} {before : List (Nat × Slot)} {k : Nat}
    (h : persistedChanged before u.bt.slots k = false) : u.logChange before [k] = u.askDelta := by
  rw [State.logChange, grownLog_same _ _ _ _ _ (by simpa using h)]

/-! ### ORDER_TIMEOUT (R113, R114) -/

section
variable {s : State} {tag : Tag} {o : Issued} {b : Binding} (hlife : s.mju.life = .active)
  (ho : issuedWith s.ou.issued tag = some o) (hb : bindingAt s.bt.slots o.order.slot = some b)
  (hdue : o.timeoutDue = true)
include hlife ho hb hdue

theorem exec_orderTimeout_due : exec (.orderTimeout tag) s = .next (timeoutOrder s o b) := by
  simp only [exec, execOrderTimeout, (active_iff s).mpr hlife, if_true, ho, hb, hdue]

/-- A due timeout that needs no room, or finds it. -/
theorem exec_orderTimeout_room {u : State} (hu : timeoutChange s o b = u)
    (hroom : persistedChanged s.bt.slots u.bt.slots o.order.slot = false ∨ inLog s.mju.log o.order.slot = true
      ∨ s.mju.log.length < 256) :
    exec (.orderTimeout tag) s = .next (u.logChange s.bt.slots [o.order.slot]).settleCredit := by
  rw [exec_orderTimeout_due hlife ho hb hdue, timeoutOrder, hu, if_pos (orderRoom_single.mpr hroom)]

/-- A due timeout that makes no entry. -/
theorem exec_orderTimeout_same {u : State} (hu : timeoutChange s o b = u)
    (hsame : persistedChanged s.bt.slots u.bt.slots o.order.slot = false) :
    exec (.orderTimeout tag) s = .next u.askDelta.settleCredit := by
  rw [exec_orderTimeout_room hlife ho hb hdue hu (.inl hsame), logChange_same hsame]

theorem exec_orderTimeout_deferred {u : State} (hu : timeoutChange s o b = u)
    (hchanged : persistedChanged s.bt.slots u.bt.slots o.order.slot = true) (hlog : inLog s.mju.log o.order.slot = false)
    (hfull : 256 ≤ s.mju.log.length) : exec (.orderTimeout tag) s = .next s := by
  rw [exec_orderTimeout_due hlife ho hb hdue, timeoutOrder, hu, if_neg]
  rw [orderRoom_single]
  simp [hchanged, hlog, hfull]

end

/-- The part after the fault and the order's leave (R113). -/
def State.timedOut (s : State) (o : Issued) : State :=
  { s with
    cfu := (s.recordFault .orderTimeout (.slot o.order.slot)).cfu
    ou := { s.ou with issued := s.ou.issued.filter fun p => p.tag ≠ o.tag }
    lif := { s.lif with orderFrames := s.lif.orderFrames.filter fun p => p.tag ≠ o.tag } }

theorem timeoutChange_eq (s : State) (o : Issued) (b : Binding) :
    timeoutChange s o b = (s.timedOut o).countFailure o.order b := by
  rw [timeoutChange, recordFault_eq, dropIssued_eq]
  rfl

theorem setQueue_withIssued (ou : OrderUnit) (q : QueueId) (x : OrderQueue) (issued : List Issued) :
    ({ ou with issued := issued } : OrderUnit).setQueue q x = { ou.setQueue q x with issued := issued } := by
  cases q <;> rfl

theorem queue_withIssued (ou : OrderUnit) (q : QueueId) (issued : List Issued) :
    ({ ou with issued := issued } : OrderUnit).queue q = ou.queue q := by
  cases q <;> rfl

theorem returned_withIssued (ou : OrderUnit) (o : Order) (issued : List Issued) (notBefore : Option Time) :
    ({ ou with issued := issued } : OrderUnit).returned o notBefore
      = { ou.returned o notBefore with issued := issued } := by
  rw [OrderUnit.returned, setQueue_withIssued, queue_withIssued]
  rfl

theorem exhausted_withIssued_heat (ou : OrderUnit) (issued : List Issued) {q : QueueId} (hq : q = .heatFill) :
    ({ ou with issued := issued } : OrderUnit).exhausted q = { ou with issued := issued } := if_pos hq

theorem exhausted_withIssued_other (ou : OrderUnit) (issued : List Issued) {q : QueueId} (hq : q ≠ .heatFill) :
    ({ ou with issued := issued } : OrderUnit).exhausted q
      = { ou.setQueue q { ou.queue q with halted := true } with issued := issued } := by
  rw [OrderUnit.exhausted, if_neg hq, setQueue_withIssued, queue_withIssued]

/-- Settles O7: the order returns, which changes no persisted form. -/
theorem orderTimeoutReturnsTheOrder : Obligations.OrderTimeoutReturnsTheOrder := by
  intro s tag o b hlife ho hb hdue hattempts
  obtain rfl := tag_of_issuedWith ho
  have hchange : timeoutChange s o b = { s.timedOut o with
      bt := { s.bt with slots := tset s.bt.slots o.order.slot (.bound b.orderless) }
      ou := { s.ou.returned { o.order with attempts := o.order.attempts - 1, backoff := 0 } none with
        issued := s.ou.issued.filter fun p => p.tag ≠ o.tag } } := by
    rw [timeoutChange_eq, countFailure_eq, if_neg (by omega), returnOrder_eq]
    exact congrArg (fun ou => { s.timedOut o with
      bt := { s.bt with slots := tset s.bt.slots o.order.slot (.bound b.orderless) }, ou := ou })
      (returned_withIssued ..)
  refine ⟨_, exec_orderTimeout_same hlife ho hb hdue hchange (persistedChanged_orderless hb), ?_⟩
  refine ⟨by simp [State.timedOut], by simp [OrderUnit.returned], by simp [Binding.orderless],
    fun k hk => by simp [tget_tset_ne _ _ hk], ?_, ?_, creditRule_settleCredit rfl⟩
  · rw [settleCredit_record]; rfl
  · rw [settleCredit_record]; rfl

section
variable (s : State) (o : Issued)

theorem timedOut_exhaustedFaults (q : QueueId) : (s.timedOut o).exhaustedFaults q =
    ((s.recordFault .orderTimeout (.slot o.order.slot)).recordFault .orderExhausted (.queue q)).cfu :=
  recordFault_congr (s := s.recordFault .orderTimeout (.slot o.order.slot)) (u := s.timedOut o) (by rw [State.recordFault_seconds]; rfl) rfl _ _

theorem timeoutChange_exhausts (b : Binding) (h : o.order.attempts = 1) :
    timeoutChange s o b = (s.timedOut o).exhaust { o.order with attempts := 0, backoff := 0 } b := by
  rw [timeoutChange_eq, countFailure_eq, if_pos h.le]

/-- What the exhaustion leaves of the orders and the Admission Unit, by the queue. -/
theorem timedOut_exhausted :
    (o.order.queue = .heatFill →
      (s.timedOut o).ou.exhausted o.order.queue = { s.ou with issued := s.ou.issued.filter fun p => p.tag ≠ o.tag }
      ∧ (s.timedOut o).au.exhausted o.order.queue = { s.au with runsOwed := s.au.runsOwed + 1 })
    ∧ (o.order.queue ≠ .heatFill →
      (s.timedOut o).ou.exhausted o.order.queue
        = { s.ou.setQueue o.order.queue { s.ou.queue o.order.queue with halted := true } with
            issued := s.ou.issued.filter fun p => p.tag ≠ o.tag }
      ∧ (s.timedOut o).au.exhausted o.order.queue = s.au) :=
  ⟨fun hq => ⟨exhausted_withIssued_heat _ _ hq, if_pos hq⟩, fun hq => ⟨exhausted_withIssued_other _ _ hq, if_neg hq⟩⟩

end

/-- Settles O8, by what becomes of the slot: released, retired or HELD. -/
theorem orderTimeoutExhausts : Obligations.OrderTimeoutExhausts := by
  intro s tag o b released retired hlife ho hb hdue hattempts hreleased hretired
  obtain rfl := tag_of_issuedWith ho
  have hunits := timedOut_exhausted s o
  have hfaults := timedOut_exhaustedFaults s o o.order.queue
  rw [Binding.isDirty_eq_false] at hreleased hretired
  by_cases hrel : released
  · obtain ⟨hq, hclean, howners, hstrikes⟩ := hreleased.mp hrel
    have hnot : ¬ retired := fun h => (hretired.mp h).1.not_gt hstrikes
    have hchange := (timeoutChange_exhausts s o b hattempts).trans (exhaust_releases _ _ b hq hclean howners hstrikes)
    have hchanged := persistedChanged_terase hb
    refine ⟨fun _ hfull hlog => exec_orderTimeout_deferred hlife ho hb hdue hchange hchanged hlog hfull, fun hroom => ?_⟩
    refine ⟨_, exec_orderTimeout_room hlife ho hb hdue hchange (.inr (hroom.resolve_left fun h => h.1 hrel).symm), ?_⟩
    refine ⟨fun k hk => by simp [tget_terase_ne _ hk, State.timedOut], by simpa using hfaults, by simpa using hunits.1,
      fun hne => absurd hq hne, fun _ => ⟨by simp, ?_, by simp [State.timedOut], ?_⟩, fun h => absurd h hnot,
      fun h => absurd hrel h, by rw [settleCredit_record]; rfl, creditRule_settleCredit rfl⟩
    · rw [State.settleCredit_mju]
      exact inLog_logChange (List.mem_singleton_self _) hchanged
    · simp only [State.settleCredit_ct, State.logChange_ct]
      exact barRule_barExtent s b.extent
  by_cases hret : retired
  · obtain ⟨hstrikes, hclean⟩ := hretired.mp hret
    have hchange := (timeoutChange_exhausts s o b hattempts).trans (exhaust_retires _ _ b hclean hstrikes)
    have hchanged := persistedChanged_tset_retired hb
    refine ⟨fun _ hfull hlog => exec_orderTimeout_deferred hlife ho hb hdue hchange hchanged hlog hfull, fun hroom => ?_⟩
    refine ⟨_, exec_orderTimeout_room hlife ho hb hdue hchange (.inr (hroom.resolve_left fun h => h.2 hret).symm), ?_⟩
    refine ⟨fun k hk => by simp [tget_tset_ne _ _ hk, State.timedOut], by simpa using hfaults, by simpa using hunits.1,
      by simpa using hunits.2, fun h => absurd h hrel, fun _ => ⟨by simp, ?_, by simp [State.timedOut],
      by simp [State.timedOut, PinUnit.raise_scansOwed], fun owner howner => ?_⟩, fun _ h => absurd hret h,
      by rw [settleCredit_record]; rfl, creditRule_settleCredit rfl⟩
    · rw [State.settleCredit_mju]
      exact inLog_logChange (List.mem_singleton_self _) hchanged
    · simp only [State.settleCredit_pu, State.logChange_pu]
      exact PinUnit.alert_raise _ _ _ howner
  · have hkept : b.strikes < 2 ∨ b.dirty ≠ 0#64 := by
      by_contra! h
      exact hret (hretired.mpr h)
    have hchange := (timeoutChange_exhausts s o b hattempts).trans
      (exhaust_holds _ _ b (fun h => hrel (hreleased.mpr h)) hkept)
    have hsame := persistedChanged_held hb
    refine ⟨fun h => absurd h (not_or.mpr ⟨hrel, hret⟩), fun _ => ?_⟩
    refine ⟨_, exec_orderTimeout_same hlife ho hb hdue hchange hsame, ?_⟩
    exact ⟨fun k hk => by simp [tget_tset_ne _ _ hk, State.timedOut], by simpa using hfaults, by simpa using hunits.1,
      by simpa using hunits.2, fun h => absurd h hrel, fun h => absurd h hret,
      fun _ _ => ⟨by simp [Binding.orderless], by simp [State.timedOut], by simp [State.timedOut], by simp [State.timedOut]⟩,
      by rw [settleCredit_record]; rfl, creditRule_settleCredit rfl⟩

end Sys2Proof.Machine
end


section
/-! SUPPORT. COMPLETE of an issued order: what is merged, and what becomes of the order (R107 to R112). -/

namespace Sys2Proof.Machine

/-! ### What a completion merges (R13, R108, R109) -/

/-- The binding with the strike of a FLASH-FAULT and the copied set merged. -/
def Binding.merged (b : Binding) (o : Issued) (code : CompletionCode) (copied : BlockSet) (now : Time) : Binding :=
  match o.order.queue.kind with
  | .fill => (b.struck code).fillMerge (copiedWithin o code copied)
  | .drain => (b.struck code).drainMerge (copiedWithin o code copied) now

theorem struck_other {code : CompletionCode} (h : code ≠ .flashFault) (b : Binding) : b.struck code = b := if_neg h

theorem struck_flashFault (b : Binding) : b.struck .flashFault = { b with strikes := min 2 (b.strikes + 1) } := if_pos rfl

theorem struck_eq (b : Binding) (code : CompletionCode) : b.struck code = { b with strikes := (b.struck code).strikes } := by
  unfold Binding.struck
  split <;> rfl

/-- The merge as its fields. -/
theorem merged_eq (b : Binding) (o : Issued) (code : CompletionCode) (copied : BlockSet) (now : Time) {c v d : BlockSet}
    (hc : c = copiedWithin o code copied)
    (hv : v = if o.order.queue = .drain then b.valid else b.valid ||| (c &&& ~~~(b.overtaken.getD 0#64)))
    (hd : d = if o.order.queue = .drain then b.dirty &&& ~~~(c &&& ~~~(b.redirtied.getD 0#64)) else b.dirty) :
    b.merged o code copied now = { b with
      strikes := (b.struck code).strikes, valid := v, dirty := d
      dirtySince := if o.order.queue = .drain then
          (if d = 0#64 then none else if d = b.dirty then b.dirtySince else some now)
        else b.dirtySince } := by
  subst hc hv hd
  rw [Binding.merged, struck_eq]
  cases o.order.queue <;> rfl

/-- A completion finishes its order: DONE, a FILL complete or condemned, a DRAIN with nothing dirty. -/
def Issued.finishes (o : Issued) (m : Binding) (code : CompletionCode) : Prop :=
  code = .done ∨ if o.order.queue = .drain then m.dirty = 0#64 else m.valid = BitVec.allOnes 64 ∨ 2 ≤ m.strikes

/-! ### The return of an order by its code (R110) -/

/-- The codes that count an attempt. -/
def CompletionCode.counted : CompletionCode → Bool
  | .partialCopy | .flashFault | .platterFault => true
  | _ => false

/-- The order as it goes back to its queue. -/
def Order.after (o : Order) (code : CompletionCode) : Order :=
  { o with
    attempts := if code.counted = true then o.attempts - 1 else o.attempts
    backoff := if code = .refused then nextBackoff o.backoff else 0 }

/-- The not-before of an order that goes back. -/
def Order.notBefore (o : Order) (code : CompletionCode) (now : Time) : Option Time :=
  if code = .refused then some (Machine.after now (nextBackoff o.backoff)) else none

theorem afterAttempt_returns {s : State} {o : Order} {b : Binding} {code : CompletionCode}
    (h : code.counted = true → 2 ≤ o.attempts) :
    s.afterAttempt o b code = s.returnOrder (o.after code) b (o.notBefore code s.seconds) := by
  have hcount : code.counted = true → s.countFailure o b
      = s.returnOrder { o with attempts := o.attempts - 1, backoff := 0 } b none := fun hc => by
    have := h hc
    rw [countFailure_eq, if_neg (by omega)]
  cases code with
  | partialCopy | flashFault | platterFault => exact hcount rfl
  | parked | aborted | done | refused => rfl

theorem afterAttempt_exhausts {s : State} {o : Order} {b : Binding} {code : CompletionCode} (hcounted : code.counted = true)
    (h : o.attempts ≤ 1) : s.afterAttempt o b code = s.exhaust { o with attempts := 0, backoff := 0 } b := by
  have hcount : s.countFailure o b = s.exhaust { o with attempts := 0, backoff := 0 } b := by
    rw [countFailure_eq, if_pos h]
  cases code with
  | partialCopy | flashFault | platterFault => exact hcount
  | parked | aborted | done | refused => cases hcounted

/-! ### The change of an accepted completion, as one record -/

theorem settleDrainAll_eq (s : State) : s.settleDrainAll
    = { s with psm := { s.psm with drainAll := s.psm.drainAll && decide (dirtyCount s.bt.slots ≠ 0) } } := by
  unfold State.settleDrainAll
  split
  · next h => simp [h]
  · next h => simp [h]

/-- The part with the tables and units given, the order gone from the issued set, and the rest reference and the drain-all
flag moved (R106, R131, R136). -/
def State.concluded (s : State) (tag : Tag) (slots : List (Nat × Slot)) (rows : List (Nat × Row)) (au : Admission)
    (ou : OrderUnit) (pu : PinUnit) (cfu : FaultUnit) : State :=
  { s with
    bt := { s.bt with slots := slots }, ct := { s.ct with rows := rows }, au := au, pu := pu, cfu := cfu
    ou := { ou with issued := s.ou.issued.filter fun p => p.tag ≠ tag }
    psm := { s.psm with
      restRef := if s.psm.platter = .ready then some s.seconds else s.psm.restRef
      drainAll := s.psm.drainAll && decide (dirtyCount slots ≠ 0) }
    lif := { s.lif with orderFrames := s.lif.orderFrames.filter fun p => p.tag ≠ tag } }

/-- The part with the fault recorded, the order gone from the issued set and the rest reference moved. -/
def State.received (s : State) (o : Issued) (code : CompletionCode) : State :=
  { s with
    cfu := (s.completionFault o.order code).cfu
    ou := { s.ou with issued := s.ou.issued.filter fun p => p.tag ≠ o.tag }
    psm := { s.psm with restRef := if s.psm.platter = .ready then some s.seconds else s.psm.restRef }
    lif := { s.lif with orderFrames := s.lif.orderFrames.filter fun p => p.tag ≠ o.tag } }

theorem moveRest_eq (s : State) : s.moveRest
    = { s with psm := { s.psm with restRef := if s.psm.platter = .ready then some s.seconds else s.psm.restRef } } := by
  unfold State.moveRest ready
  by_cases h : s.psm.platter = .ready <;> simp [h]

theorem completionFault_eq (s : State) (o : Order) (code : CompletionCode) :
    s.completionFault o code = { s with cfu := (s.completionFault o code).cfu } := by
  cases code with
  | flashFault | platterFault => exact recordFault_eq _ _ _
  | done | partialCopy | parked | refused | aborted => rfl

theorem received_eq (s : State) (o : Issued) (code : CompletionCode) :
    ((s.completionFault o.order code).dropIssued o.tag).moveRest = s.received o code := by
  rw [completionFault_eq, dropIssued_eq, moveRest_eq]
  rfl

section
variable (s : State) (o : Issued) (b : Binding) (code : CompletionCode) (copied : BlockSet)

theorem completeOrder_finishes (h : o.finishes (b.merged o code copied s.seconds) code) :
    completeOrder s o b code copied
      = ((s.received o code).leaveOrder o.order.slot (b.merged o code copied s.seconds) false).settleDrainAll := by
  rw [completeOrder, received_eq]
  unfold Binding.merged Issued.finishes at *
  cases hq : o.order.queue with
  | drain =>
    rw [hq] at h
    refine congrArg State.settleDrainAll (if_pos ?_)
    simp only [if_true, QueueId.kind] at h
    rcases h with h | h <;> simp [h]
  | pinFill | heatFill =>
    rw [hq] at h
    refine congrArg State.settleDrainAll (if_pos ?_)
    simp only [reduceCtorEq, if_false, QueueId.kind] at h
    rcases h with h | h | h <;> simp [h, Binding.complete, BlockSet.full, Binding.condemned]

theorem completeOrder_goesOn (h : ¬ o.finishes (b.merged o code copied s.seconds) code) :
    completeOrder s o b code copied
      = ((s.received o code).afterAttempt o.order (b.merged o code copied s.seconds) code).settleDrainAll := by
  rw [completeOrder, received_eq]
  unfold Binding.merged Issued.finishes at *
  cases hq : o.order.queue with
  | drain =>
    rw [hq] at h
    refine congrArg State.settleDrainAll (if_neg ?_)
    simp only [if_true, QueueId.kind, not_or] at h
    simp [h.1, h.2]
  | pinFill | heatFill =>
    rw [hq] at h
    refine congrArg State.settleDrainAll (if_neg ?_)
    simp only [reduceCtorEq, if_false, QueueId.kind, not_or] at h
    have hcomplete : ((b.struck code).fillMerge (copiedWithin o code copied)).complete = false := decide_eq_false h.2.1
    simp [h.1, hcomplete, Nat.lt_of_not_le h.2.2]


theorem completionFault_seconds (o : Order) : (s.completionFault o code).seconds = s.seconds := by
  rw [completionFault_eq]

theorem received_exhaustedFaults (q : QueueId) :
    (s.received o code).exhaustedFaults q = (s.completionFault o.order code).exhaustedFaults q :=
  recordFault_congr (s := s.completionFault o.order code) (u := s.received o code)
    (by rw [completionFault_seconds]; rfl) rfl _ _

theorem exhausted_withIssued (ou : OrderUnit) (issued : List Issued) (q : QueueId) :
    ({ ou with issued := issued } : OrderUnit).exhausted q = { ou.exhausted q with issued := issued } := by
  cases q <;> rfl

/-- The binding at HELD. -/
def Binding.held (m : Binding) : Binding := { m.orderless with state := .held }

/-- The order ends at a slot that comes to HELD. -/
theorem completeOrder_holds (h : o.finishes (b.merged o code copied s.seconds) code)
    (hkept : (b.merged o code copied s.seconds).strikes < 2 ∨ (b.merged o code copied s.seconds).dirty ≠ 0#64) :
    completeOrder s o b code copied = s.concluded o.tag
      (tset s.bt.slots o.order.slot (.bound (b.merged o code copied s.seconds).held)) s.ct.rows s.au s.ou
      { s.pu with scansOwed := s.pu.scansOwed + if (b.merged o code copied s.seconds).owners ≠ 0#4 then 1 else 0 }
      (s.completionFault o.order code).cfu := by
  rw [completeOrder_finishes s o b code copied h, leaveOrder_holds hkept, settleDrainAll_eq, startScanIf_pinned]
  rfl

/-- The order ends at a slot that retires (R16). -/
theorem completeOrder_retires (h : o.finishes (b.merged o code copied s.seconds) code)
    (hstrikes : 2 ≤ (b.merged o code copied s.seconds).strikes) (hclean : (b.merged o code copied s.seconds).dirty = 0#64) :
    completeOrder s o b code copied = s.concluded o.tag
      (tset s.bt.slots o.order.slot .retired) s.ct.rows s.au s.ou
      (s.pu.raise (b.merged o code copied s.seconds).owners .pinsDropped) (s.completionFault o.order code).cfu := by
  rw [completeOrder_finishes s o b code copied h, leaveOrder_retires hstrikes hclean, settleDrainAll_eq]
  rfl

/-- The order goes back to its queue (R110). -/
theorem completeOrder_returns (h : ¬ o.finishes (b.merged o code copied s.seconds) code)
    (hattempts : code.counted = true → 2 ≤ o.order.attempts) :
    completeOrder s o b code copied = s.concluded o.tag
      (tset s.bt.slots o.order.slot (.bound (b.merged o code copied s.seconds).orderless)) s.ct.rows s.au
      (s.ou.returned (o.order.after code) (o.order.notBefore code s.seconds)) s.pu
      (s.completionFault o.order code).cfu := by
  rw [completeOrder_goesOn s o b code copied h, afterAttempt_returns hattempts, returnOrder_eq, settleDrainAll_eq]
  have hou := returned_withIssued s.ou (o.order.after code) (s.ou.issued.filter fun p => p.tag ≠ o.tag)
    (o.order.notBefore code s.seconds)
  simp only [State.concluded, ← hou]
  rfl

section
variable (h : ¬ o.finishes (b.merged o code copied s.seconds) code) (hcounted : code.counted = true)
  (hattempts : o.order.attempts ≤ 1)
include h hcounted hattempts

/-- The order is exhausted and its slot released (R9, R50). -/
theorem completeOrder_releases (hq : o.order.queue = .heatFill) (hclean : (b.merged o code copied s.seconds).dirty = 0#64)
    (howners : (b.merged o code copied s.seconds).owners = 0#4) :
    completeOrder s o b code copied = s.concluded o.tag (terase s.bt.slots o.order.slot)
      (barExtent s.ct.rows (b.merged o code copied s.seconds).extent (after s.seconds s.policy.barPeriod))
      (s.au.exhausted o.order.queue) (s.ou.exhausted o.order.queue) s.pu
      ((s.completionFault o.order code).exhaustedFaults o.order.queue) := by
  have hstrikes : (b.merged o code copied s.seconds).strikes < 2 := by
    unfold Issued.finishes at h
    rw [hq] at h
    simp only [reduceCtorEq, if_false, not_or] at h
    omega
  rw [completeOrder_goesOn s o b code copied h, afterAttempt_exhausts hcounted hattempts,
    exhaust_releases _ { o.order with attempts := 0, backoff := 0 } _ hq hclean howners hstrikes, settleDrainAll_eq,
    received_exhaustedFaults]
  simp only [State.concluded, ← exhausted_withIssued]
  rfl

/-- The order is exhausted and its slot comes to HELD. -/
theorem completeOrder_exhausts
    (hnot : o.order.queue ≠ .heatFill ∨ (b.merged o code copied s.seconds).dirty ≠ 0#64
      ∨ (b.merged o code copied s.seconds).owners ≠ 0#4) :
    completeOrder s o b code copied = s.concluded o.tag
      (tset s.bt.slots o.order.slot (.bound (b.merged o code copied s.seconds).held)) s.ct.rows
      (s.au.exhausted o.order.queue) (s.ou.exhausted o.order.queue)
      { s.pu with scansOwed := s.pu.scansOwed + if (b.merged o code copied s.seconds).owners ≠ 0#4 then 1 else 0 }
      ((s.completionFault o.order code).exhaustedFaults o.order.queue) := by
  have hkept : (b.merged o code copied s.seconds).strikes < 2 ∨ (b.merged o code copied s.seconds).dirty ≠ 0#64 := by
    unfold Issued.finishes at h
    by_cases hdrain : o.order.queue = .drain
    · exact .inr fun hclean => h (.inr (by rwa [if_pos hdrain]))
    · exact .inl (Nat.lt_of_not_le fun hge => h (.inr (by rw [if_neg hdrain]; exact .inr hge)))
  have hheat : ¬ (o.order.queue = .heatFill ∧ (b.merged o code copied s.seconds).dirty = 0#64
      ∧ (b.merged o code copied s.seconds).owners = 0#4 ∧ (b.merged o code copied s.seconds).strikes < 2) := by
    rintro ⟨hq, hclean, howners, -⟩
    rcases hnot with hne | hdirty | hpinned
    · exact hne hq
    · exact hdirty hclean
    · exact hpinned howners
  rw [completeOrder_goesOn s o b code copied h, afterAttempt_exhausts hcounted hattempts,
    exhaust_holds _ { o.order with attempts := 0, backoff := 0 } _ hheat hkept, settleDrainAll_eq,
    received_exhaustedFaults]
  simp only [State.concluded, ← exhausted_withIssued]
  rfl

end

end

/-! ### What an accepted completion makes of the part -/

/-- The fields a merge leaves. -/
theorem merged_kept (b : Binding) (o : Issued) (code : CompletionCode) (copied : BlockSet) (now : Time) :
    (b.merged o code copied now).extent = b.extent ∧ (b.merged o code copied now).owners = b.owners
    ∧ (b.merged o code copied now).state = b.state := by
  rw [merged_eq b o code copied now rfl rfl rfl]
  exact ⟨rfl, rfl, rfl⟩

/-- The fault table with the condition record cleared. -/
def FaultUnit.cleared (c : FaultUnit) : FaultUnit := { c with cond := ⟨.none, .none, 0, 0#8, 0#16⟩ }

/-- What a COMPLETE does from `s` to `t`, `m` being the merged binding of the order `o`. -/
structure Completes (s : State) (f : Frame) (rest : List Frame) (o : Issued) (b m : Binding) (code : CompletionCode)
    (t : State) : Prop where
  others : ∀ k, k ≠ o.order.slot → tget t.bt.slots k = tget s.bt.slots k
  entry : m.valid ≠ b.valid ∨ m.dirty ≠ b.dirty ∨ m.strikes ≠ b.strikes → inLog t.mju.log o.order.slot = true
  psm : t.psm = { s.psm with
    restRef := if s.psm.platter = .ready then some s.seconds else s.psm.restRef
    drainAll := s.psm.drainAll && decide (dirtyCount t.bt.slots ≠ 0) }
  record : t = { s with
    bt := { s.bt with slots := t.bt.slots }, ct := { s.ct with rows := t.ct.rows }, au := t.au, ou := t.ou
    psm := t.psm, pu := t.pu, cfu := t.cfu, mju := { s.mju with log := t.mju.log }
    lif := { s.lif with
      orderFrames := s.lif.orderFrames.filter fun p => p.tag ≠ o.tag, deltaAsking := t.lif.deltaAsking }
    }.answered rest f.tag .bare
  finished : o.finishes m code →
    (m.strikes < 2 ∨ m.dirty ≠ 0#64 → bindingAt t.bt.slots o.order.slot = some m.held
      ∧ t.pu = { s.pu with scansOwed := s.pu.scansOwed + if b.owners ≠ 0#4 then 1 else 0 })
    ∧ (2 ≤ m.strikes → m.dirty = 0#64 → tget t.bt.slots o.order.slot = some .retired
      ∧ inLog t.mju.log o.order.slot = true ∧ t.pu.scansOwed = s.pu.scansOwed
      ∧ ∀ owner, owner ≤ 3 → t.pu.alert owner =
          if b.owners.getLsbD owner then some .pinsDropped else s.pu.alert owner)
    ∧ t.ou = { s.ou with issued := s.ou.issued.filter fun p => p.tag ≠ o.tag }
    ∧ t.cfu = (s.completionFault o.order code).cfu.cleared ∧ t.ct = s.ct ∧ t.au = s.au
  returned : ¬ o.finishes m code → (code.counted = true → 2 ≤ o.order.attempts) →
    bindingAt t.bt.slots o.order.slot = some m.orderless
    ∧ t.ou = { s.ou.returned (o.order.after code) (o.order.notBefore code s.seconds) with
        issued := s.ou.issued.filter fun p => p.tag ≠ o.tag }
    ∧ (m.valid = b.valid → m.dirty = b.dirty → m.strikes = b.strikes → t.mju = s.mju)
    ∧ t.cfu = (s.completionFault o.order code).cfu.cleared ∧ t.ct = s.ct ∧ t.au = s.au ∧ t.pu = s.pu
  exhausted : ¬ o.finishes m code → code.counted = true → o.order.attempts ≤ 1 →
    t.cfu = ((s.completionFault o.order code).exhaustedFaults o.order.queue).cleared
    ∧ (o.order.queue = .heatFill → m.dirty = 0#64 → b.owners = 0#4 →
      tget t.bt.slots o.order.slot = none ∧ inLog t.mju.log o.order.slot = true ∧ t.pu = s.pu
      ∧ s.barRule b.extent t.ct.rows)
    ∧ (o.order.queue ≠ .heatFill ∨ m.dirty ≠ 0#64 ∨ b.owners ≠ 0#4 →
      bindingAt t.bt.slots o.order.slot = some m.held ∧ t.ct = s.ct
      ∧ t.pu = { s.pu with scansOwed := s.pu.scansOwed + if b.owners ≠ 0#4 then 1 else 0 })
    ∧ t.au = s.au.exhausted o.order.queue
    ∧ t.ou = { s.ou.exhausted o.order.queue with issued := s.ou.issued.filter fun p => p.tag ≠ o.tag }

section
variable {s : State} {f : Frame} {rest : List Frame} {o : Issued} {b : Binding} {code : CompletionCode}

theorem exec_complete (hlife : s.mju.life = .active) (hturn : s.turn 0x40#8 f rest) (hlen : f.body.length = 11)
    (hcode : completionOf (fieldAt f.body 2 1) = some code) (ho : issuedWith s.ou.issued (completeTag f) = some o)
    (hb : bindingAt s.bt.slots o.order.slot = some b) :
    exec .complete s = .next (acceptCompletion f (s.taken rest) o b code (completeCopied f)) := by
  have hkind : f.kind = 0x40#8 := hturn.2.1
  rw [exec_of_turn (i := .complete) (serve := serveComplete) rfl hturn (requestRow_complete hkind) (by rw [hlife]; rfl)
    (by rw [hlen]; rfl), serveComplete]
  simp only [hcode, State.withIntake_ou, ho, State.withIntake_bt, hb]

theorem acceptCompletion_room {copied : BlockSet} {u : State} (hu : completeOrder s o b code copied = u)
    (hroom : persistedChanged s.bt.slots u.bt.slots o.order.slot = false ∨ s.mju.log.length < 256) :
    acceptCompletion f s o b code copied = (u.logChange s.bt.slots [o.order.slot]).answerOk f.tag .bare := by
  rw [acceptCompletion, hu, if_pos]
  exact orderRoom_single.mpr (hroom.imp_right .inr)

theorem changed_of_ne {p : Bool} {P Q R : Prop} (h : p = false ↔ P ∧ Q ∧ R) (hne : ¬ P ∨ ¬ Q ∨ ¬ R) : p = true := by
  rw [← Bool.not_eq_false, h]
  tauto

/-- A slot bound after the completion: its entry is made where its persisted form has changed. -/
theorem persistedChanged_merged {m c : Binding} (hb : bindingAt s.bt.slots o.order.slot = some b)
    (hm : m.extent = b.extent ∧ m.owners = b.owners ∧ m.state = b.state)
    (hc : c = m.held ∨ c = m.orderless) :
    persistedChanged s.bt.slots (tset s.bt.slots o.order.slot (.bound c)) o.order.slot = false ↔
      m.valid = b.valid ∧ m.dirty = b.dirty ∧ m.strikes = b.strikes := by
  have hfields : c.extent = m.extent ∧ c.owners = m.owners ∧ c.strikes = m.strikes ∧ c.valid = m.valid
      ∧ c.dirty = m.dirty := by
    rcases hc with rfl | rfl <;> exact ⟨rfl, rfl, rfl, rfl, rfl⟩
  obtain ⟨hextent, howners, hstrikes, hvalid, hdirty⟩ := hfields
  rw [persistedChanged_bound hb (bindingAt_tset_same ..), hextent, howners, hstrikes, hvalid, hdirty, hm.1, hm.2.1]
  constructor
  · rintro ⟨-, -, h1, h2, h3⟩
    exact ⟨h2.symm, h3.symm, h1.symm⟩
  · rintro ⟨h2, h3, h1⟩
    exact ⟨rfl, rfl, h1.symm, h2.symm, h3.symm⟩

theorem completionFault_taken (s : State) (rest : List Frame) (o : Order) (code : CompletionCode) :
    ((s.taken rest).completionFault o code).cfu = (s.completionFault o code).cfu := by
  cases code with
  | flashFault | platterFault => exact recordFault_congr (s := s) (u := s.taken rest) rfl rfl _ _
  | done | partialCopy | parked | refused | aborted => rfl

theorem exhaustedFaults_taken (s : State) (rest : List Frame) (o : Order) (code : CompletionCode) (q : QueueId) :
    ((s.taken rest).completionFault o code).exhaustedFaults q = (s.completionFault o code).exhaustedFaults q :=
  recordFault_congr (s := s.completionFault o code) (u := (s.taken rest).completionFault o code)
    (by rw [completionFault_seconds, completionFault_seconds]; rfl) (completionFault_taken s rest o code) _ _

section
variable (hlife : s.mju.life = .active) (hturn : s.turn 0x40#8 f rest) (hlen : f.body.length = 11)
  (hcode : completionOf (fieldAt f.body 2 1) = some code) (ho : issuedWith s.ou.issued (completeTag f) = some o)
  (hb : bindingAt s.bt.slots o.order.slot = some b)
include hlife hturn hlen hcode ho hb

/-- The common part of the outcomes: the change is made, and the log has the slot's entry if its persisted form changes. -/
theorem exec_complete_concluded {slots : List (Nat × Slot)} {rows : List (Nat × Row)} {au : Admission}
    {ou : OrderUnit} {pu : PinUnit} {cfu : FaultUnit}
    (hu : completeOrder (s.taken rest) o b code (completeCopied f) = (s.taken rest).concluded o.tag slots rows au ou pu cfu)
    (hroom : persistedChanged s.bt.slots slots o.order.slot = false ∨ s.mju.log.length < 256) :
    ∃ t, exec .complete s = .next t ∧ t.bt.slots = slots ∧ t.ct = { s.ct with rows := rows } ∧ t.au = au
      ∧ t.ou = { ou with issued := s.ou.issued.filter fun p => p.tag ≠ o.tag } ∧ t.pu = pu ∧ t.cfu = cfu.cleared
      ∧ (persistedChanged s.bt.slots slots o.order.slot = true → inLog t.mju.log o.order.slot = true)
      ∧ (persistedChanged s.bt.slots slots o.order.slot = false → t.mju = s.mju)
      ∧ t.psm = { s.psm with
          restRef := if s.psm.platter = .ready then some s.seconds else s.psm.restRef
          drainAll := s.psm.drainAll && decide (dirtyCount t.bt.slots ≠ 0) }
      ∧ t = { s with
          bt := { s.bt with slots := t.bt.slots }, ct := { s.ct with rows := t.ct.rows }, au := t.au, ou := t.ou
          psm := t.psm, pu := t.pu, cfu := t.cfu, mju := { s.mju with log := t.mju.log }
          lif := { s.lif with
            orderFrames := s.lif.orderFrames.filter fun p => p.tag ≠ o.tag, deltaAsking := t.lif.deltaAsking }
          }.answered rest f.tag .bare :=
  ⟨_, (exec_complete hlife hturn hlen hcode ho hb).trans (congrArg _ (acceptCompletion_room hu hroom)), rfl, rfl, rfl, rfl,
    rfl, rfl,
    fun h => inLog_logChange (s := (s.taken rest).concluded o.tag slots rows au ou pu cfu) (List.mem_singleton_self _) h,
    fun h => logChange_mju_same (s := (s.taken rest).concluded o.tag slots rows au ou pu cfu) h, rfl, rfl⟩

variable {m : Binding} (hm : m = b.merged o code (completeCopied f) s.seconds)
include hm

theorem completes_retired (hfin : o.finishes m code) (hstrikes : 2 ≤ m.strikes) (hclean : m.dirty = 0#64)
    (hroom : s.mju.log.length < 256) : ∃ t, exec .complete s = .next t ∧ Completes s f rest o b m code t := by
  obtain ⟨-, howners, -⟩ := hm ▸ merged_kept b o code (completeCopied f) s.seconds
  obtain ⟨t, hexec, hslots, hct, hau, hou, hpu, hcfu, hin, -, hpsm, hrec⟩ :=
    exec_complete_concluded hlife hturn hlen hcode ho hb
      (completeOrder_retires (s.taken rest) o b code _ (hm ▸ hfin) (hm ▸ hstrikes) (hm ▸ hclean)) (.inr hroom)
  have hlogged := hin (persistedChanged_tset_retired hb)
  rw [completionFault_taken] at hcfu
  refine ⟨t, hexec, fun k hk => ?_, fun _ => hlogged, hpsm, hrec, fun _ => ⟨fun h => ?_, fun _ _ => ⟨?_, hlogged, ?_, ?_⟩,
    hou, hcfu, hct, hau⟩, fun h => absurd hfin h, fun h => absurd hfin h⟩
  · rw [hslots]; exact tget_tset_ne _ _ hk
  · rcases h with hlt | hdirty
    · exact absurd hstrikes hlt.not_ge
    · exact absurd hclean hdirty
  · rw [hslots]; exact tget_tset_same _ _ _
  · rw [hpu]; rfl
  · intro owner howner
    rw [hpu, PinUnit.alert_raise _ _ _ howner, ← howners, hm]
    rfl

theorem completes_held (hfin : o.finishes m code) (hkept : m.strikes < 2 ∨ m.dirty ≠ 0#64)
    (hroom : s.mju.log.length < 256 ∨ (m.valid = b.valid ∧ m.dirty = b.dirty ∧ m.strikes = b.strikes)) :
    ∃ t, exec .complete s = .next t ∧ Completes s f rest o b m code t := by
  have hmkept := hm ▸ merged_kept b o code (completeCopied f) s.seconds
  have hsame := persistedChanged_merged hb hmkept (.inl rfl)
  obtain ⟨t, hexec, hslots, hct, hau, hou, hpu, hcfu, hin, -, hpsm, hrec⟩ :=
    exec_complete_concluded hlife hturn hlen hcode ho hb
      (completeOrder_holds (s.taken rest) o b code _ (hm ▸ hfin) (hm ▸ hkept))
      (hroom.symm.imp_left fun h => by subst hm; exact hsame.mpr h)
  rw [completionFault_taken] at hcfu
  subst hm
  refine ⟨t, hexec, fun k hk => ?_, fun hne => hin ?_, hpsm, hrec, fun _ => ⟨fun _ => ⟨?_, ?_⟩, fun hstrikes hclean => ?_,
    hou, hcfu, hct, hau⟩, fun h => absurd hfin h, fun h => absurd hfin h⟩
  · rw [hslots]; exact tget_tset_ne _ _ hk
  · exact changed_of_ne hsame hne
  · rw [hslots]; exact bindingAt_tset_same ..
  · rw [hpu, ← hmkept.2.1]; rfl
  · rcases hkept with hlt | hdirty
    · exact absurd hstrikes hlt.not_ge
    · exact absurd hclean hdirty

theorem completes_returned (hfin : ¬ o.finishes m code) (hattempts : code.counted = true → 2 ≤ o.order.attempts)
    (hroom : s.mju.log.length < 256 ∨ (m.valid = b.valid ∧ m.dirty = b.dirty ∧ m.strikes = b.strikes)) :
    ∃ t, exec .complete s = .next t ∧ Completes s f rest o b m code t := by
  have hmkept := hm ▸ merged_kept b o code (completeCopied f) s.seconds
  have hsame := persistedChanged_merged hb hmkept (.inr rfl)
  obtain ⟨t, hexec, hslots, hct, hau, hou, hpu, hcfu, hin, hstay, hpsm, hrec⟩ :=
    exec_complete_concluded hlife hturn hlen hcode ho hb
      (completeOrder_returns (s.taken rest) o b code _ (hm ▸ hfin) hattempts)
      (hroom.symm.imp_left fun h => by subst hm; exact hsame.mpr h)
  rw [completionFault_taken] at hcfu
  subst hm
  refine ⟨t, hexec, fun k hk => ?_, fun hne => hin ?_, hpsm, hrec, fun h => absurd h hfin, fun _ _ => ⟨?_, hou,
    fun h1 h2 h3 => hstay (hsame.mpr ⟨h1, h2, h3⟩), hcfu, hct, hau, hpu⟩, fun _ hcounted hle => ?_⟩
  · rw [hslots]; exact tget_tset_ne _ _ hk
  · exact changed_of_ne hsame hne
  · rw [hslots]; exact bindingAt_tset_same ..
  · have := hattempts hcounted
    omega

variable (hfin : ¬ o.finishes m code) (hcounted : code.counted = true) (hattempts : o.order.attempts ≤ 1)
  (hroom : s.mju.log.length < 256)
include hfin hcounted hattempts hroom

theorem completes_released (hq : o.order.queue = .heatFill) (hclean : m.dirty = 0#64) (howners : b.owners = 0#4) :
    ∃ t, exec .complete s = .next t ∧ Completes s f rest o b m code t := by
  obtain ⟨hextent, hmowners, -⟩ := hm ▸ merged_kept b o code (completeCopied f) s.seconds
  obtain ⟨t, hexec, hslots, hct, hau, hou, hpu, hcfu, hin, -, hpsm, hrec⟩ :=
    exec_complete_concluded hlife hturn hlen hcode ho hb
      (completeOrder_releases (s.taken rest) o b code _ (hm ▸ hfin) hcounted hattempts hq (hm ▸ hclean)
        (by subst hm; exact hmowners.trans howners)) (.inr hroom)
  have hlogged := hin (persistedChanged_terase hb)
  rw [exhaustedFaults_taken] at hcfu
  refine ⟨t, hexec, fun k hk => ?_, fun _ => hlogged, hpsm, hrec, fun h => absurd h hfin, fun _ h => ?_,
    fun _ _ _ => ⟨hcfu, fun _ _ _ => ⟨?_, hlogged, hpu, ?_⟩, fun h => ?_, hau, hou⟩⟩
  · rw [hslots]; exact tget_terase_ne _ hk
  · have := h hcounted
    omega
  · rw [hslots]; exact tget_terase_same _ _
  · rw [hct, ← hextent, hm]
    exact barRule_barExtent s _
  · rcases h with h | h | h
    · exact absurd hq h
    · exact absurd hclean h
    · exact absurd howners h

theorem completes_exhausted (hnot : o.order.queue ≠ .heatFill ∨ m.dirty ≠ 0#64 ∨ b.owners ≠ 0#4) :
    ∃ t, exec .complete s = .next t ∧ Completes s f rest o b m code t := by
  have hmkept := hm ▸ merged_kept b o code (completeCopied f) s.seconds
  have hsame := persistedChanged_merged hb hmkept (.inl rfl)
  obtain ⟨t, hexec, hslots, hct, hau, hou, hpu, hcfu, hin, -, hpsm, hrec⟩ :=
    exec_complete_concluded hlife hturn hlen hcode ho hb
      (completeOrder_exhausts (s.taken rest) o b code _ (hm ▸ hfin) hcounted hattempts
        (by subst hm; exact hnot.imp_right (.imp_right fun h => hmkept.2.1 ▸ h))) (.inr hroom)
  rw [exhaustedFaults_taken] at hcfu
  subst hm
  refine ⟨t, hexec, fun k hk => ?_, fun hne => hin ?_, hpsm, hrec, fun h => absurd h hfin, fun _ h => ?_,
    fun _ _ _ => ⟨hcfu, fun hq hclean howners => ?_, fun _ => ⟨?_, hct, ?_⟩, hau, hou⟩⟩
  · rw [hslots]; exact tget_tset_ne _ _ hk
  · exact changed_of_ne hsame hne
  · have := h hcounted
    omega
  · rcases hnot with h | h | h
    · exact absurd hq h
    · exact absurd hclean h
    · exact absurd howners h
  · rw [hslots]; exact bindingAt_tset_same ..
  · rw [hpu, ← hmkept.2.1]; rfl

end

/-- An accepted COMPLETE, by what becomes of its order: it ends at a slot HELD or RETIRED, goes back, or is exhausted at a slot
released or HELD. -/
theorem exec_completes {m : Binding} (hlife : s.mju.life = .active) (hturn : s.turn 0x40#8 f rest)
    (hlen : f.body.length = 11) (hcode : completionOf (fieldAt f.body 2 1) = some code)
    (ho : issuedWith s.ou.issued (completeTag f) = some o) (hb : bindingAt s.bt.slots o.order.slot = some b)
    (hm : m = b.merged o code (completeCopied f) s.seconds)
    (hroom : s.mju.log.length < 256 ∨ (m.valid = b.valid ∧ m.dirty = b.dirty ∧ m.strikes = b.strikes)
      ∧ (m.strikes < 2 ∨ m.dirty ≠ 0#64) ∧ (code.counted = true → 2 ≤ o.order.attempts)) :
    ∃ t, exec .complete s = .next t ∧ Completes s f rest o b m code t := by
  by_cases hfin : o.finishes m code
  · by_cases hretires : 2 ≤ m.strikes ∧ m.dirty = 0#64
    · obtain ⟨hstrikes, hclean⟩ := hretires
      refine completes_retired hlife hturn hlen hcode ho hb hm hfin hstrikes hclean ?_
      rcases hroom with h | ⟨-, hlt | hdirty, -⟩
      · exact h
      · exact absurd hstrikes hlt.not_ge
      · exact absurd hclean hdirty
    · refine completes_held hlife hturn hlen hcode ho hb hm hfin ?_ (hroom.imp_right And.left)
      by_contra! h
      exact hretires h
  · by_cases hattempts : code.counted = true → 2 ≤ o.order.attempts
    · exact completes_returned hlife hturn hlen hcode ho hb hm hfin hattempts (hroom.imp_right And.left)
    · have hlog : s.mju.log.length < 256 := hroom.resolve_right fun h => hattempts h.2.2
      obtain ⟨hcounted, hlt⟩ := Classical.not_imp.mp hattempts
      have hle : o.order.attempts ≤ 1 := by omega
      by_cases hreleased : o.order.queue = .heatFill ∧ m.dirty = 0#64 ∧ b.owners = 0#4
      · obtain ⟨hq, hclean, howners⟩ := hreleased
        exact completes_released hlife hturn hlen hcode ho hb hm hfin hcounted hle hlog hq hclean howners
      · exact completes_exhausted hlife hturn hlen hcode ho hb hm hfin hcounted hle hlog (by tauto)

end

end Sys2Proof.Machine
end


section
/-! SUPPORT. The room rule of the delta log (R155), for any command that tests it. -/

namespace Sys2Proof.Machine

/-- The part with another delta log. -/
def State.withLog (s : State) (log : List LogEntry) : State := { s with mju := { s.mju with log := log } }

/-- The log grows by one entry for each slot whose persisted form changes and that had none. -/
theorem grownLog_length {now : Time} {before after : List (Nat × Slot)} {log : List LogEntry} {ks fresh : List Nat}
    (hks : ∀ k, persistedChanged before after k = true → k ∈ ks) (hnodup : fresh.Nodup)
    (hfresh : ∀ k, k ∈ fresh ↔ inLog log k = false ∧ persistedChanged before after k = true) :
    (grownLog now before after log ks).length = log.length + fresh.length := by
  obtain ⟨made, hgrown, hmade, hentries⟩ := grownLog_appends now before after log ks
  have hperm : (made.map LogEntry.slot).Perm fresh := by
    refine (List.perm_ext_iff_of_nodup hmade hnodup).mpr fun k => ?_
    have hin := inLog_grownLog now before after log ks k
    rw [hgrown] at hin
    rw [hfresh]
    constructor
    · intro hk
      obtain ⟨e, he, rfl⟩ := List.mem_map.mp hk
      obtain ⟨-, hnot⟩ := hentries e he
      refine ⟨hnot, ?_⟩
      have hgrew : inLog (log ++ made) e.slot = true := by
        simp only [inLog, List.any_append, Bool.or_eq_true, List.any_eq_true]
        exact .inr ⟨e, he, by simp⟩
      rcases hin.mp hgrew with h | h
      · rw [hnot] at h; cases h
      · exact h.2
    · rintro ⟨hnot, hchanged⟩
      have hgrew := hin.mpr (.inr ⟨hks k hchanged, hchanged⟩)
      by_contra hk
      rw [← Bool.not_eq_false, inLog_eq_false, List.map_append, List.mem_append, not_not] at hgrew
      rcases hgrew with h | h
      · exact inLog_eq_false.mp hnot h
      · exact hk h
  rw [hgrown, List.length_append, ← hperm.length_eq, List.length_map]

/-- A command whose effect on the slots and whose reply do not depend on the log, and which is made only with the room for
its entries, keeps the rule of R155. -/
theorem roomRule_of {s : State} {limit : Nat} {c : Instr} {f : Frame} {rest : List Frame}
    (h : (∀ (log : List LogEntry) t body, exec c (s.withLog log) = .next t → t.lif.reply ≠ some ⟨f.tag, .ok body⟩)
      ∨ ∃ (bt : BindingTable) (reply : Option Reply) (ks : List Nat) (made : List LogEntry → State),
        (∀ k, persistedChanged s.bt.slots bt.slots k = true → k ∈ ks ∧ k < s.bt.n)
        ∧ ∀ log, (made log).bt = bt ∧ (made log).lif.reply = reply
          ∧ exec c (s.withLog log) = .next
              (if (grownLog s.seconds s.bt.slots bt.slots log ks).length ≤ log.length
                  ∨ (grownLog s.seconds s.bt.slots bt.slots log ks).length ≤ limit
                then made log else (s.withLog log).replied rest f.tag .retry)) :
    s.roomRule limit c f rest := by
  intro full t body fresh hfull hexec hreply hnodup hfresh
  rcases h with hno | ⟨bt, reply, ks, made, hks, hmade⟩
  · exact absurd hreply (hno full t body hexec)
  · have hwhole : (grownLog s.seconds s.bt.slots bt.slots full ks).length ≤ full.length := by
      rw [grownLog_length (fresh := []) (fun k hk => (hks k hk).1) List.nodup_nil fun k => ?_]
      · exact le_rfl
      · simp only [List.not_mem_nil, false_iff, not_and]
        exact fun hnot hchanged => by simp [hfull k (hks k hchanged).2] at hnot
    obtain ⟨hbt, hrep, hexecFull⟩ := hmade full
    rw [if_pos (.inl hwhole)] at hexecFull
    obtain rfl : made full = t := Host.Outcome.next.inj (hexecFull.symm.trans hexec)
    obtain ⟨hbtS, hrepS, hexecS⟩ := hmade s.mju.log
    have hlen : (grownLog s.seconds s.bt.slots bt.slots s.mju.log ks).length = s.mju.log.length + fresh.length :=
      grownLog_length (fun k hk => (hks k hk).1) hnodup fun k => by
        rw [hfresh, hbt, persistedChanged, decide_eq_true_iff]
    rw [hlen] at hexecS
    constructor
    · intro hroom
      refine ⟨made s.mju.log, hexecS.trans (congrArg _ (if_pos ?_)), hbtS.trans hbt.symm, hrepS.trans hrep.symm⟩
      rcases hroom with rfl | hle
      · exact .inl le_rfl
      · exact .inr hle
    · intro hne hlimit
      have hpos := List.length_pos_of_ne_nil hne
      exact hexecS.trans (congrArg _ (if_neg (by omega)))

/-- The rule for a request in its turn in ACTIVE, by its serve. -/
theorem roomRule_of_serve {s : State} {limit : Nat} {c : Instr} {row : RequestRow} {serve : Frame → State → State} {kind : Byte}
    {f : Frame} {rest : List Frame} (hexec : ∀ v, exec c v = .next (takeRequest row serve v)) (hturn : s.turn kind f rest)
    (hrow : requestRow f = row) (hphase : phaseRefusal row s.mju.life = none)
    (h : (∀ (log : List LogEntry) body, (serve f ((s.taken rest).withLog log)).lif.reply ≠ some ⟨f.tag, .ok body⟩)
      ∨ ∃ (bt : BindingTable) (reply : Option Reply) (ks : List Nat) (made : List LogEntry → State),
        (∀ k, persistedChanged s.bt.slots bt.slots k = true → k ∈ ks ∧ k < s.bt.n)
        ∧ ∀ log, (made log).bt = bt ∧ (made log).lif.reply = reply
          ∧ serve f ((s.taken rest).withLog log) =
              if (grownLog s.seconds s.bt.slots bt.slots log ks).length ≤ log.length
                  ∨ (grownLog s.seconds s.bt.slots bt.slots log ks).length ≤ limit
                then made log else ((s.taken rest).withLog log).reply f.tag .retry) :
    s.roomRule limit c f rest := by
  by_cases hlen : lengthOk row f.body.length = true
  · have hserve : ∀ log, exec c (s.withLog log) = .next (serve f ((s.taken rest).withLog log)) := fun log =>
      (hexec _).trans (congrArg _ (takeRequest_of_turn (s := s.withLog log) serve hturn hrow hphase hlen))
    refine roomRule_of ?_
    rcases h with hno | ⟨bt, reply, ks, made, hks, hmade⟩
    · refine .inl fun log t body ht => ?_
      obtain rfl := Host.Outcome.next.inj ((hserve log).symm.trans ht)
      exact hno log body
    · refine .inr ⟨bt, reply, ks, made, hks, fun log => ?_⟩
      obtain ⟨hbt, hreply, heq⟩ := hmade log
      exact ⟨hbt, hreply, (hserve log).trans (congrArg _ heq)⟩
  · refine roomRule_of (.inl fun log t body ht => ?_)
    rw [hexec, takeRequest_badLength_of_turn (s := s.withLog log) serve hturn hrow hphase (by simpa using hlen)] at ht
    obtain rfl := Host.Outcome.next.inj ht
    exact fun hreply => by cases hreply

end Sys2Proof.Machine
end


section
/-! SUPPORT. The claims on COMPLETE of an issued order. -/

namespace Sys2Proof.Machine

/-- What the numbers of section 10.7 say of a code. -/
theorem completionOf_code {n : Nat} {code : CompletionCode} (h : completionOf n = some code) :
    (code.counted = true ↔ n = 1 ∨ n = 4 ∨ n = 5) ∧ (code = .refused ↔ n = 3) ∧ (code = .flashFault ↔ n = 4)
    ∧ (code = .done ↔ n = 0) ∧ (code = .platterFault ↔ n = 5) := by
  have hn : n ≤ 6 := by
    by_contra hlt
    rw [(completionOf_eq_none_iff n).mpr (by omega)] at h
    cases h
  interval_cases n <;> obtain rfl := Option.some.inj h <;> decide

theorem copiedWithin_done (o : Issued) (copied : BlockSet) : copiedWithin o .done copied = o.blocks := if_pos rfl

theorem copiedWithin_other {code : CompletionCode} (h : code ≠ .done) (o : Issued) (copied : BlockSet) :
    copiedWithin o code copied = copied &&& o.blocks := if_neg h

/-- Settles O37: DONE finishes every order. -/
theorem completeDoneEndsTheOrder : Obligations.CompleteDoneEndsTheOrder := by
  intro s f rest tag o b v d hlife hturn hlen htag hfield ho hb hlog hv hd
  have hcode : completionOf (fieldAt f.body 2 1) = some .done := by rw [hfield]; rfl
  have hm := merged_eq b o .done (completeCopied f) s.seconds (copiedWithin_done _ _).symm hv hd
  rw [struck_other (by decide)] at hm
  have hissued : issuedWith s.ou.issued (completeTag f) = some o := by rw [completeTag, ← htag, ho]
  obtain rfl : o.tag = tag := tag_of_issuedWith ho
  obtain ⟨t, hexec, ht⟩ := exec_completes hlife hturn hlen hcode hissued hb hm.symm (.inl hlog)
  obtain ⟨hheld, hretired, hou, hcfu, hct, hau⟩ := ht.finished (.inl rfl)
  refine ⟨t, hexec, hheld, hretired, ht.others, fun h => ht.entry ?_, hou, ht.psm, ?_⟩
  · exact h.imp_right .inl
  · refine ht.record.trans ?_
    rw [hcfu, hct, hau]
    rfl

/-- Whether an order is finished by a code other than DONE. -/
theorem finishes_iff {o : Issued} {m : Binding} {code : CompletionCode} (h : code ≠ .done) :
    o.finishes m code ↔ if o.order.queue = .drain then m.dirty = 0#64 else m.valid = BitVec.allOnes 64 ∨ 2 ≤ m.strikes :=
  or_iff_right h

theorem not_finishes_iff {o : Issued} {m : Binding} {code : CompletionCode} (h : code ≠ .done) :
    ¬ o.finishes m code ↔
      if o.order.queue = .drain then m.dirty ≠ 0#64 else m.valid ≠ BitVec.allOnes 64 ∧ m.strikes < 2 := by
  rw [finishes_iff h]
  split
  · exact Iff.rfl
  · rw [not_or, Nat.not_le]

/-- The exhaustion by the queue: a heat fill starts a picker run, another order's queue is halted. -/
theorem exhausted_units (s : State) (q : QueueId) (issued : List Issued) :
    (q = .heatFill → s.au.exhausted q = { s.au with runsOwed := s.au.runsOwed + 1 }
      ∧ ({ s.ou.exhausted q with issued := issued } : OrderUnit) = { s.ou with issued := issued })
    ∧ (q ≠ .heatFill → s.au.exhausted q = s.au
      ∧ ({ s.ou.exhausted q with issued := issued } : OrderUnit)
        = { s.ou.setQueue q { s.ou.queue q with halted := true } with issued := issued }) := by
  refine ⟨fun hq => ⟨if_pos hq, ?_⟩, fun hq => ⟨if_neg hq, ?_⟩⟩
  · rw [OrderUnit.exhausted, if_pos hq]
  · rw [OrderUnit.exhausted, if_neg hq]

/-- The order as it goes back, by the number of the code. -/
theorem after_eq {o : Order} {c : CompletionCode} {code interval : Nat} {counts : Prop} [Decidable counts]
    (hcounts : c.counted = true ↔ counts) (hrefused : c = .refused ↔ code = 3)
    (hinterval : interval = if code = 3 then if o.backoff = 0 then 1 else min 60 (2 * o.backoff) else 0) :
    o.after c = { o with attempts := if counts then o.attempts - 1 else o.attempts, backoff := interval } := by
  rw [Order.after, hinterval, if_congr hcounts rfl rfl, if_congr hrefused rfl rfl]
  rfl

theorem notBefore_eq {o : Order} {c : CompletionCode} {code interval : Nat} {now : Time} (hrefused : c = .refused ↔ code = 3)
    (hinterval : interval = if code = 3 then if o.backoff = 0 then 1 else min 60 (2 * o.backoff) else 0) :
    o.notBefore c now = if code = 3 then some (now + BitVec.ofNat 32 interval) else none := by
  rw [Order.notBefore, if_congr hrefused rfl rfl]
  by_cases h : code = 3
  · rw [if_pos h, if_pos h, hinterval, if_pos h]
    rfl
  · rw [if_neg h, if_neg h]

/-- Settles O38: of these codes PARTIAL and PLATTER-FAULT count an attempt, and REFUSED backs off. -/
theorem completeReturnsTheOrder : Obligations.CompleteReturnsTheOrder := by
  intro s f rest tag o b held code interval copied v d faulted hlife hturn hlen htag hfield hcopied ho hb hcodes hv hd hheld
    hinterval hfaulted hroom
  obtain ⟨c, hc⟩ : ∃ c, completionOf code = some c := by
    rcases hcodes with rfl | rfl | rfl | rfl | rfl <;> exact ⟨_, rfl⟩
  obtain ⟨hcounted, hrefused, hflash, hdone, hplatter⟩ := completionOf_code hc
  have hnotDone : c ≠ .done := fun h => by have := hdone.mp h; omega
  have hnotFlash : c ≠ .flashFault := fun h => by have := hflash.mp h; omega
  have hcounts : c.counted = true ↔ code = 1 ∨ code = 5 := hcounted.trans (by omega)
  have hissued : issuedWith s.ou.issued (completeTag f) = some o := by rw [completeTag, ← htag, ho]
  have hm := merged_eq b o c (completeCopied f) s.seconds (hcopied.trans (copiedWithin_other hnotDone _ _).symm) hv hd
  rw [struck_other hnotFlash] at hm
  have hfault : (s.completionFault o.order c).cfu = faulted.cfu := by
    rw [hfaulted]
    cases c with
    | platterFault => rw [if_pos (hplatter.mp rfl)]; rfl
    | flashFault => exact absurd rfl hnotFlash
    | done | partialCopy | parked | refused | aborted =>
      rw [if_neg fun h => by have := hplatter.mpr h; cases this]
      rfl
  obtain rfl : o.tag = tag := tag_of_issuedWith ho
  obtain ⟨t, hexec, ht⟩ := exec_completes hlife hturn hlen (hfield ▸ hc) hissued hb hm.symm
    (hroom.imp_right fun ⟨h1, h2, h3, h4⟩ => ⟨⟨h1, h2, rfl⟩, h4, fun h => h3 (hcounts.mp h)⟩)
  refine ⟨t, hexec, ht.others, fun h => ht.entry (h.imp_right .inl), ht.psm, ht.record, fun hfin => ?_, fun hgoes hleft => ?_,
    fun hgoes hcode hlast => ?_⟩
  · obtain ⟨hends, hretired, hou, hcfu, hct, hau⟩ := ht.finished ((finishes_iff hnotDone).mpr hfin)
    rw [hheld]
    exact ⟨hends, hretired, hou, hfault ▸ hcfu, hct, hau⟩
  · obtain ⟨hbound, hou, hsame, hcfu, hct, hau, hpu⟩ :=
      ht.returned ((not_finishes_iff hnotDone).mpr hgoes) fun h => by have := hcounts.mp h; omega
    refine ⟨?_, hou.trans ?_, fun h1 h2 => hsame h1 h2 rfl, hfault ▸ hcfu, hct, hau, hpu⟩
    · rw [hbound, hheld]; rfl
    · rw [after_eq hcounts hrefused hinterval, notBefore_eq hrefused hinterval]
      rfl
  · obtain ⟨hcfu, hreleased, hkept, hau, hou⟩ :=
      ht.exhausted ((not_finishes_iff hnotDone).mpr hgoes) (hcounts.mpr hcode) hlast.le
    obtain ⟨hheat, hother⟩ := exhausted_units s o.order.queue (s.ou.issued.filter fun p => p.tag ≠ o.tag)
    refine ⟨hcfu.trans ?_, hreleased, fun h => ?_, fun hq => ⟨hau.trans (hheat hq).1, hou.trans (hheat hq).2⟩,
      fun hq => ⟨hau.trans (hother hq).1, hou.trans (hother hq).2⟩⟩
    · have hseconds : faulted.seconds = s.seconds := by
        rw [hfaulted]
        split
        · exact State.recordFault_seconds ..
        · rfl
      exact congrArg FaultUnit.cleared (recordFault_congr (s := faulted) (u := s.completionFault o.order c)
        ((completionFault_seconds ..).trans hseconds.symm) hfault _ _)
    · rw [hheld]; exact hkept h

/-! ### The room of a COMPLETE (R107, R155) -/

/-- The slots after an accepted completion, whatever the log: only the order's slot changes. -/
theorem completeOrder_slots (s : State) (o : Issued) (b : Binding) (code : CompletionCode) (copied : BlockSet) :
    ∃ slots, (∀ j, j ≠ o.order.slot → tget slots j = tget s.bt.slots j)
      ∧ ∀ log, (completeOrder (s.withLog log) o b code copied).bt = { s.bt with slots := slots } := by
  set m := b.merged o code copied s.seconds with hm
  by_cases hfin : o.finishes m code
  · by_cases hretires : 2 ≤ m.strikes ∧ m.dirty = 0#64
    · exact ⟨_, fun j hj => tget_tset_ne _ _ hj,
        fun log => congrArg State.bt (completeOrder_retires (s.withLog log) o b code copied hfin hretires.1 hretires.2)⟩
    · refine ⟨tset s.bt.slots o.order.slot (.bound m.held), fun j hj => tget_tset_ne _ _ hj,
        fun log => congrArg State.bt (completeOrder_holds (s.withLog log) o b code copied hfin ?_)⟩
      by_contra! h
      exact hretires h
  · by_cases hattempts : code.counted = true → 2 ≤ o.order.attempts
    · exact ⟨tset s.bt.slots o.order.slot (.bound m.orderless), fun j hj => tget_tset_ne _ _ hj,
        fun log => congrArg State.bt (completeOrder_returns (s.withLog log) o b code copied hfin hattempts)⟩
    · obtain ⟨hcounted, hlt⟩ := Classical.not_imp.mp hattempts
      have hle : o.order.attempts ≤ 1 := by omega
      by_cases hreleased : o.order.queue = .heatFill ∧ m.dirty = 0#64 ∧ m.owners = 0#4
      · obtain ⟨hq, hclean, howners⟩ := hreleased
        exact ⟨_, fun j hj => tget_terase_ne _ hj, fun log => congrArg State.bt
          (completeOrder_releases (s.withLog log) o b code copied hfin hcounted hle hq hclean howners)⟩
      · have hnot : o.order.queue ≠ .heatFill ∨ m.dirty ≠ 0#64 ∨ m.owners ≠ 0#4 := by tauto
        exact ⟨tset s.bt.slots o.order.slot (.bound m.held), fun j hj => tget_tset_ne _ _ hj, fun log => congrArg State.bt
          (completeOrder_exhausts (s.withLog log) o b code copied hfin hcounted hle hnot)⟩

theorem roomRule_complete {s : State} {f : Frame} {rest : List Frame} (hlife : s.mju.life = .active)
    (hturn : s.turn 0x40#8 f rest) (hmap : mapLaw s = true) : s.roomRule 256 .complete f rest := by
  obtain ⟨hok, -⟩ := (mapLaw_iff s).mp hmap
  refine roomRule_of_serve (serve := serveComplete) (fun _ => rfl) hturn (requestRow_complete hturn.2.1)
    (by rw [hlife]; rfl) ?_
  cases hcode : completionOf (fieldAt f.body 2 1) with
  | none => exact .inl fun log body h => by simp [serveComplete, hcode, State.refer, State.reply] at h
  | some code =>
    cases ho : issuedWith s.ou.issued (completeTag f) with
    | none =>
      refine .inl fun log body h => ?_
      rw [serveComplete, hcode] at h
      simp only [show ((s.taken rest).withLog log).ou = s.ou from rfl, ho] at h
      cases h
    | some o =>
      cases hb : bindingAt s.bt.slots o.order.slot with
      | none =>
        refine .inl fun log body h => ?_
        rw [serveComplete, hcode] at h
        simp only [show ((s.taken rest).withLog log).ou = s.ou from rfl, ho,
          show ((s.taken rest).withLog log).bt = s.bt from rfl, hb] at h
        cases h
      | some b =>
        obtain ⟨slots, hothers, hslots⟩ := completeOrder_slots (s.taken rest) o b code (completeCopied f)
        refine .inr ⟨{ s.bt with slots := slots }, some ⟨f.tag, .ok .bare⟩, [o.order.slot], fun log =>
          ((completeOrder ((s.taken rest).withLog log) o b code (completeCopied f)).logChange s.bt.slots
            [o.order.slot]).answerOk f.tag .bare, fun k hk => ?_, fun log => ⟨?_, rfl, ?_⟩⟩
        · have hk : k = o.order.slot := by
            by_contra hne
            simp [persistedChanged, persisted, hothers k hne] at hk
          rw [hk]
          exact ⟨List.mem_singleton_self _, hok.slot_lt (tget_of_bindingAt hb)⟩
        · rw [State.answerOk_bt, State.logChange_bt, hslots log]
          rfl
        · rw [serveComplete, hcode]
          simp only [show ((s.taken rest).withLog log).ou = s.ou from rfl, ho,
            show ((s.taken rest).withLog log).bt = s.bt from rfl, hb]
          rw [acceptCompletion, hslots log, orderRoom]
          simp only [Bool.or_eq_true, decide_eq_true_eq]
          rfl

/-- Settles O39: a FLASH-FAULT adds a strike and counts an attempt; the room is that of the order's slot. -/
theorem flashFaultStrikes : Obligations.FlashFaultStrikes := by
  refine ⟨?_, fun s f rest hlife hturn hmap => roomRule_complete hlife hturn hmap⟩
  intro s f rest tag o b held strikes copied v d faulted hlife hturn hlen htag hfield hcopied ho hb hlog hstrikes hv hd hheld
    hfaulted
  have hcode : completionOf (fieldAt f.body 2 1) = some .flashFault := by rw [hfield]; rfl
  have hissued : issuedWith s.ou.issued (completeTag f) = some o := by rw [completeTag, ← htag, ho]
  have hm := merged_eq b o .flashFault (completeCopied f) s.seconds
    (hcopied.trans (copiedWithin_other (by decide) _ _).symm) hv hd
  rw [struck_flashFault] at hm
  have hfault : (s.completionFault o.order .flashFault).cfu = faulted.cfu := by rw [hfaulted]; rfl
  obtain rfl : o.tag = tag := tag_of_issuedWith ho
  obtain ⟨t, hexec, ht⟩ := exec_completes hlife hturn hlen hcode hissued hb hm.symm (.inl hlog)
  subst hstrikes
  refine ⟨t, hexec, ht.others, ht.entry, ht.psm, ht.record, fun hfin => ?_, fun hgoes hleft => ?_, fun hgoes hlast => ?_⟩
  · obtain ⟨hends, hretired, hou, hcfu, hct, hau⟩ := ht.finished ((finishes_iff (by decide)).mpr hfin)
    rw [hheld]
    exact ⟨hends, hretired, hou, hfault ▸ hcfu, hct, hau⟩
  · obtain ⟨hbound, hou, -, hcfu, hct, hau, hpu⟩ :=
      ht.returned ((not_finishes_iff (by decide)).mpr hgoes) fun _ => hleft
    refine ⟨?_, hou, hfault ▸ hcfu, hct, hau, hpu⟩
    rw [hbound, hheld]
    rfl
  · obtain ⟨hcfu, hreleased, hkept, hau, hou⟩ :=
      ht.exhausted ((not_finishes_iff (by decide)).mpr hgoes) rfl hlast.le
    obtain ⟨hheat, hother⟩ := exhausted_units s o.order.queue (s.ou.issued.filter fun p => p.tag ≠ o.tag)
    refine ⟨hcfu.trans ?_, hreleased, fun h => ?_, fun hq => ⟨hau.trans (hheat hq).1, hou.trans (hheat hq).2⟩,
      fun hq => ⟨hau.trans (hother hq).1, hou.trans (hother hq).2⟩⟩
    · rw [hfaulted]; rfl
    · rw [hheld]; exact hkept h

end Sys2Proof.Machine
end


section
/-! SUPPORT. The claim on RESET_WARM. -/

namespace Sys2Proof.Machine

/-! ### The retirements (R16) -/

theorem tget_retireAll (s : State) (gone : List (Nat × Binding)) (k : Nat) :
    tget (s.retireAll gone).bt.slots k = if k ∈ gone.map Prod.fst then some .retired else tget s.bt.slots k := by
  unfold State.retireAll
  induction gone generalizing s with
  | nil => rfl
  | cons kb gone ih =>
    rw [List.foldl_cons, ih, State.retire_bt, tget_tset]
    by_cases hmem : k ∈ gone.map Prod.fst
    · simp only [List.map_cons, List.mem_cons, hmem, or_true, if_true]
    · simp only [if_neg hmem, List.map_cons, List.mem_cons, or_iff_left hmem]

/-- The owners of what retires are alerted, and no others (R141). -/
theorem alert_retireAll (s : State) (gone : List (Nat × Binding)) {o : Nat} (ho : o ≤ 3) :
    ((∃ kb ∈ gone, kb.2.owners.getLsbD o = true) → (s.retireAll gone).pu.alert o = some .pinsDropped)
    ∧ ((∀ kb ∈ gone, kb.2.owners.getLsbD o = false) → (s.retireAll gone).pu.alert o = s.pu.alert o) := by
  unfold State.retireAll
  induction gone generalizing s with
  | nil => exact ⟨fun ⟨_, h, _⟩ => absurd h List.not_mem_nil, fun _ => rfl⟩
  | cons kb gone ih =>
    obtain ⟨hsome, hnone⟩ := ih (s.retire kb.1 kb.2)
    have hone : (s.retire kb.1 kb.2).pu.alert o = if kb.2.owners.getLsbD o then some .pinsDropped else s.pu.alert o :=
      PinUnit.alert_raise _ _ _ ho
    rw [List.foldl_cons]
    constructor
    · rintro ⟨p, hp, howner⟩
      by_cases hrest : ∃ q ∈ gone, q.2.owners.getLsbD o = true
      · exact hsome hrest
      · rcases List.mem_cons.mp hp with rfl | hp
        · rw [hnone fun q hq => by simpa using fun h => hrest ⟨q, hq, h⟩, hone, if_pos howner]
        · exact absurd ⟨p, hp, howner⟩ hrest
    · intro h
      rw [hnone fun q hq => h q (List.mem_cons_of_mem _ hq), hone, h kb (List.mem_cons_self ..)]
      rfl

theorem scansOwed_retireAll (s : State) (gone : List (Nat × Binding)) :
    (s.retireAll gone).pu.scansOwed = s.pu.scansOwed := by
  unfold State.retireAll
  induction gone generalizing s with
  | nil => rfl
  | cons kb gone ih => exact ih _

/-! ### A slot at RESET WARM (R21) -/

/-- A FILLING slot that is empty and unpinned is freed. -/
def Binding.warmFreed (b : Binding) : Prop := b.state = .filling ∧ b.valid = 0#64 ∧ b.owners = 0#4

theorem warm_of_freed {b : Binding} (h : b.warmFreed) : Slot.warm (.bound b) = none := by
  obtain ⟨hstate, hvalid, howners⟩ := h
  simp [Slot.warm, hstate, hvalid, (Binding.pinned_eq_false b).mpr howners, BlockSet.none]

theorem warm_of_kept {b : Binding} (h : b.state ≠ .filling ∨ b.valid ≠ 0#64 ∨ b.owners ≠ 0#4) :
    Slot.warm (.bound b) = some (.bound b.held) := by
  obtain ⟨state, x, valid, dirty, overtaken, redirtied, owners, heat, idle, since, strikes, tag⟩ := b
  cases state with
  | held | draining => rfl
  | filling =>
    refine if_pos ?_
    rcases h with h | h | h
    · exact absurd rfl h
    · rw [Bool.or_eq_true]; exact .inl (decide_eq_true h)
    · rw [Bool.or_eq_true]; exact .inr (decide_eq_true h)

theorem warmFreed_or (b : Binding) : b.warmFreed ∨ b.state ≠ .filling ∨ b.valid ≠ 0#64 ∨ b.owners ≠ 0#4 := by
  unfold Binding.warmFreed
  tauto

section
variable {s : State} (hs : tsorted s.bt.slots = true)
include hs

theorem tget_warmSlots (k : Nat) : tget (warmSlots s.bt.slots) k = (tget s.bt.slots k).bind Slot.warm :=
  tget_filterMap hs Slot.warm k

/-- The slots that retire: kept, condemned and clean. -/
theorem mem_warmRetirements (k : Nat) (c : Binding) :
    (k, c) ∈ warmRetirements (warmSlots s.bt.slots) ↔
      ∃ b, bindingAt s.bt.slots k = some b ∧ 2 ≤ b.strikes ∧ b.dirty = 0#64
        ∧ (b.state ≠ .filling ∨ b.valid ≠ 0#64 ∨ b.owners ≠ 0#4) ∧ c = b.held := by
  have hwarm : tsorted (warmSlots s.bt.slots) = true := tsorted_filterMap hs Slot.warm
  rw [show (k, c) ∈ warmRetirements (warmSlots s.bt.slots) ↔
      (k, c) ∈ bindingsOf (warmSlots s.bt.slots) ∧ c.state = .held ∧ 2 ≤ c.strikes ∧ c.dirty = 0#64 by
    simp [warmRetirements, and_assoc], mem_bindingsOf_iff _ hwarm]
  constructor
  · rintro ⟨hc, -, hstrikes, hclean⟩
    have hget := tget_of_bindingAt hc
    rw [tget_warmSlots hs] at hget
    obtain ⟨v, hv, hvwarm⟩ := Option.bind_eq_some_iff.mp hget
    cases v with
    | retired => cases hvwarm
    | bound b =>
      rcases warmFreed_or b with hfreed | hkept
      · rw [warm_of_freed hfreed] at hvwarm; cases hvwarm
      · rw [warm_of_kept hkept] at hvwarm
        obtain rfl := Slot.bound.inj (Option.some.inj hvwarm)
        exact ⟨b, by simp [bindingAt, hv], hstrikes, hclean, hkept, rfl⟩
  · rintro ⟨b, hb, hstrikes, hclean, hkept, rfl⟩
    refine ⟨?_, rfl, hstrikes, hclean⟩
    rw [bindingAt, tget_warmSlots hs, tget_of_bindingAt hb, Option.bind_some, warm_of_kept hkept]

/-- The slot is one that retires. -/
def State.retiresWarm (s : State) (k : Nat) (b : Binding) : Prop :=
  bindingAt s.bt.slots k = some b ∧ 2 ≤ b.strikes ∧ b.dirty = 0#64
    ∧ (b.state ≠ .filling ∨ b.valid ≠ 0#64 ∨ b.owners ≠ 0#4)

theorem mem_keys_warmRetirements (k : Nat) :
    k ∈ (warmRetirements (warmSlots s.bt.slots)).map Prod.fst ↔ ∃ b, s.retiresWarm k b := by
  rw [List.mem_map]
  constructor
  · rintro ⟨⟨j, c⟩, hmem, rfl⟩
    obtain ⟨b, hb, hstrikes, hclean, hkept, -⟩ := (mem_warmRetirements hs j c).mp hmem
    exact ⟨b, hb, hstrikes, hclean, hkept⟩
  · rintro ⟨b, hb, hstrikes, hclean, hkept⟩
    exact ⟨(k, b.held), (mem_warmRetirements hs k _).mpr ⟨b, hb, hstrikes, hclean, hkept, rfl⟩, rfl⟩

/-- A slot after RESET WARM: retired, or as R21 leaves it. -/
theorem warm_slot {slots : List (Nat × Slot)}
    (hslots : ∀ k, tget slots k = if k ∈ (warmRetirements (warmSlots s.bt.slots)).map Prod.fst then some .retired
      else tget (warmSlots s.bt.slots) k) (k : Nat) :
    (∀ b, s.retiresWarm k b → tget slots k = some .retired)
    ∧ ((∀ b, ¬ s.retiresWarm k b) → tget slots k = (tget s.bt.slots k).bind Slot.warm) := by
  rw [hslots k, tget_warmSlots hs]
  refine ⟨fun b hb => if_pos ((mem_keys_warmRetirements hs k).mpr ⟨b, hb⟩), fun h => if_neg fun hk => ?_⟩
  obtain ⟨b, hb⟩ := (mem_keys_warmRetirements hs k).mp hk
  exact h b hb

variable {slots : List (Nat × Slot)}
  (hslots : ∀ k, tget slots k = if k ∈ (warmRetirements (warmSlots s.bt.slots)).map Prod.fst then some .retired
    else tget (warmSlots s.bt.slots) k)
include hslots

theorem warm_slot_freed {k : Nat} {b : Binding} (hb : bindingAt s.bt.slots k = some b) (h : b.warmFreed) :
    tget slots k = none := by
  have hnot : ∀ c, ¬ s.retiresWarm k c := by
    rintro c ⟨hc, -, -, hkept⟩
    obtain rfl := Option.some.inj (hb.symm.trans hc)
    unfold Binding.warmFreed at h
    tauto
  rw [(warm_slot hs hslots k).2 hnot, tget_of_bindingAt hb, Option.bind_some, warm_of_freed h]

theorem warm_slot_held {k : Nat} {b : Binding} (hb : bindingAt s.bt.slots k = some b)
    (hkept : b.state ≠ .filling ∨ b.valid ≠ 0#64 ∨ b.owners ≠ 0#4) (h : b.strikes < 2 ∨ b.dirty ≠ 0#64) :
    bindingAt slots k = some b.held := by
  have hnot : ∀ c, ¬ s.retiresWarm k c := by
    rintro c ⟨hc, hstrikes, hclean, -⟩
    obtain rfl := Option.some.inj (hb.symm.trans hc)
    rcases h with h | h
    · exact absurd hstrikes h.not_ge
    · exact h hclean
  rw [bindingAt_eq_some, (warm_slot hs hslots k).2 hnot, tget_of_bindingAt hb, Option.bind_some, warm_of_kept hkept]

theorem warm_slot_unbound {k : Nat} (h : bindingAt s.bt.slots k = none) : tget slots k = tget s.bt.slots k := by
  have hnot : ∀ c, ¬ s.retiresWarm k c := by
    rintro c ⟨hc, -⟩
    rw [h] at hc
    cases hc
  rw [(warm_slot hs hslots k).2 hnot]
  cases hk : tget s.bt.slots k with
  | none => rfl
  | some v =>
    cases v with
    | retired => rfl
    | bound b => simp [bindingAt, hk] at h

theorem warm_slot_retired {k : Nat} {b : Binding} (hb : bindingAt s.bt.slots k = some b) :
    tget slots k = some .retired ↔ s.retiresWarm k b := by
  refine ⟨fun h => ?_, (warm_slot hs hslots k).1 b⟩
  rcases warmFreed_or b with hfreed | hkept
  · rw [warm_slot_freed hs hslots hb hfreed] at h
    cases h
  · by_contra hnot
    have hheld := warm_slot_held hs hslots hb hkept (by
      by_contra! hret
      exact hnot ⟨hb, hret.1, hret.2, hkept⟩)
    rw [tget_of_bindingAt hheld] at h
    cases h

end

theorem exec_resetWarm {s : State} {f : Frame} {rest : List Frame} {byte : Byte} (hturn : s.turn 0x5F#8 f rest)
    (hbody : f.body = [byte]) (hbyte : byte.toNat ≠ 1) : exec .resetWarm s = .next (serveResetWarm f (s.taken rest)) := by
  have hrow : requestRow f = .resetWarm := by
    rw [requestRow_reset (kind_of_turn hturn), hbody, resetRow, fieldAt_single, if_neg fun h => hbyte h.2]
  refine exec_of_turn (serve := serveResetWarm) rfl hturn hrow ?_ ?_
  · rfl
  · rw [hbody]; rfl

/-- Settles O47: the table at RESET WARM slot by slot, then its retirements. -/
theorem resetWarm : Obligations.ResetWarm := by
  intro s f rest byte hturn hbody
  have hfield : fieldAt f.body 0 1 = byte.toNat := by rw [hbody, fieldAt_single]
  refine ⟨fun hbyte => ?_, fun hbyte hlife => ?_, fun hbyte hlife => ?_, fun hbyte hlife hmap => ?_⟩
  · rw [exec_resetWarm hturn hbody (by omega), serveResetWarm, if_neg (by omega)]
    rfl
  · rw [exec_resetWarm hturn hbody (by simp [hbyte]), serveResetWarm, if_pos (by rw [hfield, hbyte]; rfl)]
    simp only [State.withIntake_mju, hlife]
    rfl
  · rw [exec_resetWarm hturn hbody (by simp [hbyte]), serveResetWarm, if_pos (by rw [hfield, hbyte]; rfl)]
    simp only [State.withIntake_mju, hlife]
    rfl
  · have hs := ((mapLaw_iff s).mp hmap).1.slots_sorted
    have hexec : exec .resetWarm s = .next ((warmEnd (warmState (s.taken rest))).answerOk f.tag .bare) := by
      rw [exec_resetWarm hturn hbody (by simp [hbyte]), serveResetWarm, if_pos (by rw [hfield, hbyte]; rfl)]
      simp only [State.withIntake_mju, hlife]
    set gone := warmRetirements (warmSlots s.bt.slots) with hgone
    obtain ⟨slots, pu, heq⟩ := (warmState (s.taken rest)).retireAll_onlySlots gone
    have hslots : ((warmState (s.taken rest)).retireAll gone).bt.slots = slots := by rw [heq]; rfl
    have hpu : ((warmState (s.taken rest)).retireAll gone).pu = pu := by rw [heq]
    have htget := fun k => hslots ▸ tget_retireAll (warmState (s.taken rest)) gone k
    have halert := fun {o} ho => hpu ▸ alert_retireAll (warmState (s.taken rest)) gone (o := o) ho
    have hscans := hpu ▸ scansOwed_retireAll (warmState (s.taken rest)) gone
    have hend : warmEnd (warmState (s.taken rest)) = ((({ (warmState (s.taken rest)).withSlots slots with
        pu := pu }).logChange (warmSlots s.bt.slots) (gone.map Prod.fst)).startPicker).startScan :=
      congrArg (fun u => ((State.logChange u (warmSlots s.bt.slots) (gone.map Prod.fst)).startPicker).startScan) heq
    rw [hend] at hexec
    have hret := fun {k b} hb => warm_slot_retired hs htget (k := k) (b := b) hb
    have hchanged : ∀ k ∈ gone.map Prod.fst, persistedChanged (warmSlots s.bt.slots) slots k = true := fun k hk => by
      obtain ⟨⟨j, c⟩, hc, rfl⟩ := List.mem_map.mp hk
      exact persistedChanged_retired ((mem_bindingsOf_iff _ (tsorted_filterMap hs Slot.warm) j c).mp
        (warmRetirements_mem hc).1) _ (by rw [htget j, if_pos hk])
    refine ⟨_, hexec, fun k b hb => ⟨fun hstate hvalid howners => warm_slot_freed hs htget hb ⟨hstate, hvalid, howners⟩,
      fun hkept => ⟨fun ⟨hstrikes, hclean⟩ => (hret hb).mpr ⟨hb, hstrikes, (Binding.isDirty_eq_false b).mp hclean, hkept⟩,
        fun hnot => warm_slot_held hs htget hb hkept (hnot.imp_right (Binding.isDirty_eq_true b).mp)⟩⟩,
      fun k hk => warm_slot_unbound hs htget hk, fun k => ?_, fun e he => ?_, rfl, ?_, fun owner howner => ⟨?_, ?_⟩, rfl⟩
    · refine (inLog_grownLog _ _ _ _ _ _).trans ?_
      have hretires : ∀ b, s.retiresWarm k b ↔ bindingAt s.bt.slots k = some b ∧ 2 ≤ b.strikes ∧ b.isDirty = false
          ∧ (b.state ≠ .filling ∨ b.valid ≠ 0#64 ∨ b.owners ≠ 0#4) := fun b => by
        rw [Binding.isDirty_eq_false]; exact Iff.rfl
      simp only [← hretires, ← mem_keys_warmRetirements hs]
      exact ⟨fun h => (h.resolve_left (show ¬ inLog [] k = true by simp [inLog])).1, fun h => .inr ⟨h, hchanged k h⟩⟩
    · obtain ⟨made, hgrown, -, hmade⟩ := grownLog_appends s.seconds (warmSlots s.bt.slots) slots [] (gone.map Prod.fst)
      exact (hmade e (by rw [List.nil_append] at hgrown; rw [← hgrown]; exact he)).1
    · exact congrArg (· + 1) hscans
    · rintro ⟨k, b, hb, hk, hbit⟩
      obtain ⟨-, hstrikes, hclean, hkept⟩ := (hret hb).mp hk
      refine (PinUnit.alert_scansOwed pu _ owner).trans ((halert howner).1 ⟨(k, b.held), ?_, hbit⟩)
      exact (mem_warmRetirements hs k _).mpr ⟨b, hb, hstrikes, hclean, hkept, rfl⟩
    · intro h
      refine (PinUnit.alert_scansOwed pu _ owner).trans ((halert howner).2 fun kb hkb => ?_)
      obtain ⟨b, hb, hstrikes, hclean, hkept, heq⟩ := (mem_warmRetirements hs kb.1 kb.2).mp hkb
      rw [heq]
      exact h kb.1 b hb ((hret hb).mpr ⟨hb, hstrikes, hclean, hkept⟩)

end Sys2Proof.Machine
end


section
/-! SUPPORT. The claim on IMPORT_PUT. -/

namespace Sys2Proof.Machine

/-! ### One record (R19, R163) -/

/-- The record binds its extent: HELD, and not empty. -/
def Record.binds (r : Record) : Prop := r.pstate = 1 ∧ ¬(r.valid = 0#64 ∧ r.dirty = 0#64 ∧ r.owners = 0#4)

theorem bindsExtent_iff (r : Record) : bindsExtent r = true ↔ r.binds := by
  rw [bindsExtent, Bool.and_eq_true, Bool.not_eq_true', ← Bool.not_eq_true]
  simp only [Bool.and_eq_true, decide_eq_true_eq, and_assoc]
  exact Iff.rfl

theorem heldElsewhere_iff (slots : List (Nat × Slot)) (r : Record) :
    heldElsewhere slots r = true ↔ ∃ k b, residency slots r.extent = some (k, b) ∧ k ≠ r.slot := by
  unfold heldElsewhere
  cases residency slots r.extent with
  | none => simp
  | some kb =>
    rw [decide_eq_true_iff]
    constructor
    · exact fun h => ⟨kb.1, kb.2, rfl, h⟩
    · rintro ⟨k, b, heq, hne⟩
      rw [Option.some.inj heq]
      exact hne

theorem recordRejected_iff (bt : BindingTable) (r : Record) :
    recordRejected bt r = true ↔ bt.n ≤ r.slot ∨ 2 < r.pstate ∨ (r.pstate = 1 ∧ bt.e ≤ r.extent)
      ∨ r.dirty &&& r.valid ≠ r.dirty
      ∨ (r.binds ∧ ∃ k b, residency bt.slots r.extent = some (k, b) ∧ k ≠ r.slot) := by
  rw [← bindsExtent_iff, ← heldElsewhere_iff]
  simp [recordRejected, BlockSet.subset, or_assoc]

theorem importRecord_rejected {s : State} {r : Record} (h : recordRejected s.bt r = true) :
    importRecord s r = { s with mju := { s.mju with rejected := s.mju.rejected + 1 } } := if_pos h

theorem importRecord_accepted {s : State} {r : Record} (h : ¬ recordRejected s.bt r = true) :
    importRecord s r = { s with
      bt := { s.bt with slots := importSlots s.bt.slots r }
      policy := { s.policy with pinLimit := max s.policy.pinLimit (pinnedCount (importSlots s.bt.slots r)) }
      mju := { s.mju with accepted := s.mju.accepted + 1 } } := if_neg h

section
variable (slots : List (Nat × Slot)) {r : Record}

theorem importSlots_binds (h : r.binds) : bindingAt (importSlots slots r) r.slot = some ⟨.held, r.extent, r.valid, r.dirty,
    none, none, r.owners, r.heat, 0, none, if r.condemned = true ∨ r.strikes = 2 then 2 else r.strikes, none⟩ := by
  rw [importSlots, if_pos ((bindsExtent_iff r).mpr h), bindingAt_tset_same, importedBinding]
  simp

theorem importSlots_retired (h : r.pstate = 2) : tget (importSlots slots r) r.slot = some .retired := by
  have hno : ¬ bindsExtent r = true := fun hb => by
    have := ((bindsExtent_iff r).mp hb).1
    omega
  rw [importSlots, if_neg hno, if_pos h, tget_tset_same]

theorem importSlots_free (hstate : r.pstate ≠ 2) (h : ¬ r.binds) : tget (importSlots slots r) r.slot = none := by
  rw [importSlots, if_neg (mt (bindsExtent_iff r).mp h), if_neg hstate, tget_terase_same]

theorem importSlots_other {k : Nat} (h : k ≠ r.slot) : tget (importSlots slots r) k = tget slots k := by
  unfold importSlots
  split
  · exact tget_tset_ne _ _ h
  · split
    · exact tget_tset_ne _ _ h
    · exact tget_terase_ne _ h

end

/-! ### The records of a request, one after another -/

/-- What the records of a request change, and that each is counted once. -/
theorem importRecords_eq (rs : List Record) (s : State) :
    rs.foldl importRecord s = { s with
      bt := { s.bt with slots := (rs.foldl importRecord s).bt.slots }
      policy := { s.policy with pinLimit := (rs.foldl importRecord s).policy.pinLimit }
      mju := { s.mju with
        accepted := (rs.foldl importRecord s).mju.accepted, rejected := (rs.foldl importRecord s).mju.rejected } } := by
  induction rs generalizing s with
  | nil => rfl
  | cons r rs ih =>
    rw [List.foldl_cons, ih]
    by_cases h : recordRejected s.bt r = true
    · rw [importRecord_rejected h]
    · rw [importRecord_accepted h]

theorem importRecord_counts (s : State) (r : Record) :
    s.mju.accepted ≤ (importRecord s r).mju.accepted ∧ s.mju.rejected ≤ (importRecord s r).mju.rejected
    ∧ (importRecord s r).mju.accepted + (importRecord s r).mju.rejected = s.mju.accepted + s.mju.rejected + 1 := by
  by_cases h : recordRejected s.bt r = true
  · rw [importRecord_rejected h]
    exact ⟨le_rfl, Nat.le_succ _, rfl⟩
  · rw [importRecord_accepted h]
    exact ⟨Nat.le_succ _, le_rfl, Nat.succ_add _ _⟩

theorem importRecords_counts (rs : List Record) (s : State) :
    s.mju.accepted ≤ (rs.foldl importRecord s).mju.accepted ∧ s.mju.rejected ≤ (rs.foldl importRecord s).mju.rejected
    ∧ (rs.foldl importRecord s).mju.accepted + (rs.foldl importRecord s).mju.rejected
      = s.mju.accepted + s.mju.rejected + rs.length := by
  induction rs generalizing s with
  | nil => exact ⟨le_rfl, le_rfl, rfl⟩
  | cons r rs ih =>
    rw [List.foldl_cons, List.length_cons]
    obtain ⟨h1, h2, h3⟩ := ih (importRecord s r)
    obtain ⟨g1, g2, g3⟩ := importRecord_counts s r
    omega

/-- The part after the first `i` records. -/
def importedUpTo (s : State) (rs : List Record) (i : Nat) : State := (rs.take i).foldl importRecord s

theorem importedUpTo_succ {s : State} {rs : List Record} {i : Nat} {r : Record} (h : rs[i]? = some r) :
    importedUpTo s rs (i + 1) = importRecord (importedUpTo s rs i) r := by
  rw [importedUpTo, List.take_add_one, h, List.foldl_append]
  rfl

theorem importedUpTo_bt (s : State) (rs : List Record) (i : Nat) :
    (importedUpTo s rs i).bt.n = s.bt.n ∧ (importedUpTo s rs i).bt.e = s.bt.e := by
  rw [importedUpTo, importRecords_eq]
  exact ⟨rfl, rfl⟩

theorem exec_importPut {s : State} {f : Frame} {rest : List Frame} {m : Nat} (hlife : s.mju.life = .importing)
    (hturn : s.turn 0x12#8 f rest) (hpos : 1 ≤ m) (hle : m ≤ 16) (hlen : f.body.length = 26 * m) :
    exec .importPut s = .next (serveImportPut f (s.taken rest)) := by
  refine exec_of_turn (serve := serveImportPut) rfl hturn (requestRow_importPut (kind_of_turn hturn)) (by rw [hlife]; rfl) ?_
  have : (26 * m) % 26 = 0 := Nat.mul_mod_right _ _
  simp only [lengthOk, hlen, Bool.and_eq_true, decide_eq_true_eq, beq_iff_eq]
  omega

theorem importedRecords_eq {f : Frame} {m : Nat} (hlen : f.body.length = 26 * m) :
    importedRecords f = (List.range m).map fun i => recordOfBytes ((f.body.drop (26 * i)).take 26) := by
  rw [importedRecords, recordsOf_eq, List.map_map, hlen, Nat.mul_div_cancel_left _ (by decide)]
  rfl

/-- Settles O26: the records are a fold, each step of which is one record on what the earlier ones have left. -/
theorem importPutTakesRecords : Obligations.ImportPutTakesRecords := by
  refine ⟨?_, ?_, ?_⟩
  · intro s f rest m hlife hturn hpos hle hlen
    obtain ⟨hacc, hrej, hsum⟩ := importRecords_counts (importedRecords f) (s.taken rest)
    rw [importedRecords_eq hlen, List.length_map, List.length_range, ← importedRecords_eq hlen] at hsum
    refine ⟨_, exec_importPut hlife hturn hpos hle hlen, hacc, hrej, hsum, ?_⟩
    conv_lhs => rw [serveImportPut, importRecords_eq]
    rfl
  · intro s f rest m binds bad hlife hturn hpos hle hlen hbinds hbad
    set S := importedUpTo (s.taken rest) (importedRecords f) with hS
    have hwhole : S m = (importedRecords f).foldl importRecord (s.taken rest) := by
      rw [hS, importedUpTo, List.take_of_length_le (by rw [importedRecords_eq hlen]; simp)]
    refine ⟨_, fun i => (S i).bt.slots, fun i => (S i).policy.pinLimit, fun i => (S i).mju.accepted,
      fun i => (S i).mju.rejected, exec_importPut hlife hturn hpos hle hlen, rfl, rfl, rfl, rfl,
      congrArg (fun t => t.bt.slots) hwhole.symm, congrArg (fun t => t.policy.pinLimit) hwhole.symm,
      congrArg (fun t => t.mju.accepted) hwhole.symm, congrArg (fun t => t.mju.rejected) hwhole.symm, ?_⟩
    intro i r hi hr
    have hget : (importedRecords f)[i]? = some r := by
      rw [importedRecords_eq hlen, List.getElem?_map, List.getElem?_range hi, hr]
      rfl
    have hstep : S (i + 1) = importRecord (S i) r := importedUpTo_succ hget
    obtain ⟨hn, he⟩ := importedUpTo_bt (s.taken rest) (importedRecords f) i
    have hrejected : recordRejected (S i).bt r = true ↔ bad (S i).bt.slots r := by
      rw [recordRejected_iff, hbad, hbinds, hS, hn, he]
      exact Iff.rfl
    refine ⟨fun hb => ?_, fun hb => ?_⟩
    · dsimp only
      rw [hstep, importRecord_rejected (hrejected.mpr hb)]
      exact ⟨rfl, rfl, rfl, rfl⟩
    · dsimp only
      rw [hstep, importRecord_accepted (mt hrejected.mp hb)]
      refine ⟨rfl, rfl, importSlots_retired _, fun h => importSlots_binds _ ((hbinds r).mp h),
        fun hstate h => importSlots_free _ hstate (mt (hbinds r).mpr h), fun k hk => importSlots_other _ hk, rfl⟩
  · intro s f rest r bad hlife hturn hlen hr hbad
    have hone : importedRecords f = [r] := by
      rw [importedRecords_eq (m := 1) hlen, hr]
      simp [← hlen]
    have hexec := exec_importPut (m := 1) hlife hturn le_rfl (by decide) hlen
    rw [serveImportPut, hone, List.foldl_cons, List.foldl_nil] at hexec
    have hrejected : recordRejected (s.taken rest).bt r = true ↔ bad := by
      rw [recordRejected_iff, hbad, Record.binds, and_assoc]
      exact Iff.rfl
    refine ⟨fun hb => ?_, fun hb => ?_⟩
    · rw [hexec, importRecord_rejected (hrejected.mpr hb)]
      have hcount : s.mju.rejected + 1 - s.mju.rejected = 1 := Nat.add_sub_cancel_left ..
      exact congrArg (fun n => Host.Outcome.next (({ s with
        mju := { s.mju with rejected := s.mju.rejected + 1 } } : State).answered rest f.tag (.importPut n))) hcount
    · rw [importRecord_accepted (mt hrejected.mp hb)] at hexec
      refine ⟨_, hexec, rfl, fun h => ?_, importSlots_retired _, fun h1 h2 => importSlots_binds _ ⟨h1, h2⟩,
        fun k hk => importSlots_other _ hk, rfl⟩
      refine importSlots_free _ ?_ fun hbinds => ?_
      · omega
      · rcases h with h | ⟨-, h⟩
        · have := hbinds.1
          omega
        · exact hbinds.2 h

end Sys2Proof.Machine
end


section
/-! SUPPORT. The refill scan, one pin fill after another (R148, R149). -/

namespace Sys2Proof.Machine

/-- A binding qualifies for the refill scan (R148). -/
def Binding.HasGaps (b : Binding) : Prop :=
  b.state = .held ∧ b.owners ≠ 0#4 ∧ b.valid ≠ BitVec.allOnes 64 ∧ b.strikes < 2

theorem refillQualifies_iff (b : Binding) : refillQualifies b = true ↔ b.HasGaps := by
  have hcomplete : b.complete = false ↔ b.valid ≠ BitVec.allOnes 64 := decide_eq_false_iff_not
  simp only [refillQualifies, Binding.HasGaps, Bool.and_eq_true, decide_eq_true_eq, Binding.pinned_eq_true,
    Bool.not_eq_true', hcomplete, Binding.condemned_eq_false, and_assoc]

/-- The scan takes the lowest slot that qualifies. -/
theorem find_refillQualifies {slots : List (Nat × Slot)} (hs : tsorted slots = true) {k : Nat} {b : Binding}
    (h : (bindingsOf slots).find? (fun kb => refillQualifies kb.2) = some (k, b)) :
    bindingAt slots k = some b ∧ b.HasGaps ∧ ∀ j u, bindingAt slots j = some u → u.HasGaps → k ≤ j := by
  obtain ⟨hq, before, behind, heq, hbefore⟩ := List.find?_eq_some_iff_append.mp h
  refine ⟨(mem_bindingsOf_iff slots hs _ _).mp (List.mem_of_find?_eq_some h), (refillQualifies_iff b).mp hq, fun j u hj hu => ?_⟩
  have hmem := mem_bindingsOf_of_bindingAt hj
  have hsorted := bindingsOf_pairwise hs
  rw [heq] at hmem hsorted
  rcases List.mem_append.mp hmem with hin | hin
  · have := hbefore _ hin
    simp [(refillQualifies_iff u).mpr hu] at this
  · rcases List.mem_cons.mp hin with heq' | hin
    · exact (congrArg Prod.fst heq').ge
    · exact ((List.pairwise_cons.mp (List.pairwise_append.mp hsorted).2.1).1 _ hin).le

/-- What a scan makes of the state: `filled` are the pin fills it queues. -/
structure State.Refilled (s t : State) (filled : List Waiting) : Prop where
  queue : t.ou.pinFill.waiting = s.ou.pinFill.waiting ++ filled
  closed : s.ou.pinFill.halted = true ∨ 32 ≤ s.ou.pinFill.waiting.length → filled = []
  ends : s.ou.pinFill.halted = true ∨ 32 ≤ t.ou.pinFill.waiting.length ∨ ∀ kb ∈ bindingsOf t.bt.slots, ¬kb.2.HasGaps
  ascending : filled.Pairwise fun v w => v.order.slot < w.order.slot
  binding : ∀ k b, bindingAt s.bt.slots k = some b →
    b.HasGaps ∧ ⟨⟨.pinFill, k, b.extent, 3, 0⟩, none⟩ ∈ filled
      ∧ bindingAt t.bt.slots k = some { b with state := .filling }
    ∨ (∀ w ∈ filled, w.order.slot ≠ k ∧ (b.HasGaps → w.order.slot < k)) ∧ bindingAt t.bt.slots k = some b
  bound : ∀ w ∈ filled, bindingAt s.bt.slots w.order.slot ≠ none
  unbound : ∀ k, bindingAt s.bt.slots k = none → tget t.bt.slots k = tget s.bt.slots k
  tokens : t.au.tokens = s.au.tokens - filled.length
  rest : t = { s with
    bt := { s.bt with slots := t.bt.slots }, au := { s.au with tokens := t.au.tokens }
    ou := { s.ou with pinFill := { s.ou.pinFill with waiting := t.ou.pinFill.waiting } } }

theorem State.Refilled.nil {s : State} (h : s.ou.pinFill.halted = true ∨ 32 ≤ s.ou.pinFill.waiting.length
    ∨ ∀ kb ∈ bindingsOf s.bt.slots, ¬kb.2.HasGaps) : s.Refilled s [] where
  queue := (List.append_nil _).symm
  closed _ := rfl
  ends := h
  ascending := List.Pairwise.nil
  binding _ _ hb := .inr ⟨fun _ hw => absurd hw List.not_mem_nil, hb⟩
  bound _ hw := absurd hw List.not_mem_nil
  unbound _ _ := rfl
  tokens := rfl
  rest := rfl

/-- One pin fill and the rest of the scan. -/
theorem State.Refilled.cons {s t : State} {k : Nat} {b : Binding} {rest : List Waiting}
    (hb : bindingAt s.bt.slots k = some b) (hgaps : b.HasGaps)
    (hleast : ∀ j u, bindingAt s.bt.slots j = some u → u.HasGaps → k ≤ j)
    (hopen : ¬ (s.ou.pinFill.halted = true ∨ 32 ≤ s.ou.pinFill.waiting.length))
    (h : (queuePinFill s k b).Refilled t rest) : s.Refilled t (newOrder .pinFill k b.extent :: rest) := by
  have hslots : ∀ j, bindingAt (queuePinFill s k b).bt.slots j
      = if j = k then some { b with state := .filling } else bindingAt s.bt.slots j :=
    bindingAt_tset_bound s.bt.slots k _
  have hk : ∀ w ∈ rest, k < w.order.slot := fun w hw => by
    obtain ⟨c, hc⟩ := Option.ne_none_iff_exists'.mp (h.bound w hw)
    rcases h.binding _ c hc with ⟨hcgaps, -, -⟩ | ⟨hno, -⟩
    · rw [hslots] at hc
      split at hc
      · cases hc
        exact absurd hcgaps.1 (by simp)
      · have := hleast _ c hc hcgaps
        omega
    · exact absurd rfl (hno w hw).1
  constructor
  case queue => rw [h.queue]; exact List.append_assoc ..
  case closed => exact fun hclosed => absurd hclosed hopen
  case ends => exact h.ends
  case ascending => exact List.pairwise_cons.mpr ⟨hk, h.ascending⟩
  case binding =>
    intro j c hc
    by_cases hj : j = k
    · subst hj
      obtain rfl := Option.some.inj (hb.symm.trans hc)
      rcases h.binding j { b with state := .filling } (by rw [hslots, if_pos rfl]) with ⟨hbad, -, -⟩ | ⟨-, ht⟩
      · exact absurd hbad.1 (by simp)
      · exact .inl ⟨hgaps, List.mem_cons_self .., ht⟩
    · rcases h.binding j c (by rw [hslots, if_neg hj, hc]) with ⟨hcgaps, hmem, ht⟩ | ⟨hno, ht⟩
      · exact .inl ⟨hcgaps, List.mem_cons_of_mem _ hmem, ht⟩
      · refine .inr ⟨List.forall_mem_cons.mpr ⟨⟨Ne.symm hj, fun hcgaps => ?_⟩, hno⟩, ht⟩
        exact lt_of_le_of_ne (hleast j c hc hcgaps) (Ne.symm hj)
  case bound =>
    refine List.forall_mem_cons.mpr ⟨by simp [newOrder, hb], fun w hw => ?_⟩
    have := h.bound w hw
    rwa [hslots, if_neg (hk w hw).ne'] at this
  case unbound =>
    intro j hj
    have hne : j ≠ k := fun heq => by simp [heq, hb] at hj
    rw [h.unbound j (by rw [hslots, if_neg hne, hj])]
    exact tget_tset_ne _ _ hne
  case tokens =>
    rw [h.tokens, List.length_cons]
    show s.au.tokens - 1 - rest.length = _
    omega
  case rest => rw [h.rest]; rfl

/-- The scan from any state with the fuel for the places left in the queue. -/
theorem refillLoop_refilled (fuel : Nat) : ∀ s : State, tsorted s.bt.slots = true →
    32 ≤ fuel + s.ou.pinFill.waiting.length → ∃ filled, s.Refilled (refillLoop fuel s) filled := by
  induction fuel with
  | zero => exact fun s _ hlen => ⟨[], .nil (.inr (.inl (by simpa using hlen)))⟩
  | succ fuel ih =>
    intro s hs hlen
    rw [refillLoop]
    split
    next hclosed =>
      have hclosed' : s.ou.pinFill.halted = true ∨ 32 ≤ s.ou.length .pinFill := by
        simpa only [Bool.or_eq_true, decide_eq_true_eq] using hclosed
      exact ⟨[], .nil (hclosed'.imp_right .inl)⟩
    next hopen =>
      have hopen' : ¬ (s.ou.pinFill.halted = true ∨ 32 ≤ s.ou.length .pinFill) := by
        simpa only [Bool.or_eq_true, decide_eq_true_eq] using hopen
      split
      next hnone =>
        refine ⟨[], .nil (.inr (.inr fun kb hkb hgaps => ?_))⟩
        exact List.find?_eq_none.mp hnone kb hkb ((refillQualifies_iff kb.2).mpr hgaps)
      next k b hfound =>
        obtain ⟨hb, hgaps, hleast⟩ := find_refillQualifies hs hfound
        obtain ⟨filled, hfilled⟩ := ih (queuePinFill s k b) (tsorted_tset _ _ _ hs) (by
          have : (queuePinFill s k b).ou.pinFill.waiting.length = s.ou.pinFill.waiting.length + 1 :=
            List.length_append
          omega)
        exact ⟨_, hfilled.cons hb hgaps hleast hopen'⟩

/-- Settles O14: a run of the scan, from the state with one run less to make. -/
theorem refillScan : Obligations.RefillScan := by
  intro s gaps hgaps hactive howed hmap
  obtain rfl : gaps = Binding.HasGaps := funext fun b => propext (hgaps b)
  obtain ⟨filled, h⟩ := refillLoop_refilled 32 { s with pu := { s.pu with scansOwed := s.pu.scansOwed - 1 } }
    ((mapLaw_iff s).mp hmap).1.slots_sorted (by omega)
  refine ⟨_, filled, ?_, h.queue, h.closed, h.ends, h.ascending, h.binding, h.bound, h.unbound, h.tokens, h.rest⟩
  show execRefillScan s = _
  rw [execRefillScan, (active_iff s).mpr hactive, decide_eq_true howed]
  rfl

end Sys2Proof.Machine
end


section
/-! SUPPORT. The drain picker's run, one drain after another (R128 to R130), and the place of a drain in its queue (R98). -/

namespace Sys2Proof.Machine

/-! ### The place of a condemned binding's drain -/

/-- Where a condemned binding's drain joins: `before` ends with such a drain or is empty, `behind` holds none. -/
structure DrainPlace (slots : List (Nat × Slot)) (before behind : List Waiting) : Prop where
  last : ∀ w, before.getLast? = some w → condemnedSlot slots w.order.slot = true
  behind : ∀ w ∈ behind, condemnedSlot slots w.order.slot = false

theorem exists_drainPlace (slots : List (Nat × Slot)) (ws : List Waiting) :
    ∃ before behind, ws = before ++ behind ∧ DrainPlace slots before behind := by
  induction ws using List.reverseRecOn with
  | nil => exact ⟨[], [], rfl, by simp, by simp⟩
  | append_singleton ws w ih =>
    obtain ⟨before, behind, heq, hplace⟩ := ih
    cases hw : condemnedSlot slots w.order.slot
    · refine ⟨before, behind ++ [w], by rw [heq, List.append_assoc], hplace.last, ?_⟩
      simpa [or_imp, forall_and, hw] using hplace.behind
    · exact ⟨ws ++ [w], [], (List.append_nil _).symm, by simp [hw], by simp⟩

theorem joinCondemned_append {slots : List (Nat × Slot)} {before behind : List Waiting}
    (h : DrainPlace slots before behind) (w : Waiting) :
    joinCondemned slots w (before ++ behind) = before ++ w :: behind := by
  induction before with
  | nil =>
    cases behind with
    | nil => rfl
    | cons v rest => exact if_neg (by simpa using h.behind)
  | cons v before ih =>
    have hlast := h.last _ (List.getLast?_eq_some_getLast (List.cons_ne_nil v before))
    have hany : (v :: (before ++ behind)).any (fun u => condemnedSlot slots u.order.slot) = true :=
      List.any_eq_true.mpr ⟨_, List.mem_append_left behind (List.getLast_mem (List.cons_ne_nil v before)), hlast⟩
    have hplace : DrainPlace slots before behind := by
      refine ⟨fun u hu => h.last u ?_, h.behind⟩
      cases before with
      | nil => simp at hu
      | cons x xs => rwa [List.getLast?_cons_cons]
    exact (if_pos hany).trans (congrArg (v :: ·) (ih hplace))

theorem condemnedSlot_eq_false_iff (slots : List (Nat × Slot)) (k : Nat) :
    condemnedSlot slots k = false ↔ ∀ b, bindingAt slots k = some b → b.strikes < 2 := by
  unfold condemnedSlot
  cases h : bindingAt slots k <;> simp

/-! ### A binding's state does not bear on the hold stage -/

theorem dirtyAges_setState {slots : List (Nat × Slot)} (hs : tsorted slots = true) {k : Nat} {b : Binding}
    (hb : bindingAt slots k = some b) (now : Time) (st : BindState) :
    dirtyAges now (tset slots k (.bound { b with state := st })) = dirtyAges now slots := by
  have htget := tget_of_bindingAt hb
  clear hb
  induction slots with
  | nil => simp [tget] at htget
  | cons p rest ih =>
    obtain ⟨i, v⟩ := p
    have hpair := (tsorted_iff_pairwise _).mp hs
    have hrest := (tsorted_iff_pairwise _).mpr (List.pairwise_cons.mp hpair).2
    simp only [dirtyAges] at ih ⊢
    rcases Nat.lt_trichotomy k i with hlt | rfl | hgt
    · have hmem := mem_of_tget htget
      rcases List.mem_cons.mp hmem with heq | hin
      · have : k = i := congrArg Prod.fst heq
        omega
      · have : i < k := (List.pairwise_cons.mp hpair).1 _ hin
        omega
    · have hv : v = .bound b := by simpa [tget] using htget
      subst hv
      simp [tset, bindingsOf_cons, List.filterMap_cons, Binding.dirtyAge, Binding.isDirty]
    · have hne : ¬ k < i := by omega
      have hne' : k ≠ i := by omega
      have htail : tget rest k = some (.bound b) := by simpa [tget, hne', Ne.symm hne'] using htget
      simp [tset, hne, hne', bindingsOf_cons, List.filterMap_append, ih hrest htail]

theorem drainQualifies_queueDrain {s : State} (hs : tsorted s.bt.slots = true) {k : Nat} {b : Binding}
    (hb : bindingAt s.bt.slots k = some b) (c : Binding) :
    drainQualifies (queueDrain s k b) c = drainQualifies s c := by
  have hstage : holdStage (queueDrain s k b) = holdStage s := by
    have : dirtyAges (queueDrain s k b).seconds (queueDrain s k b).bt.slots = dirtyAges s.seconds s.bt.slots :=
      dirtyAges_setState hs hb s.seconds .draining
    rw [holdStage, this]
    rfl
  rw [drainQualifies, hstage]
  rfl

/-! ### The run -/

/-- The slot of one drain comes before that of another (R129). -/
def drainAheadAt (now : Time) (slots : List (Nat × Slot)) (j k : Nat) : Prop :=
  ∀ v u, bindingAt slots j = some v → bindingAt slots k = some u → drainAhead now (j, v) (k, u)

/-- What a run makes of the state: it queues the drains of `condemned` bindings at their place, `others` at the tail. -/
structure State.Drained (s t : State) (before behind condemned others : List Waiting) : Prop where
  queue : t.ou.drain.waiting = before ++ condemned ++ behind ++ others
  condemned_ge : ∀ w ∈ condemned, ∃ b, bindingAt s.bt.slots w.order.slot = some b ∧ 2 ≤ b.strikes
  others_lt : ∀ w ∈ others, ∃ b, bindingAt s.bt.slots w.order.slot = some b ∧ b.strikes < 2
  ordered : (condemned ++ others).Pairwise fun v w =>
    drainAheadAt s.seconds s.bt.slots v.order.slot w.order.slot ∧ v.order.slot ≠ w.order.slot
  binding : ∀ k b, bindingAt s.bt.slots k = some b →
    drainQualifies s b = true ∧ ⟨⟨.drain, k, b.extent, 3, 0⟩, none⟩ ∈ condemned ++ others
      ∧ bindingAt t.bt.slots k = some { b with state := .draining }
    ∨ (∀ w ∈ condemned ++ others, w.order.slot ≠ k
        ∧ (drainQualifies s b = true → drainAheadAt s.seconds s.bt.slots w.order.slot k))
      ∧ bindingAt t.bt.slots k = some b
  ends : 64 ≤ t.ou.drain.waiting.length ∨ ∀ kb ∈ bindingsOf t.bt.slots, ¬drainQualifies s kb.2 = true
  unbound : ∀ k, bindingAt s.bt.slots k = none → tget t.bt.slots k = tget s.bt.slots k
  rest : t = { s with
    bt := { s.bt with slots := t.bt.slots }
    ou := { s.ou with drain := { s.ou.drain with waiting := t.ou.drain.waiting } } }

theorem State.Drained.nil {s : State} {before behind : List Waiting} (hws : s.ou.drain.waiting = before ++ behind)
    (h : 64 ≤ s.ou.drain.waiting.length ∨ ∀ kb ∈ bindingsOf s.bt.slots, ¬drainQualifies s kb.2 = true) :
    s.Drained s before behind [] [] where
  queue := by simpa using hws
  condemned_ge _ hw := absurd hw List.not_mem_nil
  others_lt _ hw := absurd hw List.not_mem_nil
  ordered := List.Pairwise.nil
  binding _ _ hb := .inr ⟨fun _ hw => absurd hw List.not_mem_nil, hb⟩
  ends := h
  unbound _ _ := rfl
  rest := rfl

theorem State.Drained.exists_binding {s t : State} {before behind condemned others : List Waiting}
    (h : s.Drained t before behind condemned others) {w : Waiting} (hw : w ∈ condemned ++ others) :
    ∃ b, bindingAt s.bt.slots w.order.slot = some b ∧ drainQualifies s b = true := by
  have hbound : ∃ b, bindingAt s.bt.slots w.order.slot = some b := by
    rcases List.mem_append.mp hw with hin | hin
    · exact (h.condemned_ge w hin).imp fun _ => And.left
    · exact (h.others_lt w hin).imp fun _ => And.left
  obtain ⟨b, hb⟩ := hbound
  rcases h.binding _ b hb with ⟨hq, -, -⟩ | ⟨hno, -⟩
  · exact ⟨b, hb, hq⟩
  · exact absurd rfl (hno w hw).1

section
variable {s t : State} {k : Nat} {b : Binding}

theorem bindingAt_queueDrain (s : State) (k : Nat) (b : Binding) (j : Nat) :
    bindingAt (queueDrain s k b).bt.slots j
      = if j = k then some { b with state := .draining } else bindingAt s.bt.slots j :=
  bindingAt_tset_bound s.bt.slots k _ j

/-- The bindings after a drain is queued, up to the state of the one queued. -/
theorem exists_bindingAt_queueDrain (hb : bindingAt s.bt.slots k = some b) {j : Nat} {c : Binding}
    (hc : bindingAt s.bt.slots j = some c) :
    ∃ st, bindingAt (queueDrain s k b).bt.slots j = some { c with state := st } := by
  rw [bindingAt_queueDrain]
  split
  next hj =>
    subst hj
    obtain rfl := Option.some.inj (hb.symm.trans hc)
    exact ⟨.draining, rfl⟩
  · exact ⟨c.state, hc⟩

theorem bindingAt_of_queueDrain (hb : bindingAt s.bt.slots k = some b) {j : Nat} {c : Binding}
    (hc : bindingAt (queueDrain s k b).bt.slots j = some c) :
    ∃ st, bindingAt s.bt.slots j = some { c with state := st } := by
  rw [bindingAt_queueDrain] at hc
  split at hc
  next hj =>
    cases hc
    exact ⟨b.state, hj ▸ hb⟩
  · exact ⟨c.state, hc⟩

theorem drainAheadAt_of_queueDrain (hb : bindingAt s.bt.slots k = some b) {i j : Nat}
    (h : drainAheadAt (queueDrain s k b).seconds (queueDrain s k b).bt.slots i j) :
    drainAheadAt s.seconds s.bt.slots i j := by
  intro v u hv hu
  obtain ⟨st, hv'⟩ := exists_bindingAt_queueDrain hb hv
  obtain ⟨st', hu'⟩ := exists_bindingAt_queueDrain hb hu
  exact h { v with state := st } { u with state := st' } hv' hu'

/-- The drain taken first, in front of the drains of the rest of the run. -/
theorem State.Drained.cons {before behind condemned others condemned' others' : List Waiting} {before' behind' : List Waiting}
    (hs : tsorted s.bt.slots = true) (hb : bindingAt s.bt.slots k = some b) (hq : drainQualifies s b = true)
    (hfirst : ∀ j u, bindingAt s.bt.slots j = some u → drainQualifies s u = true → j ≠ k →
      drainAhead s.seconds (k, b) (j, u))
    (h : (queueDrain s k b).Drained t before behind condemned others)
    (hlist : condemned' ++ others' = newOrder .drain k b.extent :: (condemned ++ others))
    (hcond : ∀ w ∈ condemned', ∃ b, bindingAt s.bt.slots w.order.slot = some b ∧ 2 ≤ b.strikes)
    (hothers : ∀ w ∈ others', ∃ b, bindingAt s.bt.slots w.order.slot = some b ∧ b.strikes < 2)
    (hqueue : before ++ condemned ++ behind ++ others = before' ++ condemned' ++ behind' ++ others') :
    s.Drained t before' behind' condemned' others' := by
  have hstays := drainQualifies_queueDrain hs hb
  have hdraining : drainQualifies s { b with state := .draining } = false := by simp [drainQualifies]
  have hrest : ∀ w ∈ condemned ++ others, drainAheadAt s.seconds s.bt.slots k w.order.slot ∧ k ≠ w.order.slot := by
    intro w hw
    obtain ⟨c, hc, hcq⟩ := h.exists_binding hw
    rw [hstays] at hcq
    rw [bindingAt_queueDrain] at hc
    split at hc
    next hj =>
      cases hc
      rw [hdraining] at hcq
      exact absurd hcq Bool.false_ne_true
    next hj =>
      refine ⟨fun v u hv hu => ?_, Ne.symm hj⟩
      obtain rfl := Option.some.inj (hb.symm.trans hv)
      obtain rfl := Option.some.inj (hc.symm.trans hu)
      exact hfirst _ _ hc hcq hj
  constructor
  case queue => rw [h.queue, hqueue]
  case condemned_ge => exact hcond
  case others_lt => exact hothers
  case ordered =>
    rw [hlist]
    exact List.pairwise_cons.mpr ⟨hrest, h.ordered.imp fun hvw => ⟨drainAheadAt_of_queueDrain hb hvw.1, hvw.2⟩⟩
  case binding =>
    intro j c hc
    rw [hlist]
    by_cases hj : j = k
    · subst hj
      obtain rfl := Option.some.inj (hb.symm.trans hc)
      rcases h.binding j { b with state := .draining } (by rw [bindingAt_queueDrain, if_pos rfl]) with
        ⟨hbad, -, -⟩ | ⟨-, ht⟩
      · rw [hstays, hdraining] at hbad
        exact absurd hbad Bool.false_ne_true
      · exact .inl ⟨hq, List.mem_cons_self .., ht⟩
    · rcases h.binding j c (by rw [bindingAt_queueDrain, if_neg hj, hc]) with ⟨hcq, hmem, ht⟩ | ⟨hno, ht⟩
      · exact .inl ⟨(hstays c).symm.trans hcq, List.mem_cons_of_mem _ hmem, ht⟩
      · refine .inr ⟨List.forall_mem_cons.mpr ⟨⟨Ne.symm hj, fun hcq v u hv hu => ?_⟩, fun w hw => ?_⟩, ht⟩
        · obtain rfl := Option.some.inj (hb.symm.trans hv)
          obtain rfl := Option.some.inj (hc.symm.trans hu)
          exact hfirst j c hc hcq hj
        · exact (hno w hw).imp_right fun hahead hcq =>
            drainAheadAt_of_queueDrain hb (hahead ((hstays c).trans hcq))
  case ends => exact h.ends.imp_right fun hnone kb hkb => by simpa only [hstays] using hnone kb hkb
  case unbound =>
    intro j hj
    have hne : j ≠ k := fun heq => by simp [heq, hb] at hj
    rw [h.unbound j (by rw [bindingAt_queueDrain, if_neg hne, hj])]
    exact tget_tset_ne _ _ hne
  case rest => rw [h.rest]; rfl

end

/-- The run from any state with the fuel for the places left in the queue. -/
theorem drainLoop_drained (fuel : Nat) : ∀ (s : State) (before behind : List Waiting), tsorted s.bt.slots = true →
    64 ≤ fuel + s.ou.drain.waiting.length → s.ou.drain.waiting = before ++ behind →
    DrainPlace s.bt.slots before behind →
    ∃ condemned others, s.Drained (drainLoop fuel s) before behind condemned others := by
  induction fuel with
  | zero => exact fun s _ _ _ hlen hws _ => ⟨[], [], .nil hws (.inl (by simpa using hlen))⟩
  | succ fuel ih =>
    intro s before behind hs hlen hws hplace
    rw [drainLoop]
    split
    next hfull => exact ⟨[], [], .nil hws (.inl hfull)⟩
    split
    next hnone =>
      refine ⟨[], [], .nil hws (.inr fun kb hkb hq => ?_)⟩
      have : kb ∈ (bindingsOf s.bt.slots).filter fun kb => drainQualifies s kb.2 := List.mem_filter.mpr ⟨hkb, hq⟩
      unfold drainChoice at hnone
      split at hnone
      next hnil => rw [hnil] at this; exact absurd this List.not_mem_nil
      next => exact absurd hnone (by simp)
    next k b hchoice =>
      obtain ⟨hb, hq, hfirst⟩ := (drainChoice_iff hs k b).mp hchoice
      have hsorted : tsorted (queueDrain s k b).bt.slots = true := tsorted_tset _ _ _ hs
      have hslots : ∀ j, condemnedSlot (queueDrain s k b).bt.slots j = condemnedSlot s.bt.slots j := fun j => by
        rw [Bool.eq_iff_iff, condemnedSlot_iff, condemnedSlot_iff]
        constructor <;> rintro ⟨c, hc, hstrikes⟩
        · obtain ⟨st, hc'⟩ := bindingAt_of_queueDrain hb hc
          exact ⟨_, hc', hstrikes⟩
        · obtain ⟨st, hc'⟩ := exists_bindingAt_queueDrain hb hc
          exact ⟨_, hc', hstrikes⟩
      have hback : ∀ {w : Waiting} {p : Binding → Prop}, (∀ c st, p c → p { c with state := st }) →
          (∃ c, bindingAt (queueDrain s k b).bt.slots w.order.slot = some c ∧ p c) →
          ∃ c, bindingAt s.bt.slots w.order.slot = some c ∧ p c := by
        rintro w p hp ⟨c, hc, hpc⟩
        obtain ⟨st, hc'⟩ := bindingAt_of_queueDrain hb hc
        exact ⟨_, hc', hp c st hpc⟩
      by_cases hcond : 2 ≤ b.strikes
      · have hqueue : (queueDrain s k b).ou.drain.waiting = (before ++ [newOrder .drain k b.extent]) ++ behind := by
          have : (queueDrain s k b).ou.drain.waiting
              = joinCondemned s.bt.slots (newOrder .drain k b.extent) s.ou.drain.waiting :=
            if_pos ((Binding.condemned_eq_true b).mpr hcond)
          rw [this, hws, joinCondemned_append hplace, List.append_assoc]
          rfl
        obtain ⟨condemned, others, h⟩ := ih (queueDrain s k b) _ behind hsorted
          (by rw [hqueue]; rw [hws] at hlen; simp only [List.length_append, List.length_singleton] at hlen ⊢; omega) hqueue
          ⟨fun w hw => by
            simp only [List.getLast?_concat, Option.some.injEq] at hw
            subst hw
            rw [hslots]
            exact (condemnedSlot_iff _ _).mpr ⟨b, hb, hcond⟩, fun w hw => (hslots _).trans (hplace.behind w hw)⟩
        exact ⟨_ :: condemned, others, h.cons hs hb hq hfirst rfl
          (List.forall_mem_cons.mpr ⟨⟨b, hb, hcond⟩, fun w hw => hback (fun _ _ => id) (h.condemned_ge w hw)⟩)
          (fun w hw => hback (fun _ _ => id) (h.others_lt w hw)) (by simp)⟩
      · have hqueue : (queueDrain s k b).ou.drain.waiting = before ++ (behind ++ [newOrder .drain k b.extent]) := by
          have : (queueDrain s k b).ou.drain.waiting = s.ou.drain.waiting ++ [newOrder .drain k b.extent] :=
            if_neg (mt (Binding.condemned_eq_true b).mp hcond)
          rw [this, hws, List.append_assoc]
        obtain ⟨condemned, others, h⟩ := ih (queueDrain s k b) before _ hsorted
          (by rw [hqueue]; rw [hws] at hlen; simp only [List.length_append, List.length_singleton] at hlen ⊢; omega) hqueue
          ⟨fun w hw => (hslots _).trans (hplace.last w hw), fun w hw => by
            rw [hslots]
            rcases List.mem_append.mp hw with hin | hin
            · exact hplace.behind w hin
            · rw [List.mem_singleton.mp hin, condemnedSlot_eq_false_iff]
              intro c hc
              obtain rfl := Option.some.inj (hb.symm.trans hc)
              exact Nat.lt_of_not_le hcond⟩
        have hnil : condemned = [] := by
          refine List.eq_nil_iff_forall_not_mem.mpr fun w hw => ?_
          obtain ⟨c, hc, hcq⟩ := h.exists_binding (List.mem_append_left others hw)
          obtain ⟨d, hd, hdcond⟩ := h.condemned_ge w hw
          obtain rfl := Option.some.inj (hc.symm.trans hd)
          rw [drainQualifies_queueDrain hs hb] at hcq
          rw [bindingAt_queueDrain] at hc
          split at hc
          · cases hc
            exact hcond hdcond
          next hne =>
            have := hfirst _ c hc hcq hne
            simp only [drainAhead] at this
            omega
        subst hnil
        exact ⟨[], _ :: others, h.cons hs hb hq hfirst rfl (fun w hw => absurd hw List.not_mem_nil)
          (List.forall_mem_cons.mpr ⟨⟨b, hb, Nat.lt_of_not_le hcond⟩, fun w hw => hback (fun _ _ => id) (h.others_lt w hw)⟩)
          (by simp)⟩

theorem drainQualifies_iff (s : State) (b : Binding) :
    drainQualifies s b = true ↔ b.state = .held ∧ b.isDirty = true
      ∧ (s.policy.drainDelay ≤ (b.dirtyAge s.seconds).getD 0 ∨ holdStage s ≠ .calm ∨ s.psm.drainAll = true
        ∨ 2 ≤ b.strikes) := by
  simp only [drainQualifies, Bool.and_eq_true, Bool.or_eq_true, decide_eq_true_eq, Binding.condemned_eq_true, and_assoc,
    or_assoc]

/-- Settles O12: a run with the platter READY, and one behind the closed gate. -/
theorem drainPickerRun : Obligations.DrainPickerRun := by
  refine ⟨?_, ?_⟩
  · intro s drainable ahead hdrainable hahead hactive howed hready hmap
    let s1 := { s with psm := { s.psm with drainRunsOwed := s.psm.drainRunsOwed - 1 } }
    obtain rfl : drainable = fun b => drainQualifies s1 b = true :=
      funext fun b => propext ((hdrainable b).trans (drainQualifies_iff s1 b).symm)
    obtain rfl : ahead = drainAheadAt s.seconds s.bt.slots := funext₂ fun j k => propext (hahead j k)
    obtain ⟨before, behind, hws, hplace⟩ := exists_drainPlace s.bt.slots s.ou.drain.waiting
    obtain ⟨condemned, others, h⟩ := drainLoop_drained 64 s1 before behind ((mapLaw_iff s).mp hmap).1.slots_sorted
      (by omega) hws hplace
    refine ⟨drainLoop 64 s1, before, behind, condemned, others, ?_, hws, h.queue,
      fun w hw => (condemnedSlot_iff _ _).mp (hplace.last w hw),
      fun w hw => (condemnedSlot_eq_false_iff _ _).mp (hplace.behind w hw), h.condemned_ge, h.others_lt, h.ordered, h.binding,
      h.ends, h.unbound, h.rest⟩
    show execDrainPickerRun s = _
    rw [execDrainPickerRun, (active_iff s).mpr hactive, decide_eq_true howed, ready, decide_eq_true hready]
    rfl
  · intro s hactive howed hready
    show execDrainPickerRun s = _
    rw [execDrainPickerRun, (active_iff s).mpr hactive, decide_eq_true howed, ready, decide_eq_false hready]
    rfl

end Sys2Proof.Machine
end


section
/-! SUPPORT. The promotion picker's run, one promotion after another (R64 to R68). -/

namespace Sys2Proof.Machine

/-! ### The slot of a promotion (R67, R68) -/

theorem lowestFree_eq_none {bt : BindingTable} (hs : tsorted bt.slots = true) :
    lowestFree bt = none ↔ ∀ j, j < bt.n → tget bt.slots j ≠ none := by
  constructor
  · intro hnone j hj hfree
    have hex : ∃ k, tget bt.slots k = none := ⟨j, hfree⟩
    have hleast := (lowestFree_eq_some hs (Nat.find hex)).mpr
      ⟨lt_of_le_of_lt (Nat.find_min' hex hfree) hj, Nat.find_spec hex, fun i hi => Nat.find_min hex hi⟩
    rw [hnone] at hleast
    cases hleast
  · intro h
    refine Option.eq_none_iff_forall_ne_some.mpr fun k hk => ?_
    obtain ⟨hlt, hfree, -⟩ := (lowestFree_eq_some hs k).mp hk
    exact h k hlt hfree

/-- The slot that a promotion of a row of that heat takes, by the tables: FREE, or the victim's. -/
structure State.TakesFree (s : State) (k strikes : Nat) : Prop where
  free : tget s.bt.slots k = none
  strikes : strikes = 0
  lt : k < s.bt.n
  lowest : ∀ j, j < k → tget s.bt.slots j ≠ none

structure State.TakesVictim (s : State) (heat k strikes : Nat) (v : Binding) : Prop where
  bound : bindingAt s.bt.slots k = some v
  victim : v.victim = true
  strikes : strikes = v.strikes
  hotter : v.heat + s.policy.hyst < heat
  none_free : ∀ j, j < s.bt.n → tget s.bt.slots j ≠ none
  coldest : ∀ j u, bindingAt s.bt.slots j = some u → u.victim = true → j ≠ k →
    v.heat < u.heat ∨ v.heat = u.heat ∧ (u.idle < v.idle ∨ u.idle = v.idle ∧ k < j)

theorem promotionSlot_some {s : State} (hs : tsorted s.bt.slots = true) {heat k strikes : Nat}
    (h : promotionSlot s heat = some (k, strikes)) : s.TakesFree k strikes ∨ ∃ v, s.TakesVictim heat k strikes v := by
  unfold promotionSlot at h
  split at h
  next j hfree =>
    cases h
    obtain ⟨hlt, hnone, hlowest⟩ := (lowestFree_eq_some hs k).mp hfree
    exact .inl ⟨hnone, rfl, hlt, hlowest⟩
  next hnone =>
    split at h
    next j v hvictim =>
      split at h
      next hhot =>
        cases h
        obtain ⟨hb, hv, -, hleast⟩ := (victimOf_iff hs _ k v).mp hvictim
        exact .inr ⟨v, hb, hv, rfl, hhot, (lowestFree_eq_none hs).mp hnone,
          fun j u hj hu hne => hleast j u hj hu rfl hne⟩
      next => cases h
    next => cases h

theorem promotionSlot_none {s : State} {heat : Nat} (h : promotionSlot s heat = none) :
    lowestFree s.bt = none ∧ ∀ k v, victimOf s.bt.slots (fun _ => false) = some (k, v) → heat ≤ v.heat + s.policy.hyst := by
  unfold promotionSlot at h
  split at h
  next => cases h
  next hnone =>
    refine ⟨hnone, fun k v hv => ?_⟩
    rw [hv] at h
    dsimp only at h
    split at h
    next => cases h
    next hcold => exact Nat.le_of_not_lt hcold

/-! ### One promotion, and one stale flag cleared -/

section
variable (s : State) (i : Nat) (w : Watch) (k strikes : Nat)

theorem tget_slots_promote (j : Nat) : tget (promote s i w k strikes).bt.slots j
    = if j = k then some (.bound (newBinding .filling w.extent BlockSet.none 0#4 w.heat strikes s.seconds))
      else tget s.bt.slots j :=
  tget_tset s.bt.slots k _ j

theorem bindingAt_promote (j : Nat) : bindingAt (promote s i w k strikes).bt.slots j
    = if j = k then some (newBinding .filling w.extent BlockSet.none 0#4 w.heat strikes s.seconds)
      else bindingAt s.bt.slots j :=
  bindingAt_tset_bound s.bt.slots k _ j

theorem tget_rows_promote (j : Nat) :
    tget (promote s i w k strikes).ct.rows j = if j = i then none else tget s.ct.rows j :=
  tget_terase s.ct.rows i j

theorem tget_rows_clearFlag (j : Nat) : tget (clearFlag s i w).ct.rows j
    = if j = i then some (.watching { w with eligible := false }) else tget s.ct.rows j :=
  tget_tset s.ct.rows i _ j

end

abbrev State.Mapped (s : State) : Prop := MapOk s.bt.n s.bt.e s.bt.slots s.ct.rows

theorem State.Mapped.promote {s : State} (h : s.Mapped) {i k strikes : Nat} {w : Watch}
    (hrow : tget s.ct.rows i = some (.watching w)) (hslot : promotionSlot s w.heat = some (k, strikes)) :
    (promote s i w k strikes).Mapped := by
  refine (h.eraseRow i).bind (b := newBinding .filling w.extent BlockSet.none 0#4 w.heat strikes s.seconds)
    ((promotionSlot_takeable hslot).lt h) (h.row_lt hrow)
    (fun j d hd hext => absurd hext.symm (h.row_unbound hrow hd)) fun j r hr hext => ?_
  rw [tget_terase] at hr
  split at hr
  · cases hr
  next hne => exact hne (h.row_inj hr hrow hext)

theorem State.Mapped.clearFlag {s : State} (h : s.Mapped) {i : Nat} {w : Watch}
    (hrow : tget s.ct.rows i = some (.watching w)) : (clearFlag s i w).Mapped := by
  refine h.fewerRows (tsorted_tset _ _ _ h.rows_sorted) fun {j r} hr => ?_
  rw [tget_rows_clearFlag] at hr
  split at hr
  next hj => cases hr; exact ⟨.watching w, hj ▸ hrow, rfl⟩
  next => exact ⟨r, hr, rfl⟩

/-- Each turn takes one row out of the eligible set. -/
theorem length_eligibleRows_lt {rows rows' : List (Nat × Row)} (hs' : tsorted rows' = true) {i : Nat} {w : Watch}
    (hi : (i, w) ∈ eligibleRows rows) (hnot : ∀ u, tget rows' i = some (.watching u) → u.eligible = false)
    (hsub : ∀ j u, j ≠ i → tget rows' j = some (.watching u) → (j, Row.watching u) ∈ rows) :
    (eligibleRows rows').length < (eligibleRows rows).length := by
  have hout : ∀ u, (i, u) ∉ eligibleRows rows' := fun u hu => by
    obtain ⟨hmem, helig⟩ := mem_eligibleRows.mp hu
    have := hnot u ((tget_eq_some _ hs' _ _).mpr hmem)
    rw [helig] at this
    exact absurd this (by simp)
  have hnodup : ((i, w) :: eligibleRows rows').Nodup :=
    List.nodup_cons.mpr ⟨hout w, (eligibleRows_pairwise hs').imp fun hlt heq => by simp [heq] at hlt⟩
  refine (hnodup.subperm (List.cons_subset.mpr ⟨hi, fun p hp => ?_⟩)).length_le
  obtain ⟨j, u⟩ := p
  obtain ⟨hmem, helig⟩ := mem_eligibleRows.mp hp
  have hne : j ≠ i := fun heq => hout u (heq ▸ hp)
  exact mem_eligibleRows.mpr ⟨hsub j u hne ((tget_eq_some _ hs' _ _).mpr hmem), helig⟩

/-! ### What a run makes -/

/-- A slot went to an earlier promotion of the run. -/
def TakenBefore (filled : List Waiting) (n j : Nat) : Prop := ∃ m p, m < n ∧ filled[m]? = some p ∧ p.order.slot = j

/-- Every earlier promotion of the run has the property. -/
def AllBefore (filled : List Waiting) (n : Nat) (ok : Waiting → Prop) : Prop :=
  ∀ m p, m < n → filled[m]? = some p → ok p

theorem TakenBefore.first (q : Waiting) (filled : List Waiting) (n : Nat) :
    TakenBefore (q :: filled) (n + 1) q.order.slot := ⟨0, q, Nat.succ_pos n, rfl, rfl⟩

theorem TakenBefore.later {filled : List Waiting} {n j : Nat} (q : Waiting) (h : TakenBefore filled n j) :
    TakenBefore (q :: filled) (n + 1) j := by
  obtain ⟨m, p, hm, hp, hj⟩ := h
  exact ⟨m + 1, p, Nat.succ_lt_succ hm, hp, hj⟩

theorem AllBefore.of_cons {q : Waiting} {filled : List Waiting} {n : Nat} {ok : Waiting → Prop}
    (h : AllBefore (q :: filled) (n + 1) ok) : ok q ∧ AllBefore filled n ok :=
  ⟨h 0 q (Nat.succ_pos n) rfl, fun m p hm hp => h (m + 1) p (Nat.succ_lt_succ hm) hp⟩

/-- The row of the `n`-th promotion is the head of what the eligible set then is (R47). -/
def State.HeadAt (s : State) (filled : List Waiting) (n i : Nat) (r : Watch) : Prop :=
  ∀ j u, tget s.ct.rows j = some (.watching u) → u.eligible = true → j ≠ i →
    AllBefore filled n (fun p => p.order.extent ≠ u.extent) → u.heat < r.heat ∨ u.heat = r.heat ∧ i < j

/-- The slot of the `n`-th promotion: the lowest FREE one left, or with none left the victim of what is left (R67, R68). -/
def State.SlotAt (s : State) (filled : List Waiting) (n : Nat) (r : Watch) (k strikes : Nat) : Prop :=
  (tget s.bt.slots k = none ∧ strikes = 0 ∧ k < s.bt.n
    ∧ ∀ j, j < k → tget s.bt.slots j = none → TakenBefore filled n j)
  ∨ ∃ v, bindingAt s.bt.slots k = some v ∧ v.victim = true ∧ strikes = v.strikes ∧ v.heat + s.policy.hyst < r.heat
    ∧ (∀ j, j < s.bt.n → tget s.bt.slots j = none → TakenBefore filled n j)
    ∧ ∀ j u, bindingAt s.bt.slots j = some u → u.victim = true → j ≠ k →
        AllBefore filled n (fun p => p.order.slot ≠ j) →
        v.heat < u.heat ∨ v.heat = u.heat ∧ (u.idle < v.idle ∨ u.idle = v.idle ∧ k < j)

/-- The `n`-th promotion of a run. -/
def State.PromotedAt (s t : State) (filled : List Waiting) (n : Nat) (q : Waiting) : Prop :=
  ∃ i r k strikes, q = ⟨⟨.heatFill, k, r.extent, 3, 0⟩, none⟩
    ∧ tget s.ct.rows i = some (.watching r) ∧ r.eligible = true ∧ tget t.ct.rows i = none
    ∧ s.policy.aBase + s.policy.aBase * (s.policy.bMax - (s.au.tokens - n)) / s.policy.bMax ≤ r.heat
    ∧ s.HeadAt filled n i r
    ∧ bindingAt t.bt.slots k = some ⟨.filling, r.extent, 0#64, 0#64, none, none, 0#4, r.heat, 0, none, strikes, none⟩
    ∧ s.SlotAt filled n r k strikes
    ∧ inLog t.mju.log k = true

/-- What ends a run (R64). -/
def State.PickerEnds (t : State) : Prop :=
  64 ≤ t.ou.heatFill.waiting.length ∨ t.au.tokens = 0 ∨ t.psm.platter ≠ .ready ∨ 248 ≤ t.mju.log.length
  ∨ eligibleRows t.ct.rows = []
  ∨ ∃ i w, eligibleHead t.ct.rows = some (i, w) ∧ aEff t ≤ w.heat ∧ lowestFree t.bt = none
    ∧ ∀ k v, victimOf t.bt.slots (fun _ => false) = some (k, v) → w.heat ≤ v.heat + t.policy.hyst

/-- What a run makes of the state: `filled` are the heat fills of its promotions. -/
structure State.Promoted (s t : State) (filled : List Waiting) : Prop where
  ends : t.PickerEnds
  queue : t.ou.heatFill.waiting = s.ou.heatFill.waiting ++ filled
  tokens : t.au.tokens + filled.length = s.au.tokens
  each : ∀ n q, filled[n]? = some q → s.PromotedAt t filled n q
  nodup : (filled.map fun q => q.order.slot).Nodup
  slots : ∀ k, (∀ q ∈ filled, q.order.slot ≠ k) → tget t.bt.slots k = tget s.bt.slots k
  rows : ∀ i, (∀ q ∈ filled, ∀ r, tget s.ct.rows i = some (.watching r) → q.order.extent ≠ r.extent) →
    tget t.ct.rows i = tget s.ct.rows i
    ∨ ∃ r, tget s.ct.rows i = some (.watching r) ∧ r.eligible = true ∧ r.heat < aEff t
      ∧ tget t.ct.rows i = some (.watching { r with eligible := false })
  log_le : t.mju.log.length ≤ max s.mju.log.length 248
  logged : ∀ k, inLog s.mju.log k = true → inLog t.mju.log k = true
  rest : t = { s with
    bt := { s.bt with slots := t.bt.slots }, ct := { s.ct with rows := t.ct.rows }
    au := { s.au with tokens := t.au.tokens }
    ou := { s.ou with heatFill := { s.ou.heatFill with waiting := t.ou.heatFill.waiting } }
    mju := { s.mju with log := t.mju.log }
    lif := { s.lif with deltaAsking := t.lif.deltaAsking } }

theorem State.Promoted.nil {s : State} (h : s.PickerEnds) : s.Promoted s [] where
  ends := h
  queue := (List.append_nil _).symm
  tokens := rfl
  each n q hq := by simp at hq
  nodup := List.nodup_nil
  slots _ _ := rfl
  rows _ _ := .inl rfl
  log_le := le_max_left ..
  logged _ := id
  rest := rfl

theorem State.Promoted.tokens_le {s t : State} {filled : List Waiting} (h : s.Promoted t filled) :
    t.au.tokens ≤ s.au.tokens := Nat.le.intro h.tokens

theorem State.Promoted.policy {s t : State} {filled : List Waiting} (h : s.Promoted t filled) :
    t.policy = s.policy := by rw [h.rest]

theorem State.Promoted.credit {s t : State} {filled : List Waiting} (h : s.Promoted t filled) :
    t.lif.credit = s.lif.credit := by rw [h.rest]

theorem thresholdAt_le_of_tokens_le (p : Policy) {m n : Nat} (h : m ≤ n) : thresholdAt p n ≤ thresholdAt p m :=
  Nat.add_le_add_left (Nat.div_le_div_right (Nat.mul_le_mul_left _ (Nat.sub_le_sub_left h _))) _

/-! ### A stale flag cleared, then the rest of the run (R46) -/

section
variable {s t : State} {i : Nat} {w : Watch} {filled : List Waiting} (hrow : tget s.ct.rows i = some (.watching w))
  (hcold : w.heat < aEff s)
include hrow hcold

theorem State.PromotedAt.of_clearFlag {n : Nat} {q : Waiting} (h : (clearFlag s i w).PromotedAt t filled n q) :
    s.PromotedAt t filled n q := by
  obtain ⟨j, r, k, strikes, hq, hr, helig, hgone, hheat, hhead, hbound, hslot, hlog⟩ := h
  have hne : j ≠ i := fun heq => by
    rw [tget_rows_clearFlag, if_pos heq] at hr
    cases hr
    exact absurd helig (by simp)
  rw [tget_rows_clearFlag, if_neg hne] at hr
  refine ⟨j, r, k, strikes, hq, hr, helig, hgone, hheat, fun j' u hu huelig hj' hbefore => ?_, hbound, hslot, hlog⟩
  by_cases heq : j' = i
  · subst heq
    obtain rfl : w = u := by simpa using hrow.symm.trans hu
    have hmono : aEff s ≤ thresholdAt s.policy (s.au.tokens - n) :=
      thresholdAt_le_of_tokens_le s.policy (Nat.sub_le ..)
    exact .inl (lt_of_lt_of_le hcold (hmono.trans hheat))
  · exact hhead j' u (by rw [tget_rows_clearFlag, if_neg heq, hu]) huelig hj' hbefore

theorem State.Promoted.of_clearFlag (helig : w.eligible = true) (h : (clearFlag s i w).Promoted t filled) :
    s.Promoted t filled where
  ends := h.ends
  queue := h.queue
  tokens := h.tokens
  each n q hq := (h.each n q hq).of_clearFlag hrow hcold
  nodup := h.nodup
  slots := h.slots
  log_le := h.log_le
  logged := h.logged
  rest := by
    rw [h.rest]
    rfl
  rows j hj := by
    have hpolicy : t.policy = s.policy := h.policy
    have hlater := h.rows j fun q hq r hr => by
      rw [tget_rows_clearFlag] at hr
      split at hr
      next heq =>
        cases hr
        exact hj q hq w (heq ▸ hrow)
      · exact hj q hq r hr
    rw [tget_rows_clearFlag] at hlater
    split at hlater
    next heq =>
      subst heq
      rcases hlater with hsame | ⟨r, hr, hrelig, -, -⟩
      · refine .inr ⟨w, hrow, helig, lt_of_lt_of_le hcold ?_, hsame⟩
        rw [aEff, aEff, hpolicy]
        exact thresholdAt_le_of_tokens_le s.policy h.tokens_le
      · cases hr
        exact absurd hrelig (by simp)
    · exact hlater

end

/-! ### A promotion, then the rest of the run (R65) -/

section
variable {s t : State} {i k strikes : Nat} {w : Watch} {filled : List Waiting}
  (hmap : s.Mapped) (hrow : tget s.ct.rows i = some (.watching w))

/-- A promotion changes the persisted form of its slot: the slot was FREE, or bound to another extent. -/
theorem persistedChanged_promote (hmap : s.Mapped) (hrow : tget s.ct.rows i = some (.watching w))
    (hslot : s.TakesFree k strikes ∨ ∃ v, s.TakesVictim w.heat k strikes v) :
    persistedChanged s.bt.slots (promote s i w k strikes).bt.slots k = true := by
  rcases hslot with hfree | ⟨v, hvictim⟩
  · simp [persistedChanged, persisted, hfree.free, tget_slots_promote]
  · rw [← Bool.not_eq_false, persistedChanged_bound hvictim.bound
      (c := newBinding .filling w.extent BlockSet.none 0#4 w.heat strikes s.seconds)
      (by rw [bindingAt_promote, if_pos rfl])]
    exact fun hsame => hmap.row_unbound hrow hvictim.bound hsame.1.symm

theorem inLog_promote (hmap : s.Mapped) (hrow : tget s.ct.rows i = some (.watching w))
    (hslot : s.TakesFree k strikes ∨ ∃ v, s.TakesVictim w.heat k strikes v) (j : Nat) :
    inLog (promote s i w k strikes).mju.log j = true ↔ inLog s.mju.log j = true ∨ j = k := by
  have hlog := inLog_grownLog s.seconds s.bt.slots (promote s i w k strikes).bt.slots s.mju.log [k] j
  refine Iff.trans hlog (or_congr_right ⟨fun h => List.mem_singleton.mp h.1, fun h => ?_⟩)
  subst h
  exact ⟨List.mem_singleton_self _, persistedChanged_promote hmap hrow hslot⟩

/-- No later promotion takes a slot that one has taken. -/
theorem State.SlotAt.ne_of_promote {n : Nat} {r : Watch} {k' strikes' : Nat}
    (h : (promote s i w k strikes).SlotAt filled n r k' strikes') : k' ≠ k := by
  rintro rfl
  rcases h with ⟨hfree, -⟩ | ⟨v, hv, hvictim, -⟩
  · rw [tget_slots_promote, if_pos rfl] at hfree
    cases hfree
  · rw [bindingAt_promote, if_pos rfl] at hv
    cases hv
    exact absurd ((Binding.victim_iff _).mp hvictim).1 (by simp [newBinding])

theorem State.SlotAt.of_promote {n : Nat} {r : Watch} {k' strikes' : Nat}
    (h : (promote s i w k strikes).SlotAt filled n r k' strikes') :
    s.SlotAt (newOrder .heatFill k w.extent :: filled) (n + 1) r k' strikes' := by
  have hne := h.ne_of_promote
  have hfree : ∀ j, (tget (promote s i w k strikes).bt.slots j = none → TakenBefore filled n j) →
      tget s.bt.slots j = none → TakenBefore (newOrder .heatFill k w.extent :: filled) (n + 1) j := by
    intro j hlater hj
    by_cases heq : j = k
    · exact heq ▸ TakenBefore.first (newOrder .heatFill k w.extent) filled n
    · exact (hlater (by rw [tget_slots_promote, if_neg heq, hj])).later _
  rcases h with ⟨hnone, hstrikes, hlt, hlow⟩ | ⟨v, hv, hvictim, hstrikes, hhot, hlow, hcoldest⟩
  · rw [tget_slots_promote, if_neg hne] at hnone
    exact .inl ⟨hnone, hstrikes, hlt, fun j hj => hfree j (hlow j hj)⟩
  · rw [bindingAt_promote, if_neg hne] at hv
    refine .inr ⟨v, hv, hvictim, hstrikes, hhot, fun j hj => hfree j (hlow j hj), fun j u hu huvictim hj hbefore => ?_⟩
    obtain ⟨hk, hrest⟩ := hbefore.of_cons
    replace hk : k ≠ j := hk
    exact hcoldest j u (by rw [bindingAt_promote, if_neg (Ne.symm hk), hu]) huvictim hj hrest

include hrow in
theorem State.PromotedAt.of_promote {n : Nat} {q : Waiting} (h : (promote s i w k strikes).PromotedAt t filled n q) :
    s.PromotedAt t (newOrder .heatFill k w.extent :: filled) (n + 1) q := by
  obtain ⟨j, r, k', strikes', hq, hr, helig, hgone, hheat, hhead, hbound, hslot, hlog⟩ := h
  have hr' : tget s.ct.rows j = some (.watching r) := by
    rw [tget_rows_promote] at hr
    split at hr
    · cases hr
    · exact hr
  have htokens : (promote s i w k strikes).au.tokens - n = s.au.tokens - (n + 1) := by
    show s.au.tokens - 1 - n = _
    omega
  refine ⟨j, r, k', strikes', hq, hr', helig, hgone, ?_, fun j' u hu huelig hj' hbefore => ?_, hbound, hslot.of_promote, hlog⟩
  · rw [← htokens]
    exact hheat
  · obtain ⟨hext, hrest⟩ := hbefore.of_cons
    have hne : j' ≠ i := fun heq => hext (by
      subst heq
      obtain rfl : w = u := by simpa using hrow.symm.trans hu
      rfl)
    exact hhead j' u (by rw [tget_rows_promote, if_neg hne, hu]) huelig hj' hrest

theorem State.Promoted.slot_ne (h : (promote s i w k strikes).Promoted t filled) : ∀ q ∈ filled, q.order.slot ≠ k := by
  intro q hq
  obtain ⟨n, hn⟩ := List.getElem?_of_mem hq
  obtain ⟨_, r, k', _, rfl, -, -, -, -, -, -, hslot, -⟩ := h.each n q hn
  exact hslot.ne_of_promote

include hmap hrow in
/-- The first promotion of the run. -/
theorem State.Promoted.head_at (helig : w.eligible = true)
    (hhead : ∀ j u, tget s.ct.rows j = some (.watching u) → u.eligible = true → j ≠ i →
      u.heat < w.heat ∨ u.heat = w.heat ∧ i < j)
    (hwarm : aEff s ≤ w.heat) (hslot : s.TakesFree k strikes ∨ ∃ v, s.TakesVictim w.heat k strikes v)
    (h : (promote s i w k strikes).Promoted t filled) :
    s.PromotedAt t (newOrder .heatFill k w.extent :: filled) 0 (newOrder .heatFill k w.extent) := by
  refine ⟨i, w, k, strikes, rfl, hrow, helig, ?_, hwarm, fun j u hu huelig hj _ => hhead j u hu huelig hj, ?_, ?_,
    h.logged k ((inLog_promote hmap hrow hslot k).mpr (.inr rfl))⟩
  · have hgone : tget (promote s i w k strikes).ct.rows i = none := by rw [tget_rows_promote, if_pos rfl]
    rcases h.rows i (fun q _ r hr => by rw [hgone] at hr; cases hr) with hsame | ⟨r, hr, -⟩
    · rw [hsame, hgone]
    · rw [hgone] at hr
      cases hr
  · have hkept := h.slots k h.slot_ne
    rw [tget_slots_promote, if_pos rfl] at hkept
    rw [bindingAt, hkept]
    rfl
  · rcases hslot with hfree | ⟨v, hv⟩
    · exact .inl ⟨hfree.free, hfree.strikes, hfree.lt, fun j hj hnone => absurd hnone (hfree.lowest j hj)⟩
    · exact .inr ⟨v, hv.bound, hv.victim, hv.strikes, hv.hotter, fun j hj hnone => absurd hnone (hv.none_free j hj),
        fun j u hu huvictim hj _ => hv.coldest j u hu huvictim hj⟩

include hmap hrow in
theorem State.Promoted.cons (helig : w.eligible = true)
    (hhead : ∀ j u, tget s.ct.rows j = some (.watching u) → u.eligible = true → j ≠ i →
      u.heat < w.heat ∨ u.heat = w.heat ∧ i < j)
    (hwarm : aEff s ≤ w.heat) (hslot : s.TakesFree k strikes ∨ ∃ v, s.TakesVictim w.heat k strikes v)
    (htokens : 0 < s.au.tokens) (hlog : s.mju.log.length < 248) (h : (promote s i w k strikes).Promoted t filled) :
    s.Promoted t (newOrder .heatFill k w.extent :: filled) where
  ends := h.ends
  queue := by
    rw [h.queue]
    exact List.append_assoc ..
  tokens := by
    have hspent : (promote s i w k strikes).au.tokens = s.au.tokens - 1 := rfl
    have := h.tokens
    rw [List.length_cons]
    omega
  each n q hq := by
    cases n with
    | zero =>
      obtain rfl := Option.some.inj hq
      exact h.head_at hmap hrow helig hhead hwarm hslot
    | succ n => exact (h.each n q hq).of_promote hrow
  nodup := by
    refine List.nodup_cons.mpr ⟨fun hin => ?_, h.nodup⟩
    obtain ⟨q, hq, heq⟩ := List.mem_map.mp hin
    exact h.slot_ne q hq heq
  slots j hj := by
    have hne : j ≠ k := fun heq => hj _ (List.mem_cons_self ..) heq.symm
    rw [h.slots j fun q hq => hj q (List.mem_cons_of_mem _ hq), tget_slots_promote, if_neg hne]
  rows j hj := by
    have hne : j ≠ i := fun heq => hj _ (List.mem_cons_self ..) w (heq ▸ hrow) rfl
    have hlater := h.rows j fun q hq r hr => hj q (List.mem_cons_of_mem _ hq) r (by
      rwa [tget_rows_promote, if_neg hne] at hr)
    rwa [tget_rows_promote, if_neg hne] at hlater
  log_le := by
    have hone : (promote s i w k strikes).mju.log.length ≤ s.mju.log.length + 1 :=
      grownLog_length_le (now := s.seconds) (before := s.bt.slots) (after := (promote s i w k strikes).bt.slots)
        s.mju.log [k]
    have := h.log_le
    omega
  logged j hj := h.logged j ((inLog_promote hmap hrow hslot j).mpr (.inl hj))
  rest := by
    rw [h.rest]
    rfl

end

theorem pickerStops_iff (s : State) : pickerStops s = true ↔ 64 ≤ s.ou.heatFill.waiting.length ∨ s.au.tokens = 0
    ∨ s.psm.platter ≠ .ready ∨ 248 ≤ s.mju.log.length := by
  have hready : ready s = false ↔ s.psm.platter ≠ .ready := decide_eq_false_iff_not
  have hlength : s.ou.length .heatFill = s.ou.heatFill.waiting.length := rfl
  simp only [pickerStops, Bool.or_eq_true, decide_eq_true_eq, Bool.not_eq_true', hready, hlength, or_assoc]

/-- The run from any state with the fuel for the rows of the eligible set. -/
theorem promoteLoop_promoted (fuel : Nat) : ∀ s : State, s.Mapped → (eligibleRows s.ct.rows).length ≤ fuel →
    ∃ filled, s.Promoted (promoteLoop fuel s) filled := by
  induction fuel with
  | zero =>
    intro s _ hlen
    have hnil := List.eq_nil_of_length_eq_zero (Nat.le_zero.mp hlen)
    exact ⟨[], .nil (.inr (.inr (.inr (.inr (.inl hnil)))))⟩
  | succ fuel ih =>
    intro s hmap hlen
    rw [promoteLoop]
    split
    next hstops =>
      have hfour := (pickerStops_iff s).mp hstops
      exact ⟨[], .nil (by
        rcases hfour with h | h | h | h
        · exact .inl h
        · exact .inr (.inl h)
        · exact .inr (.inr (.inl h))
        · exact .inr (.inr (.inr (.inl h))))⟩
    next hgoes =>
      have hfour := mt (pickerStops_iff s).mpr hgoes
      push Not at hfour
      obtain ⟨-, htokens, -, hlog⟩ := hfour
      split
      next hnone =>
        have hnil : eligibleRows s.ct.rows = [] := by
          unfold eligibleHead at hnone
          split at hnone
          · assumption
          · cases hnone
        exact ⟨[], .nil (.inr (.inr (.inr (.inr (.inl hnil)))))⟩
      next i w hhead =>
        obtain ⟨hrow, helig, hfirst⟩ := (eligibleHead_iff hmap.rows_sorted i w).mp hhead
        have hin : (i, w) ∈ eligibleRows s.ct.rows := mem_eligibleRows.mpr ⟨mem_of_tget hrow, helig⟩
        split
        next hcold =>
          have hmap' := hmap.clearFlag hrow
          have hless : (eligibleRows (clearFlag s i w).ct.rows).length < (eligibleRows s.ct.rows).length := by
            refine length_eligibleRows_lt hmap'.rows_sorted hin (fun u hu => ?_) fun j u hj hu => ?_
            · rw [tget_rows_clearFlag, if_pos rfl] at hu
              cases hu
              rfl
            · rw [tget_rows_clearFlag, if_neg hj] at hu
              exact mem_of_tget hu
          obtain ⟨filled, h⟩ := ih (clearFlag s i w) hmap' (by omega)
          exact ⟨filled, h.of_clearFlag hrow hcold helig⟩
        next hwarm =>
          have hwarm' := Nat.le_of_not_lt hwarm
          split
          next hnone =>
            exact ⟨[], .nil (.inr (.inr (.inr (.inr (.inr ⟨i, w, hhead, hwarm', promotionSlot_none hnone⟩)))))⟩
          next k strikes hslot =>
            have hmap' := hmap.promote hrow hslot
            have hless : (eligibleRows (promote s i w k strikes).ct.rows).length < (eligibleRows s.ct.rows).length := by
              refine length_eligibleRows_lt hmap'.rows_sorted hin (fun u hu => ?_) fun j u hj hu => ?_
              · rw [tget_rows_promote, if_pos rfl] at hu
                cases hu
              · rw [tget_rows_promote, if_neg hj] at hu
                exact mem_of_tget hu
            obtain ⟨filled, h⟩ := ih (promote s i w k strikes) hmap' (by omega)
            exact ⟨_, h.cons hmap hrow helig hfirst hwarm' (promotionSlot_some hmap.slots_sorted hslot)
              (Nat.pos_of_ne_zero htokens) hlog⟩

/-- Settles O13: a run of the picker, from the state with one run less to make. -/
theorem promotionPickerRun : Obligations.PromotionPickerRun := by
  intro s hactive howed hmap
  let s1 := { s with au := { s.au with runsOwed := s.au.runsOwed - 1 } }
  obtain ⟨filled, h⟩ := promoteLoop_promoted (eligibleRows s.ct.rows).length s1 ((mapLaw_iff s).mp hmap).1 le_rfl
  have hpolicy : (promoteLoop (eligibleRows s.ct.rows).length s1).policy = s.policy := h.policy
  refine ⟨(promoteLoop (eligibleRows s.ct.rows).length s1).settleCredit, filled, ?_, ?_, ?_, ?_, ?_, h.nodup, ?_, ?_, ?_, ?_,
    creditRule_settleCredit h.credit⟩
  · show execPromotionPickerRun s = _
    rw [execPromotionPickerRun, (active_iff s).mpr hactive, decide_eq_true howed]
    rfl
  all_goals rw [settleCredit_record]
  all_goals generalize (if attn (promoteLoop (eligibleRows s.ct.rows).length s1)
    then (promoteLoop (eligibleRows s.ct.rows).length s1).lif.credit else 0) = credit
  · rw [← hpolicy]
    exact h.ends
  · exact h.queue
  · exact h.tokens
  · exact h.each
  · exact h.slots
  · exact h.rows
  · exact h.log_le
  · conv_lhs => rw [h.rest]

end Sys2Proof.Machine
end


section
/-! SUPPORT. TAKE_ITEM: the contribution of an item lands extent by extent, each at its own slot or its own set of rows (R27 to
R32, R42 to R45). -/

namespace Sys2Proof.Machine

/-! ### The way of a new row (R42, R43) -/

theorem allocateWay_of_emptyWay {rows : List (Nat × Row)} {x i : Nat} (h : emptyWay rows (setOf x) = some i) (c : Nat) :
    allocateWay rows x c = some i := by
  simp only [allocateWay, h]

theorem allocateWay_of_replacementWay {rows : List (Nat × Row)} {x i : Nat} {w : Watch}
    (h : emptyWay rows (setOf x) = none) (hrep : replacementWay rows (setOf x) = some (i, w)) (c : Nat) :
    allocateWay rows x c = if w.heat ≤ c then some i else none := by
  simp only [allocateWay, h, hrep]

/-- An extent finds no way for its row: all are taken, by rows that are barred or hotter than the contribution. -/
theorem allocateWay_eq_none {rows : List (Nat × Row)} (hs : tsorted rows = true) (x c : Nat) :
    allocateWay rows x c = none ↔ ∀ j, j / 8 = x % 1024 →
      tget rows j ≠ none ∧ ∀ w, tget rows j = some (.watching w) → c < w.heat := by
  cases hempty : emptyWay rows (setOf x) with
  | some i =>
    obtain ⟨hset, hfree, -⟩ := (emptyWay_iff _ _).mp hempty
    rw [allocateWay_of_emptyWay hempty]
    exact ⟨fun h => by simp at h, fun h => absurd hfree (h i hset).1⟩
  | none =>
    have hfull := (emptyWay_eq_none _).mp hempty
    cases hrep : replacementWay rows (setOf x) with
    | none =>
      have hno := (replacementWay_eq_none _).mp hrep
      rw [allocateWay, hempty, hrep]
      exact ⟨fun _ j hj => ⟨hfull j hj, fun w hw => absurd hj (hno j w (mem_of_tget hw))⟩, fun _ => rfl⟩
    | some p =>
      obtain ⟨i, w⟩ := p
      obtain ⟨hw, hset, hcoldest⟩ := (replacementWay_iff hs _ i w).mp hrep
      rw [allocateWay_of_replacementWay hempty hrep]
      simp only [ite_eq_right_iff, reduceCtorEq, imp_false, not_le]
      constructor
      · refine fun hhot j hj => ⟨hfull j hj, fun u hu => ?_⟩
        by_cases heq : j = i
        · subst heq
          obtain rfl : w = u := by simpa using hw.symm.trans hu
          omega
        · have := hcoldest j u hu hj heq
          omega
      · exact fun h => (h i hset).2 w hw

/-! ### What an extent's contribution reads (R32) -/

/-- Two states agree on all that a contribution to the extent reads of the tables. -/
structure State.AgreesAt (s v : State) (x : Nat) : Prop where
  residency : residency v.bt.slots x = residency s.bt.slots x
  findRow : findRow v.ct.rows x = findRow s.ct.rows x
  allocateWay : ∀ c, allocateWay v.ct.rows x c = allocateWay s.ct.rows x c
  rows : ∀ i, i / 8 = x % 1024 → tget v.ct.rows i = tget s.ct.rows i
  threshold : aEff v = aEff s

theorem emptyWay_congr {rows rows' : List (Nat × Row)} {set : Nat}
    (h : ∀ i, i / 8 = set → tget rows' i = tget rows i) : emptyWay rows' set = emptyWay rows set := by
  refine Option.ext fun i => ?_
  rw [emptyWay_iff, emptyWay_iff]
  refine and_congr_right fun hi => ?_
  rw [h i hi]
  exact and_congr_right fun _ => forall_congr' fun j => forall_congr' fun hj => by rw [h j hj]

theorem replacementWay_congr {rows rows' : List (Nat × Row)} (hs : tsorted rows = true) (hs' : tsorted rows' = true)
    {set : Nat} (h : ∀ i, i / 8 = set → tget rows' i = tget rows i) :
    replacementWay rows' set = replacementWay rows set := by
  refine Option.ext fun p => ?_
  obtain ⟨i, w⟩ := p
  rw [replacementWay_iff hs, replacementWay_iff hs', ← and_assoc, ← and_assoc, and_comm (a := _ = _),
    and_comm (a := tget rows i = _), and_assoc, and_assoc]
  refine and_congr_right fun hi => ?_
  rw [h i hi]
  refine and_congr_right fun _ => forall_congr' fun j => forall_congr' fun u => ?_
  exact ⟨fun hall hu hj => hall (by rw [h j hj, hu]) hj, fun hall hu hj => hall (by rw [← h j hj, hu]) hj⟩

theorem State.AgreesAt.of_rows {s v : State} {x : Nat} (hs : s.Mapped) (hv : v.Mapped)
    (hres : Machine.residency v.bt.slots x = Machine.residency s.bt.slots x)
    (hrows : ∀ i, i / 8 = x % 1024 → tget v.ct.rows i = tget s.ct.rows i) (hthreshold : aEff v = aEff s) :
    s.AgreesAt v x where
  residency := hres
  rows := hrows
  threshold := hthreshold
  findRow := by
    refine Option.ext fun p => ?_
    obtain ⟨i, r⟩ := p
    rw [hs.findRow_eq_some, hv.findRow_eq_some]
    refine and_congr_left fun hext => ⟨fun hr => ?_, fun hr => ?_⟩
    · rw [← hrows i (hext ▸ hv.row_set hr), hr]
    · rw [hrows i (hext ▸ hs.row_set hr), hr]
  allocateWay c := by
    rw [Machine.allocateWay, Machine.allocateWay, emptyWay_congr (set := setOf x) hrows,
      replacementWay_congr (set := setOf x) hs.rows_sorted hv.rows_sorted hrows]

/-! ### Where a contribution lands (R32) -/

/-- The contribution `c` to the extent `x` has landed, between two states that differ elsewhere as they may. -/
inductive State.LandsAt (s t : State) (x c : Nat) : Prop
  | bound {k : Nat} {b : Binding} (hres : residency s.bt.slots x = some (k, b))
      (hwarm : bindingAt t.bt.slots k = some { b with heat := warmed b.heat c, idle := b.idle % 8 })
      (hrows : ∀ i, i / 8 = x % 1024 → tget t.ct.rows i = tget s.ct.rows i)
  | watched {i : Nat} {w : Watch} (hres : residency s.bt.slots x = none) (hrow : findRow s.ct.rows x = some (i, .watching w))
      (hwarm : tget t.ct.rows i = some (.watching (w.contribute c (aEff s))))
      (hrows : ∀ j, j / 8 = x % 1024 → j ≠ i → tget t.ct.rows j = tget s.ct.rows j)
  | barred {i y : Nat} {u : Time} (hres : residency s.bt.slots x = none)
      (hrow : findRow s.ct.rows x = some (i, .barred y u))
      (hrows : ∀ j, j / 8 = x % 1024 → tget t.ct.rows j = tget s.ct.rows j)
  | made {i : Nat} (hres : residency s.bt.slots x = none) (hrow : findRow s.ct.rows x = none)
      (hway : allocateWay s.ct.rows x c = some i)
      (hnew : tget t.ct.rows i = some (.watching (newWatch x c (aEff s))))
      (hrows : ∀ j, j / 8 = x % 1024 → j ≠ i → tget t.ct.rows j = tget s.ct.rows j)
  | lost (hres : residency s.bt.slots x = none) (hrow : findRow s.ct.rows x = none)
      (hway : allocateWay s.ct.rows x c = none)
      (hrows : ∀ j, j / 8 = x % 1024 → tget t.ct.rows j = tget s.ct.rows j)

/-- The contribution makes a row newly eligible (R46, R63). -/
def State.newlyAt (s : State) (x c : Nat) : Bool :=
  match residency s.bt.slots x with
  | some _ => false
  | none =>
    match findRow s.ct.rows x with
    | some (_, .watching w) => (w.contribute c (aEff s)).eligible && !w.eligible
    | some (_, .barred _ _) => false
    | none =>
      match allocateWay s.ct.rows x c with
      | some _ => (newWatch x c (aEff s)).eligible
      | none => false

/-- The contribution counts as untracked (R44). -/
def State.lostAt (s : State) (x c : Nat) : Bool :=
  (residency s.bt.slots x).isNone && (findRow s.ct.rows x).isNone && (allocateWay s.ct.rows x c).isNone

theorem State.LandsAt.congr {s v t t' : State} {x c : Nat} (h : v.LandsAt t' x c) (hread : s.AgreesAt v x)
    (hslot : ∀ k b, Machine.residency s.bt.slots x = some (k, b) → bindingAt t.bt.slots k = bindingAt t'.bt.slots k)
    (hrows : ∀ i, i / 8 = x % 1024 → tget t.ct.rows i = tget t'.ct.rows i) : s.LandsAt t x c := by
  have hkept : ∀ j, j / 8 = x % 1024 → tget t'.ct.rows j = tget v.ct.rows j → tget t.ct.rows j = tget s.ct.rows j :=
    fun j hj heq => by rw [hrows j hj, heq, hread.rows j hj]
  cases h with
  | bound hres hwarm hsame =>
    rw [hread.residency] at hres
    exact .bound hres (by rw [hslot _ _ hres, hwarm]) fun i hi => hkept i hi (hsame i hi)
  | watched hres hrow hwarm hsame =>
    rw [hread.residency] at hres
    rw [hread.findRow] at hrow
    have hset := (findRow_some hrow).2.2
    exact .watched hres hrow (by rw [hrows _ hset, hwarm, hread.threshold]) fun j hj hne => hkept j hj (hsame j hj hne)
  | barred hres hrow hsame =>
    rw [hread.residency] at hres
    rw [hread.findRow] at hrow
    exact .barred hres hrow fun j hj => hkept j hj (hsame j hj)
  | made hres hrow hway hnew hsame =>
    rw [hread.residency] at hres
    rw [hread.findRow] at hrow
    rw [hread.allocateWay] at hway
    exact .made hres hrow hway (by rw [hrows _ (allocateWay_set hway), hnew, hread.threshold])
      fun j hj hne => hkept j hj (hsame j hj hne)
  | lost hres hrow hway hsame =>
    rw [hread.residency] at hres
    rw [hread.findRow] at hrow
    rw [hread.allocateWay] at hway
    exact .lost hres hrow hway fun j hj => hkept j hj (hsame j hj)

theorem State.AgreesAt.newlyAt {s v : State} {x : Nat} (h : s.AgreesAt v x) (c : Nat) :
    v.newlyAt x c = s.newlyAt x c := by
  simp only [State.newlyAt, h.residency, h.findRow, h.allocateWay, h.threshold]

theorem State.AgreesAt.lostAt {s v : State} {x : Nat} (h : s.AgreesAt v x) (c : Nat) :
    v.lostAt x c = s.lostAt x c := by
  simp only [State.lostAt, h.residency, h.findRow, h.allocateWay]

/-! ### One contribution -/

/-- What one contribution does to the part, apart from where it lands. -/
structure State.HeatedAt (s t : State) (x c : Nat) : Prop where
  lands : s.LandsAt t x c
  slots : ∀ k, (∀ b, residency s.bt.slots x ≠ some (k, b)) → tget t.bt.slots k = tget s.bt.slots k
  extents : ∀ k b, bindingAt t.bt.slots k = some b → b.extent ≠ x → bindingAt s.bt.slots k = some b
  rows : ∀ i, i / 8 ≠ x % 1024 → tget t.ct.rows i = tget s.ct.rows i
  untracked : t.ct.untracked = min 65535 (s.ct.untracked + if s.lostAt x c then 1 else 0)

theorem applyHeat_heatedAt (s : State) (flag : Bool) (x c : Nat) (hcount : s.ct.untracked ≤ 65535) :
    s.HeatedAt (applyHeat x c (s, flag)).1 x c ∧ (applyHeat x c (s, flag)).2 = (flag || s.newlyAt x c) := by
  have hkeep : min 65535 (s.ct.untracked + 0) = s.ct.untracked := Nat.min_eq_right hcount
  have hrow_ne : ∀ {i j : Nat} {r : Row}, j / 8 ≠ x % 1024 → i / 8 = x % 1024 →
      tget (tset s.ct.rows i r) j = tget s.ct.rows j := fun {i j r} hj hi =>
    tget_tset_ne _ _ fun heq => hj (heq ▸ hi)
  cases hres : residency s.bt.slots x with
  | some kb =>
    obtain ⟨k, b⟩ := kb
    have hlost : s.lostAt x c = false := by simp [State.lostAt, hres]
    simp only [applyHeat, State.newlyAt, hres, Bool.or_false, and_true]
    refine ⟨.bound hres ?_ fun _ _ => rfl, fun j hj => ?_, fun j d hd hne => ?_, fun _ _ => rfl, ?_⟩
    · exact (bindingAt_tset_bound _ _ _ _).trans (if_pos rfl)
    · exact tget_tset_ne _ _ fun heq => hj b (heq ▸ hres)
    · rw [State.setBinding_bt, bindingAt_tset_bound] at hd
      split at hd
      · cases hd
        exact absurd (residency_some _ _ _ _ hres).2 hne
      · exact hd
    · rw [hlost]
      exact hkeep.symm
  | none =>
    cases hrow : findRow s.ct.rows x with
    | some ir =>
      obtain ⟨i, r⟩ := ir
      have hlost : s.lostAt x c = false := by simp [State.lostAt, hrow]
      have hset := (findRow_some hrow).2.2
      cases r with
      | barred y u =>
        simp only [applyHeat, State.newlyAt, hres, hrow, Bool.or_false, and_true]
        refine ⟨.barred hres hrow fun _ _ => rfl, fun _ _ => rfl, fun _ _ hd _ => hd, fun _ _ => rfl, ?_⟩
        rw [hlost]
        exact hkeep.symm
      | watching w =>
        simp only [applyHeat, State.newlyAt, hres, hrow, and_true]
        refine ⟨.watched hres hrow ?_ fun j _ hne => ?_, fun _ _ => rfl, fun _ _ hd _ => hd, fun j hj => ?_, ?_⟩
        · exact tget_tset_same _ _ _
        · exact tget_tset_ne _ _ hne
        · exact hrow_ne hj hset
        · rw [hlost]
          exact hkeep.symm
    | none =>
      cases hway : allocateWay s.ct.rows x c with
      | some i =>
        have hlost : s.lostAt x c = false := by simp [State.lostAt, hway]
        simp only [applyHeat, State.newlyAt, hres, hrow, hway, and_true]
        refine ⟨.made hres hrow hway ?_ fun j _ hne => ?_, fun _ _ => rfl, fun _ _ hd _ => hd, fun j hj => ?_, ?_⟩
        · exact tget_tset_same _ _ _
        · exact tget_tset_ne _ _ hne
        · exact hrow_ne hj (allocateWay_set hway)
        · rw [hlost]
          exact hkeep.symm
      | none =>
        have hlost : s.lostAt x c = true := by simp [State.lostAt, hres, hrow, hway]
        simp only [applyHeat, State.newlyAt, hres, hrow, hway, Bool.or_false, and_true]
        refine ⟨.lost hres hrow hway fun _ _ => rfl, fun _ _ => rfl, fun _ _ hd _ => hd, fun _ _ => rfl, ?_⟩
        rw [hlost]
        rfl

/-- A contribution leaves all that a contribution to an extent of another set reads. -/
theorem State.HeatedAt.agreesAt {s t : State} {x c : Nat} (h : s.HeatedAt t x c) (hs : s.Mapped) (ht : t.Mapped)
    (hthreshold : aEff t = aEff s) {y : Nat} (hset : y % 1024 ≠ x % 1024) : s.AgreesAt t y := by
  refine .of_rows hs ht ?_ (fun i hi => h.rows i (hi ▸ hset)) hthreshold
  refine Option.ext fun p => ?_
  obtain ⟨k, b⟩ := p
  rw [hs.residency_eq_some, ht.residency_eq_some]
  refine and_congr_left fun hext => ?_
  have hne : b.extent ≠ x := fun heq => hset (by rw [← hext, heq])
  refine ⟨fun hb => h.extents k b hb hne, fun hb => ?_⟩
  have hother : ∀ d, residency s.bt.slots x ≠ some (k, d) := fun d hd => by
    obtain ⟨hd', hdx⟩ := hs.residency_eq_some.mp hd
    obtain rfl := Option.some.inj (hb.symm.trans hd')
    exact hne hdx
  rw [bindingAt, h.slots k hother]
  exact hb

theorem applyHeat_mapped {s : State} (h : s.Mapped) {x c : Nat} (hx : x < s.bt.e) (hc : c ≤ 4095) (flag : Bool) :
    (applyHeat x c (s, flag)).1.Mapped := by
  have hmoves := applyHeat_moves (c := ⟨true, s.bt.n, s.bt.e, 0, True, fun _ _ _ => True⟩) rfl hx hc (s, flag)
  obtain ⟨slots, ct, heq⟩ := applyHeat_onlyHeat x c (s, flag)
  have hok := MapOk.moves hmoves h
  rw [heq] at hok ⊢
  exact hok

/-! ### The contributions of an item -/

/-- What the contributions to the extents `xs` do to the part. -/
structure State.Heated (s t : State) (xs : List Nat) (c : Nat → Nat) : Prop where
  lands : ∀ x ∈ xs, s.LandsAt t x (c x)
  slots : ∀ k, (∀ x ∈ xs, ∀ b, residency s.bt.slots x ≠ some (k, b)) → tget t.bt.slots k = tget s.bt.slots k
  rows : ∀ i, (∀ x ∈ xs, i / 8 ≠ x % 1024) → tget t.ct.rows i = tget s.ct.rows i
  untracked : t.ct.untracked = min 65535 (s.ct.untracked + (xs.filter fun x => s.lostAt x (c x)).length)
  mapped : t.Mapped

theorem applyHeats_heated (c : Nat → Nat) (hc : ∀ x, c x ≤ 4095) (xs : List Nat) : ∀ (s : State) (flag : Bool), s.Mapped →
    s.ct.untracked ≤ 65535 → (∀ x ∈ xs, x < s.bt.e) → (xs.Pairwise fun x y => x % 1024 ≠ y % 1024) →
    s.Heated (xs.foldl (fun acc x => applyHeat x (c x) acc) (s, flag)).1 xs c
    ∧ (xs.foldl (fun acc x => applyHeat x (c x) acc) (s, flag)).2 = (flag || xs.any fun x => s.newlyAt x (c x)) := by
  induction xs with
  | nil =>
    intro s flag hs hcount _ _
    exact ⟨⟨fun x hx => absurd hx List.not_mem_nil, fun _ _ => rfl, fun _ _ => rfl, (Nat.min_eq_right hcount).symm, hs⟩,
      (Bool.or_false flag).symm⟩
  | cons x xs ih =>
    intro s flag hs hcount he hsets
    obtain ⟨hx, hxs⟩ := List.pairwise_cons.mp hsets
    obtain ⟨hone, hflag⟩ := applyHeat_heatedAt s flag x (c x) hcount
    have hmapped := applyHeat_mapped hs (he x (List.mem_cons_self ..)) (hc x) flag
    obtain ⟨slots, ct, heq⟩ := applyHeat_onlyHeat x (c x) (s, flag)
    have hthreshold : aEff (applyHeat x (c x) (s, flag)).1 = aEff s := by rw [heq]; rfl
    have he' : (applyHeat x (c x) (s, flag)).1.bt.e = s.bt.e := by rw [heq]; rfl
    rw [List.foldl_cons]
    generalize applyHeat x (c x) (s, flag) = acc at *
    obtain ⟨v, flag'⟩ := acc
    dsimp only at hone hflag hmapped hthreshold he'
    have hvcount : v.ct.untracked ≤ 65535 := hone.untracked ▸ Nat.min_le_left ..
    obtain ⟨hlater, hlaterFlag⟩ := ih v flag' hmapped hvcount
      (fun y hy => he' ▸ he y (List.mem_cons_of_mem x hy)) hxs
    have hagrees : ∀ y ∈ xs, s.AgreesAt v y := fun y hy =>
      hone.agreesAt hs hmapped hthreshold (Ne.symm (hx y hy))
    refine ⟨⟨List.forall_mem_cons.mpr ⟨?_, fun y hy => ?_⟩, fun k hk => ?_, fun i hi => ?_, ?_, hlater.mapped⟩, ?_⟩
    · refine hone.lands.congr (.of_rows hs hs rfl (fun _ _ => rfl) rfl) (fun k b hb => ?_) fun i hi =>
        hlater.rows i fun y hy heq => hx y hy (hi ▸ heq)
      have hkept := hlater.slots k fun y hy d hd => by
        rw [(hagrees y hy).residency] at hd
        obtain ⟨hb', hbx⟩ := hs.residency_eq_some.mp hb
        obtain ⟨hd', hdy⟩ := hs.residency_eq_some.mp hd
        obtain rfl := Option.some.inj (hb'.symm.trans hd')
        exact hx y hy (by rw [← hbx, hdy])
      rw [bindingAt, hkept]
      rfl
    · exact (hlater.lands y hy).congr (hagrees y hy) (fun _ _ _ => rfl) fun _ _ => rfl
    · rw [hlater.slots k fun y hy b => by
        rw [(hagrees y hy).residency]
        exact hk y (List.mem_cons_of_mem x hy) b]
      exact hone.slots k (hk x (List.mem_cons_self ..))
    · rw [hlater.rows i fun y hy => hi y (List.mem_cons_of_mem x hy)]
      exact hone.rows i (hi x (List.mem_cons_self ..))
    · have hfilter : (xs.filter fun y => v.lostAt y (c y)) = xs.filter fun y => s.lostAt y (c y) :=
        List.filter_congr fun y hy => (hagrees y hy).lostAt (c y)
      rw [hlater.untracked, hone.untracked, hfilter, List.filter_cons]
      by_cases hlost : s.lostAt x (c x) = true
      · rw [if_pos hlost, if_pos hlost, List.length_cons]
        omega
      · rw [if_neg hlost, if_neg hlost]
        omega
    · have hany : (xs.any fun y => v.newlyAt y (c y)) = xs.any fun y => s.newlyAt y (c y) := by
        rw [Bool.eq_iff_iff, List.any_eq_true, List.any_eq_true]
        exact exists_congr fun y => and_congr_right fun hy => by rw [(hagrees y hy).newlyAt]
      rw [hlaterFlag, hflag, hany, List.any_cons, Bool.or_assoc]

end Sys2Proof.Machine
end


section
/-! SUPPORT. The claim on TAKE_ITEM: its trackers, its touched extents, and the runs it starts. -/

namespace Sys2Proof.Machine

/-! ### The trackers (R28, R29) -/

theorem takeTracker_some {start : Nat} {trackers others : List Tracker} {u : Tracker}
    (h : takeTracker start trackers = some (u, others)) :
    ∃ before behind, trackers = before ++ u :: behind ∧ u.nextExpected = start
      ∧ (∀ v ∈ before, v.nextExpected ≠ start) ∧ others = before ++ behind := by
  induction trackers generalizing others with
  | nil => cases h
  | cons v trackers ih =>
    rw [takeTracker] at h
    split at h
    next heq =>
      cases h
      exact ⟨[], trackers, rfl, heq, by simp, rfl⟩
    next hne =>
      obtain ⟨⟨u', others'⟩, hfound, heq⟩ := Option.map_eq_some_iff.mp h
      cases heq
      obtain ⟨before, behind, rfl, hu, hbefore, rfl⟩ := ih hfound
      exact ⟨v :: before, behind, rfl, hu, List.forall_mem_cons.mpr ⟨hne, hbefore⟩, rfl⟩

theorem takeTracker_none {start : Nat} {trackers : List Tracker} (h : takeTracker start trackers = none) :
    ∀ u ∈ trackers, u.nextExpected ≠ start := by
  induction trackers with
  | nil => simp
  | cons v trackers ih =>
    rw [takeTracker] at h
    split at h
    next => cases h
    next hne => exact List.forall_mem_cons.mpr ⟨hne, ih (Option.map_eq_none_iff.mp h)⟩

theorem trackRead_cases (trackers : List Tracker) (start count : Nat) :
    (∃ before u behind, trackers = before ++ u :: behind ∧ u.nextExpected = start
      ∧ (∀ v ∈ before, v.nextExpected ≠ start)
      ∧ trackRead trackers start count = ⟨start + count, min 65535 (u.run + count)⟩ :: (before ++ behind))
    ∨ (∀ u ∈ trackers, u.nextExpected ≠ start)
      ∧ trackRead trackers start count = ⟨start + count, count⟩ :: trackers.take 3 := by
  cases hfound : takeTracker start trackers with
  | none => exact .inr ⟨takeTracker_none hfound, by rw [trackRead, hfound]⟩
  | some found =>
    obtain ⟨u, others⟩ := found
    obtain ⟨before, behind, heq, hu, hbefore, rfl⟩ := takeTracker_some hfound
    exact .inl ⟨before, u, behind, heq, hu, hbefore, by rw [trackRead, hfound]⟩

theorem isStreaming_eq (threshold : Nat) (trackers : List Tracker) :
    isStreaming threshold trackers = trackers.head?.any fun u => decide (threshold ≤ u.run) := by
  cases trackers <;> rfl

/-! ### The touched extents (R1) -/

/-- The extents of a range of blocks, ascending. -/
def touchedExtents (start count : Nat) : List Nat :=
  (List.range ((start + count - 1) / 64 - start / 64 + 1)).map (start / 64 + ·)

theorem sharesOf_eq_touchedExtents (start count : Nat) :
    sharesOf start count = (touchedExtents start count).map (shareOf start count) := by
  rw [sharesOf, touchedExtents, List.map_map]
  rfl

theorem mem_touchedExtents {start count : Nat} (hcount : 0 < count) {x : Nat} :
    x ∈ touchedExtents start count ↔ start / 64 ≤ x ∧ x ≤ (start + count - 1) / 64 := by
  simp only [touchedExtents, List.mem_map, List.mem_range]
  constructor
  · rintro ⟨i, hi, rfl⟩
    omega
  · exact fun ⟨hlo, hhi⟩ => ⟨x - start / 64, by omega, by omega⟩

theorem touchedExtents_sorted (start count : Nat) : (touchedExtents start count).Pairwise (· < ·) :=
  List.pairwise_map.mpr (List.pairwise_lt_range.imp fun h => Nat.add_lt_add_left h _)

/-- The extents of an item lie in different sets of rows (R41). -/
theorem touchedExtents_sets {start count : Nat} (hpos : 0 < count) (hcount : count ≤ 256) :
    (touchedExtents start count).Pairwise fun x y => x % 1024 ≠ y % 1024 := by
  refine (touchedExtents_sorted start count).imp_of_mem fun {x y} hx hy hlt => ?_
  obtain ⟨hx, -⟩ := (mem_touchedExtents hpos).mp hx
  obtain ⟨-, hy⟩ := (mem_touchedExtents hpos).mp hy
  omega

/-! ### Newly eligible rows (R46, R63) -/

/-- A contribution makes a row newly eligible exactly where an eligible row of the extent stands that was not. -/
theorem State.LandsAt.newlyAt_iff {s t : State} {x c : Nat} (h : s.LandsAt t x c) (hs : s.Mapped) (ht : t.Mapped) :
    s.newlyAt x c = true ↔ ∃ i w, tget t.ct.rows i = some (.watching w) ∧ w.extent = x ∧ w.eligible = true
      ∧ ∀ v, tget s.ct.rows i = some (.watching v) → v.extent = w.extent → v.eligible = false := by
  have hset : ∀ {i w}, tget t.ct.rows i = some (.watching w) → w.extent = x → i / 8 = x % 1024 :=
    fun hw hext => hext ▸ ht.row_set hw
  have hstale : ∀ {i w}, tget s.ct.rows i = some (.watching w) → w.eligible = true →
      ¬ ∀ v, tget s.ct.rows i = some (.watching v) → v.extent = w.extent → v.eligible = false := fun hw helig hall => by
    rw [hall _ hw rfl] at helig
    cases helig
  cases h with
  | bound hres _ hrows =>
    refine ⟨fun hn => by simp [State.newlyAt, hres] at hn, fun ⟨i, w, hw, hext, helig, hnew⟩ => ?_⟩
    rw [hrows i (hset hw hext)] at hw
    exact absurd hnew (hstale hw helig)
  | @watched i0 w0 hres hrow hwarm hrows =>
    obtain ⟨hi0, hext0⟩ := hs.findRow_eq_some.mp hrow
    simp only [State.newlyAt, hres, hrow, Bool.and_eq_true, Bool.not_eq_true']
    refine ⟨fun ⟨helig, hwas⟩ => ⟨i0, _, hwarm, hext0, helig, fun v hv _ => ?_⟩, fun ⟨i, w, hw, hext, helig, hnew⟩ => ?_⟩
    · obtain rfl : w0 = v := by simpa using hi0.symm.trans hv
      exact hwas
    · by_cases hi : i = i0
      · subst hi
        obtain rfl : w0.contribute c (aEff s) = w := by simpa using hwarm.symm.trans hw
        exact ⟨helig, hnew w0 hi0 rfl⟩
      · rw [hrows i (hset hw hext) hi] at hw
        exact absurd hnew (hstale hw helig)
  | barred hres hrow hrows =>
    refine ⟨fun hn => by simp [State.newlyAt, hres, hrow] at hn, fun ⟨i, w, hw, hext, helig, hnew⟩ => ?_⟩
    rw [hrows i (hset hw hext)] at hw
    exact absurd hnew (hstale hw helig)
  | @made i0 hres hrow hway hmade hrows =>
    have hno := hs.findRow_eq_none.mp hrow
    simp only [State.newlyAt, hres, hrow, hway]
    refine ⟨fun helig => ⟨i0, _, hmade, rfl, helig, fun v hv hext => absurd hext (hno i0 _ hv)⟩,
      fun ⟨i, w, hw, hext, helig, hnew⟩ => ?_⟩
    by_cases hi : i = i0
    · subst hi
      obtain rfl : newWatch x c (aEff s) = w := by simpa using hmade.symm.trans hw
      exact helig
    · rw [hrows i (hset hw hext) hi] at hw
      exact absurd hnew (hstale hw helig)
  | lost hres hrow hway hrows =>
    refine ⟨fun hn => by simp [State.newlyAt, hres, hrow, hway] at hn, fun ⟨i, w, hw, hext, helig, hnew⟩ => ?_⟩
    rw [hrows i (hset hw hext)] at hw
    exact absurd hnew (hstale hw helig)

/-! ### What a contribution makes, as each case of R32 has it -/

/-- A row of an extent stands only where the extent is unbound. -/
theorem State.Mapped.residency_of_findRow {s : State} (hs : s.Mapped) {x i : Nat} {r : Row}
    (hr : findRow s.ct.rows x = some (i, r)) : residency s.bt.slots x = none := by
  obtain ⟨hi, hext⟩ := hs.findRow_eq_some.mp hr
  refine Option.eq_none_iff_forall_ne_some.mpr fun p hp => ?_
  obtain ⟨hb, hbx⟩ := hs.residency_eq_some.mp (show residency s.bt.slots x = some (p.1, p.2) from hp)
  exact hs.row_unbound hi hb (by rw [hext, hbx])

section
variable {s t : State} {x c : Nat} (h : s.LandsAt t x c)
include h

theorem State.LandsAt.binding {k : Nat} {b : Binding} (hb : residency s.bt.slots x = some (k, b)) :
    bindingAt t.bt.slots k = some { b with heat := min 4095 (b.heat + c), idle := b.idle % 8 } := by
  cases h with
  | bound hres hwarm _ =>
    cases hb.symm.trans hres
    exact hwarm
  | watched hres | barred hres | made hres | lost hres => cases hb.symm.trans hres

theorem State.LandsAt.watching (hs : s.Mapped) {i : Nat} {w : Watch}
    (hw : findRow s.ct.rows x = some (i, .watching w)) :
    tget t.ct.rows i = some (.watching { w with
      heat := min 4095 (w.heat + c), idle := w.idle % 8
      eligible := w.eligible || decide (aEff s ≤ min 4095 (w.heat + c)) }) := by
  have hunbound := hs.residency_of_findRow hw
  cases h with
  | bound hres => cases hunbound.symm.trans hres
  | watched _ hrow hwarm =>
    cases hw.symm.trans hrow
    exact hwarm
  | barred _ hrow | made _ hrow | lost _ hrow => cases hw.symm.trans hrow

theorem State.LandsAt.keepsBar (hs : s.Mapped) {i : Nat} {u : Time} (hu : findRow s.ct.rows x = some (i, .barred x u)) :
    tget t.ct.rows i = some (.barred x u) := by
  have hunbound := hs.residency_of_findRow hu
  obtain ⟨hi, -⟩ := hs.findRow_eq_some.mp hu
  cases h with
  | bound hres => cases hunbound.symm.trans hres
  | barred _ _ hrows =>
    rw [hrows i (findRow_some hu).2.2]
    exact hi
  | watched _ hrow | made _ hrow | lost _ hrow => cases hu.symm.trans hrow

theorem State.LandsAt.newRow {i : Nat} (hres : residency s.bt.slots x = none) (hrow : findRow s.ct.rows x = none)
    (hway : allocateWay s.ct.rows x c = some i) :
    tget t.ct.rows i = some (.watching ⟨x, c, 0, decide (aEff s ≤ c), false⟩) := by
  cases h with
  | bound hres' => cases hres.symm.trans hres'
  | watched _ hrow' | barred _ hrow' => cases hrow.symm.trans hrow'
  | made _ _ hway' hnew =>
    cases hway.symm.trans hway'
    exact hnew
  | lost _ _ hway' => cases hway.symm.trans hway'

theorem State.LandsAt.noRow (hres : residency s.bt.slots x = none) (hrow : findRow s.ct.rows x = none)
    (hway : allocateWay s.ct.rows x c = none) : ∀ j, j / 8 = x % 1024 → tget t.ct.rows j = tget s.ct.rows j := by
  cases h with
  | bound hres' => cases hres.symm.trans hres'
  | watched _ hrow' | barred _ hrow' => cases hrow.symm.trans hrow'
  | made _ _ hway' => cases hway.symm.trans hway'
  | lost _ _ _ hrows => exact hrows

/-- A row of the extent's set stays or becomes the extent's. -/
theorem State.LandsAt.row (j : Nat) (hj : j / 8 = x % 1024) : tget t.ct.rows j = tget s.ct.rows j
    ∨ ∃ w, tget t.ct.rows j = some (.watching w) ∧ w.extent = x ∧ residency s.bt.slots x = none := by
  cases h with
  | bound _ _ hrows | barred _ _ hrows | lost _ _ _ hrows => exact .inl (hrows j hj)
  | @watched i w hres hrow hwarm hrows =>
    by_cases hji : j = i
    · exact .inr ⟨w.contribute c (aEff s), hji ▸ hwarm, (findRow_some hrow).2.1, hres⟩
    · exact .inl (hrows j hj hji)
  | @made i hres hrow hway hnew hrows =>
    by_cases hji : j = i
    · exact .inr ⟨newWatch x c (aEff s), hji ▸ hnew, rfl, hres⟩
    · exact .inl (hrows j hj hji)

end

/-! ### The item as a whole -/

/-- The contribution of an item to an extent, by the trackers as the item leaves them (R30, R31). -/
def AccessItem.heat (item : AccessItem) (p : Policy) (trackers : List Tracker) (x : Nat) : Nat :=
  contribution (itemWeight item.kind item.served (isStreaming p.streamThreshold trackers))
    (shareOf item.start item.count x).count

theorem AccessItem.heat_le (item : AccessItem) (p : Policy) (trackers : List Tracker) (x : Nat) :
    item.heat p trackers x ≤ 4095 :=
  (contribution_le (itemWeight_le ..) (Share.count_le x)).trans (by decide)

theorem AccessItem.heat_eq (item : AccessItem) (p : Policy) (trackers : List Tracker) (x : Nat) :
    item.heat p trackers x = (match item.kind with
      | .write => 4
      | .read =>
        if trackers.head?.any (fun tr => decide (p.streamThreshold ≤ tr.run)) then 1
        else match item.served with
          | .flash => 8
          | .platter => 16
          | .platterWoke => 64)
      * (1 + (min 64 (item.start + item.count - 64 * x) - (item.start - 64 * x) - 1) / 16) := by
  rw [← isStreaming_eq]
  rfl

/-- The part as an item leaves the intake, with the trackers as it leaves them. -/
def State.itemTaken (s : State) (item : AccessItem) (rest : List AccessItem) : State :=
  (s.dropItem rest).track item

theorem itemTaken_eq (s : State) (item : AccessItem) (rest : List AccessItem) :
    s.itemTaken item rest = { s with hu := (s.itemTaken item rest).hu } := by
  unfold State.itemTaken State.track
  cases item.kind <;> rfl

theorem itemTaken_hu (s : State) (item : AccessItem) (rest : List AccessItem) :
    (s.itemTaken item rest).hu = { s.hu with
      intake := rest, lapse := s.hu.lapse && decide (rest ≠ [])
      trackers := (match item.kind with
        | .read => trackRead s.hu.trackers item.start item.count
        | .write => s.hu.trackers) } := by
  unfold State.itemTaken State.track
  cases item.kind <;> cases rest <;> rfl

/-- The contributions of an item that lies in the drive. -/
theorem takeItem_heated {s v : State} {item : AccessItem} {rest : List AccessItem} {c : Nat → Nat}
    (hlife : s.mju.life = .active) (hmap : s.Mapped) (hcount : s.ct.untracked ≤ 65535)
    (hintake : s.hu.intake = item :: rest) (hpos : 0 < item.count) (hlen : item.count ≤ 256)
    (hrange : item.start + item.count ≤ 64 * s.bt.e) (hv : s.itemTaken item rest = v)
    (hc : c = item.heat s.policy v.hu.trackers) :
    ∃ t : State, v.Heated t (touchedExtents item.start item.count) c
      ∧ t = { v with bt := { v.bt with slots := t.bt.slots }, ct := t.ct }
      ∧ exec .takeItem s = .next { t with
          au := { t.au with runsOwed := t.au.runsOwed
            + if (touchedExtents item.start item.count).any (fun x => v.newlyAt x (c x)) then 1 else 0 } } := by
  have hveq : v = { s with hu := v.hu } := hv ▸ itemTaken_eq s item rest
  have hmapped : v.Mapped := by rw [hveq]; exact hmap
  have hvcount : v.ct.untracked ≤ 65535 := by rw [hveq]; exact hcount
  have hve : v.bt.e = s.bt.e := by rw [hveq]
  have hpolicy : v.policy = s.policy := by rw [hveq]
  obtain ⟨hheated, hflag⟩ := applyHeats_heated c (hc ▸ item.heat_le _ _) (touchedExtents item.start item.count) v false
    hmapped hvcount (fun x hx => by have := (mem_touchedExtents hpos).mp hx; omega) (touchedExtents_sets hpos hlen)
  obtain ⟨slots, ct, honly⟩ := applyShares_onlyHeat
    (itemWeight item.kind item.served (isStreaming s.policy.streamThreshold v.hu.trackers))
    (sharesOf item.start item.count) (v, false)
  have hfold : (sharesOf item.start item.count).foldl
      (applyShare (itemWeight item.kind item.served (isStreaming s.policy.streamThreshold v.hu.trackers))) (v, false)
      = (touchedExtents item.start item.count).foldl (fun acc x => applyHeat x (c x) acc) (v, false) := by
    rw [sharesOf_eq_touchedExtents, List.foldl_map, hc]
    rfl
  rw [hfold] at honly
  refine ⟨_, hheated, by rw [honly]; rfl, ?_⟩
  have hinside : outOfRange s.bt.e item.start item.count = false :=
    (outOfRange_eq_false _ _ _).mpr ⟨hpos, by omega⟩
  show Host.Outcome.next (takeOneItem s) = _
  rw [takeOneItem, (active_iff s).mpr hlife, if_pos rfl, hintake]
  dsimp only
  rw [applyItem, show (s.dropItem rest).bt.e = s.bt.e from rfl, hinside]
  simp only [Bool.false_eq_true, if_false]
  rw [show (s.dropItem rest).track item = v from hv, show (s.dropItem rest).policy = s.policy from rfl, hfold]
  simp only [Bool.false_or] at hflag
  rw [hflag]
  cases (touchedExtents item.start item.count).any fun x => v.newlyAt x (c x) <;> rfl

theorem exec_takeItem_outside {s : State} {item : AccessItem} {rest : List AccessItem} (hlife : s.mju.life = .active)
    (hintake : s.hu.intake = item :: rest) (hout : 64 * s.bt.e < item.start + item.count) :
    exec .takeItem s = .next (s.dropItem rest) := by
  have hrange : outOfRange (s.dropItem rest).bt.e item.start item.count = true := by
    have : s.bt.e * 64 < item.start + item.count := by omega
    simp [outOfRange, State.dropItem, this]
  show Host.Outcome.next (takeOneItem s) = _
  rw [takeOneItem, (active_iff s).mpr hlife, if_pos rfl, hintake]
  dsimp only
  rw [applyItem, if_pos hrange]

/-- Settles O19: an item beyond the drive, and one whose contributions land extent by extent. -/
theorem takeItemWarmsExtents : Obligations.TakeItemWarmsExtents := by
  refine ⟨fun s item rest hlife hintake hout => ?_, ?_⟩
  · rw [exec_takeItem_outside hlife hintake hout]
    cases rest <;> rfl
  intro s item rest touched fresh hlife hmapLaw hcount hintake hpos hlen hrange htouched hfresh
  have hmap : s.Mapped := ((mapLaw_iff s).mp hmapLaw).1
  obtain ⟨hu, hv⟩ : ∃ hu, s.itemTaken item rest = { s with hu := hu } := ⟨_, itemTaken_eq s item rest⟩
  obtain rfl : (s.itemTaken item rest).hu = hu := congrArg State.hu hv
  have hhu := itemTaken_hu s item rest
  generalize (s.itemTaken item rest).hu = hu at hv hhu
  obtain ⟨c, hc⟩ : ∃ c, c = item.heat s.policy hu.trackers := ⟨_, rfl⟩
  obtain ⟨t, h, hteq, hexec⟩ := takeItem_heated hlife hmap hcount hintake hpos hlen hrange hv hc
  have hthu : t.hu = hu := by rw [hteq]
  have htau : t.au = s.au := by rw [hteq]
  have hmem : ∀ x, x ∈ touchedExtents item.start item.count ↔ touched x := fun x =>
    (mem_touchedExtents hpos).trans (htouched x).symm
  have hlands : ∀ x, touched x → State.LandsAt { s with hu := hu } t x (c x) := fun x hx => h.lands x ((hmem x).mpr hx)
  have hmap' : State.Mapped { s with hu := hu } := hmap
  have hnew : ((touchedExtents item.start item.count).any fun x => State.newlyAt { s with hu := hu } x (c x)) = true ↔
      ∃ i w, tget t.ct.rows i = some (.watching w) ∧ touched w.extent ∧ w.eligible = true
        ∧ ∀ u, tget s.ct.rows i = some (.watching u) → u.extent = w.extent → u.eligible = false := by
    rw [List.any_eq_true]
    constructor
    · rintro ⟨x, hx, hnewly⟩
      obtain ⟨i, w, hw, rfl, helig, hwas⟩ := ((h.lands x hx).newlyAt_iff hmap' h.mapped).mp hnewly
      exact ⟨i, w, hw, (hmem _).mp hx, helig, hwas⟩
    · rintro ⟨i, w, hw, htw, helig, hwas⟩
      have hx := (hmem _).mpr htw
      exact ⟨_, hx, ((h.lands _ hx).newlyAt_iff hmap' h.mapped).mpr ⟨i, w, hw, rfl, helig, hwas⟩⟩
  refine ⟨_, c, (touchedExtents item.start item.count).filter fun x => State.lostAt { s with hu := hu } x (c x), hexec,
    ?_, ?_, ?_, ?_, ?_, ?_, ?_, ?_, ?_, ?_, ?_, ?_, ?_, ?_, ?_, ?_, ?_⟩
  · rw [hthu, hhu]
  · rw [hthu, hhu]
  · intro hkind
    rw [hthu, hhu, hkind]
  · intro hkind
    rw [hthu, hhu, hkind]
    exact trackRead_cases s.hu.trackers item.start item.count
  · intro x
    rw [hthu, hc]
    exact item.heat_eq s.policy hu.trackers x
  · intro x k b hb
    refine ⟨fun hx => (hlands x hx).binding hb, fun hx => ?_⟩
    obtain ⟨hb', hbx⟩ := hmap.residency_eq_some.mp hb
    have hkept := h.slots k fun y hy d hd => by
      obtain ⟨hd', hdy⟩ := hmap.residency_eq_some.mp hd
      obtain rfl := Option.some.inj (hb'.symm.trans hd')
      exact hx (hbx ▸ hdy ▸ (hmem y).mp hy)
    rw [bindingAt, hkept]
    exact hb'
  · exact fun k hk => h.slots k fun y _ d hd => by
      rw [(hmap.residency_eq_some.mp hd).1] at hk
      cases hk
  · exact fun x i hx => ⟨fun w hw => (hlands x hx).watching hmap' hw, fun u hu => (hlands x hx).keepsBar hmap' hu⟩
  · intro x i hx hset hfree hlower
    obtain ⟨htx, hres, hrow⟩ := (hfresh x).mp hx
    exact (hlands x htx).newRow hres hrow
      (allocateWay_of_emptyWay ((emptyWay_iff _ _).mpr ⟨hset, hfree, hlower⟩) _)
  · intro x i w hx hset hw hfull hcoldest
    obtain ⟨htx, hres, hrow⟩ := (hfresh x).mp hx
    have hway := allocateWay_of_replacementWay (x := x) ((emptyWay_eq_none _).mpr hfull)
      ((replacementWay_iff hmap.rows_sorted _ i w).mpr ⟨hw, hset, fun j u hu hj hne => hcoldest j u hj hu hne⟩) (c x)
    by_cases hwarm : w.heat ≤ c x
    · rw [if_pos hwarm] at hway ⊢
      exact (hlands x htx).newRow hres hrow hway
    · rw [if_neg hwarm] at hway ⊢
      exact ((hlands x htx).noRow hres hrow hway i hset).trans hw
  · intro j
    by_cases hj : ∃ x ∈ touchedExtents item.start item.count, j / 8 = x % 1024
    · obtain ⟨x, hx, hset⟩ := hj
      refine ((h.lands x hx).row j hset).imp_right ?_
      rintro ⟨w, hw, rfl, hres⟩
      exact ⟨w, hw, (hmem _).mp hx, hres⟩
    · exact .inl (h.rows j fun x hx hset => hj ⟨x, hx, hset⟩)
  · exact ((touchedExtents_sorted _ _).imp fun hlt => Nat.ne_of_lt hlt).filter _
  · intro x
    have hlost : State.lostAt { s with hu := hu } x (c x) = true ↔
        (residency s.bt.slots x = none ∧ findRow s.ct.rows x = none) ∧ allocateWay s.ct.rows x (c x) = none := by
      simp [State.lostAt]
    rw [List.mem_filter, hmem, hlost, allocateWay_eq_none hmap.rows_sorted, hfresh, and_assoc, and_assoc, and_assoc]
  · exact h.untracked
  · intro hex
    show t.au.runsOwed + _ = _
    rw [if_pos (hnew.mpr hex), htau]
  · intro hall
    have hno := mt hnew.mp fun ⟨i, w, hw, hx, helig, hwas⟩ => by
      obtain ⟨u, hu, hext, huelig⟩ := hall i w hw hx helig
      rw [hwas u hu hext] at huelig
      cases huelig
    show t.au.runsOwed + _ = _
    rw [if_neg hno, htau]
    rfl
  · rw [hteq, hhu]

end Sys2Proof.Machine
end


section
/-! SUPPORT. A plan decision by decision (R78 to R88): what one decision makes of the tables, and what a sequence of them makes. -/

namespace Sys2Proof.Machine

/-! ### One decision -/

/-- What a write of `w` makes of the binding `b` in slot `k` (R78 to R83). -/
def Binding.planned (s : State) (k : Nat) (b : Binding) (w : BlockSet) : Binding :=
  if boundToFlash s b w then b.written w (capturedBlocks s.ou.issued k) s.seconds else b.without w

/-- The decision of one touched extent, on the plan as the earlier ones have left it. -/
inductive PlanStep (s : State) (touches : Nat → Bool) (p : Plan) (sh : Share) : Plan → Prop
  | bound {k : Nat} {b : Binding} (hres : residency p.slots sh.extent = some (k, b)) :
      PlanStep s touches p sh ⟨tset p.slots k (.bound (Binding.planned s k b sh.blocks)), p.rows,
        p.targets ++ [(sh, if boundToFlash s b sh.blocks then .flash k else .platter)], p.touched ++ [k]⟩
  | platter (hres : residency p.slots sh.extent = none) (hready : ready s = true) :
      PlanStep s touches p sh { p with targets := p.targets ++ [(sh, .platter)] }
  | staged {k strikes : Nat} (hres : residency p.slots sh.extent = none) (hready : ready s = false)
      (hopen : stagingOpen s (dirtyCount p.slots) = true)
      (hslot : takeSlot { s.bt with slots := p.slots } touches = some (k, strikes)) :
      PlanStep s touches p sh (planStaged s k strikes sh p)

theorem planShare_some {s : State} {touches : Nat → Bool} {p p1 : Plan} {sh : Share}
    (h : planShare s touches p sh = some p1) : PlanStep s touches p sh p1 := by
  unfold planShare at h
  cases hres : residency p.slots sh.extent with
  | some kb =>
    obtain ⟨k, b⟩ := kb
    have hstep := PlanStep.bound (s := s) (touches := touches) hres
    simp only [hres] at h
    split at h
    next hflash =>
      cases h
      rw [Binding.planned, if_pos hflash, if_pos hflash] at hstep
      exact hstep
    next hflash =>
      cases h
      rw [Binding.planned, if_neg hflash, if_neg hflash] at hstep
      exact hstep
  | none =>
    simp only [hres] at h
    split at h
    next hready =>
      cases h
      exact .platter hres hready
    next hready =>
      split at h
      next hopen =>
        obtain ⟨⟨k, strikes⟩, htake, rfl⟩ := Option.map_eq_some_iff.mp h
        exact .staged hres (Bool.not_eq_true _ ▸ hready) hopen htake
      next => cases h

theorem ready_eq_false (s : State) : ready s = false ↔ s.psm.platter ≠ .ready := decide_eq_false_iff_not

theorem stagingOpen_iff (s : State) (dirty : Nat) :
    stagingOpen s dirty = true ↔ holdStage s ≠ .closed ∧ dirty < s.policy.sLim := by
  simp [stagingOpen]

theorem takeSlot_iff (bt : BindingTable) (excluded : Nat → Bool) (k strikes : Nat) :
    takeSlot bt excluded = some (k, strikes) ↔ lowestFree bt = some k ∧ strikes = 0
      ∨ lowestFree bt = none ∧ ∃ v, victimOf bt.slots excluded = some (k, v) ∧ strikes = v.strikes := by
  unfold takeSlot
  cases lowestFree bt with
  | some j => simp [and_comm, eq_comm]
  | none =>
    simp only [reduceCtorEq, false_and, false_or, true_and, Option.map_eq_some_iff, Prod.mk.injEq, Prod.exists]
    constructor
    · rintro ⟨j, v, hv, rfl, rfl⟩
      exact ⟨v, hv, rfl⟩
    · rintro ⟨v, hv, rfl⟩
      exact ⟨k, v, hv, rfl, rfl⟩

theorem takeSlot_none {bt : BindingTable} {excluded : Nat → Bool} (h : takeSlot bt excluded = none) :
    lowestFree bt = none ∧ victimOf bt.slots excluded = none := by
  unfold takeSlot at h
  cases hfree : lowestFree bt with
  | some j => simp [hfree] at h
  | none => exact ⟨rfl, by simpa [hfree] using h⟩

theorem planShare_eq_none {s : State} {touches : Nat → Bool} {p : Plan} {sh : Share} :
    planShare s touches p sh = none ↔ residency p.slots sh.extent = none ∧ ready s = false
      ∧ (stagingOpen s (dirtyCount p.slots) = false ∨ takeSlot { s.bt with slots := p.slots } touches = none) := by
  unfold planShare
  cases residency p.slots sh.extent with
  | some kb =>
    dsimp only
    split <;> simp
  | none =>
    cases ready s <;> cases stagingOpen s (dirtyCount p.slots) <;> simp

theorem boundToFlash_iff (s : State) (b : Binding) (w : BlockSet) : boundToFlash s b w = true ↔
    b.dirty &&& w ≠ 0#64 ∨ b.state ≠ .held ∨ b.strikes < 2 ∨ s.psm.platter ≠ .ready := by
  simp only [boundToFlash, Bool.or_eq_true, decide_eq_true_eq, Bool.not_eq_true', Binding.condemned_eq_false,
    ready_eq_false, or_assoc]
  exact Iff.rfl

theorem diff_eq_self {d w : BlockSet} (h : d &&& w = 0#64) : BlockSet.diff d w = d := by
  refine BitVec.eq_of_getLsbD_eq fun o _ => ?_
  have hbit := congrArg (BitVec.getLsbD · o) h
  rw [BlockSet.getLsbD_diff]
  simp only [BitVec.getLsbD_and] at hbit
  cases hd : d.getLsbD o <;> simp_all

theorem Binding.planned_flash {s : State} {k : Nat} {b : Binding} {w : BlockSet} (hw : w ≠ 0#64)
    (h : b.dirty &&& w ≠ 0#64 ∨ b.state ≠ .held ∨ b.strikes < 2 ∨ s.psm.platter ≠ .ready) :
    Binding.planned s k b w = { b with
      valid := b.valid ||| w
      dirty := b.dirty ||| w
      overtaken := b.overtaken.map (· ||| w)
      redirtied := b.redirtied.map (· ||| (w &&& capturedBlocks s.ou.issued k))
      dirtySince := if b.dirty = 0#64 then some s.seconds else b.dirtySince } := by
  rw [Binding.planned, if_pos ((boundToFlash_iff s b w).mpr h), Binding.written, decide_eq_false (p := w = BlockSet.none) hw,
    Bool.or_false]
  by_cases hd : b.dirty = 0#64
  · rw [if_neg (by simpa using hd), if_pos hd]
  · rw [if_pos (by simpa using hd), if_neg hd]

theorem Binding.planned_condemned {s : State} {k : Nat} {b : Binding} {w : BlockSet} (hclean : b.dirty &&& w = 0#64)
    (hstate : b.state = .held) (hstrikes : 2 ≤ b.strikes) (hready : s.psm.platter = .ready) :
    Binding.planned s k b w = { b with
      valid := b.valid &&& ~~~w
      overtaken := b.overtaken.map (· &&& ~~~w)
      redirtied := b.redirtied.map (· &&& ~~~w)
      dirtySince := if b.dirty = 0#64 then none else b.dirtySince } := by
  have hnot : ¬ boundToFlash s b w = true := by
    rw [boundToFlash_iff]
    push Not
    exact ⟨hclean, hstate, hstrikes, hready⟩
  rw [Binding.planned, if_neg hnot, Binding.without, diff_eq_self hclean]
  rfl

theorem Binding.planned_extent (s : State) (k : Nat) (b : Binding) (w : BlockSet) :
    (Binding.planned s k b w).extent = b.extent := by
  unfold Binding.planned
  split <;> rfl

/-- The binding of a staged write, written out (R87). -/
theorem stagedBinding_eq {w : BlockSet} (hw : w ≠ 0#64) (rows : List (Nat × Row)) (x strikes : Nat) (now : Time) :
    stagedBinding rows x w strikes now
      = ⟨.held, x, w, w, none, none, 0#4, rowHeat rows x, 0, some now, strikes, none⟩ := by
  rw [stagedBinding, newBinding, if_neg (c := w = BlockSet.none) hw]

/-! ### The tables after one decision -/

/-- The tables of a plan obey the law of the map. -/
abbrev Plan.Mapped (s : State) (p : Plan) : Prop := MapOk s.bt.n s.bt.e p.slots p.rows

/-- Where a block of an extent is after the plan: at FLASH where it is dirty (R78, R83). -/
def tierAfter (slots : List (Nat × Slot)) (x o : Nat) : Tier :=
  match residency slots x with
  | some (k, b) => if b.dirty.getLsbD o then .flash k else .platter
  | none => .platter

theorem tierAfter_congr {slots slots' : List (Nat × Slot)} {x : Nat} (h : residency slots' x = residency slots x) (o : Nat) :
    tierAfter slots' x o = tierAfter slots x o := by
  rw [tierAfter, tierAfter, h]

/-- What the decisions of the shares `shs` make of a plan. -/
structure Planned (s : State) (touches : Nat → Bool) (p p' : Plan) (shs : List Share) : Prop where
  mapped : p'.Mapped s
  bound : ∀ sh ∈ shs, ∀ k b, residency p.slots sh.extent = some (k, b) →
    bindingAt p'.slots k = some (Binding.planned s k b sh.blocks)
  platter : ∀ sh ∈ shs, residency p.slots sh.extent = none → ready s = true → residency p'.slots sh.extent = none
  staged : ∀ sh ∈ shs, residency p.slots sh.extent = none → ready s = false → ∃ k strikes,
    bindingAt p'.slots k = some (stagedBinding p.rows sh.extent sh.blocks strikes s.seconds)
    ∧ (tget p.slots k = none ∧ strikes = 0
      ∨ ∃ v, bindingAt p.slots k = some v ∧ v.victim = true ∧ touches v.extent = false ∧ strikes = v.strikes)
    ∧ findRow p'.rows sh.extent = none
  other : ∀ k b, bindingAt p.slots k = some b → (∀ sh ∈ shs, sh.extent ≠ b.extent) →
    bindingAt p'.slots k = some b
    ∨ ready s = false ∧ b.victim = true ∧ touches b.extent = false ∧ residency p'.slots b.extent = none
  unbound : ∀ x, residency p.slots x = none → (∀ sh ∈ shs, sh.extent ≠ x) → residency p'.slots x = none
  retired : ∀ k, tget p.slots k = some .retired → tget p'.slots k = some .retired
  free : ∀ k, tget p'.slots k = none → tget p.slots k = none
  kept : ∀ k v, bindingAt p'.slots k = some v → touches v.extent = false → bindingAt p.slots k = some v
  rows : ∀ x, (∀ sh ∈ shs, sh.extent ≠ x) → findRow p'.rows x = findRow p.rows x
  changes : ∃ more, p'.touched = p.touched ++ more ∧ more.length ≤ shs.length
    ∧ ∀ k, k ∉ more → tget p'.slots k = tget p.slots k
  targets : ∃ more, p'.targets = p.targets ++ more ∧ more.map Prod.fst = shs
    ∧ ∀ st ∈ more, ∀ o, st.1.blocks.getLsbD o = true → tierAfter p'.slots st.1.extent o = st.2

theorem Planned.nil {s : State} {touches : Nat → Bool} {p : Plan} (h : p.Mapped s) : Planned s touches p p [] where
  mapped := h
  bound _ hsh := absurd hsh List.not_mem_nil
  platter _ hsh := absurd hsh List.not_mem_nil
  staged _ hsh := absurd hsh List.not_mem_nil
  other _ _ hb _ := .inl hb
  unbound _ hx _ := hx
  retired _ := id
  free _ := id
  kept _ _ hv _ := hv
  rows _ _ := rfl
  changes := ⟨[], (List.append_nil _).symm, le_rfl, fun _ _ => rfl⟩
  targets := ⟨[], (List.append_nil _).symm, rfl, fun _ hst => absurd hst List.not_mem_nil⟩

section
variable {s : State} {touches : Nat → Bool} {p : Plan} {sh : Share}

theorem MapOk.findRow_emptyRowOf {n e : Nat} {slots : List (Nat × Slot)} {rows : List (Nat × Row)}
    (h : MapOk n e slots rows) (x y : Nat) :
    findRow (emptyRowOf rows x) y = if y = x then none else findRow rows y := by
  refine Option.ext fun q => ?_
  obtain ⟨i, r⟩ := q
  rw [(h.emptyRow x).findRow_eq_some, h.tget_emptyRowOf]
  split
  next heq =>
    subst heq
    simp
  next hne =>
    rw [h.findRow_eq_some]
    exact ⟨fun hr => ⟨hr.1.1, hr.2⟩, fun hr => ⟨⟨hr.1, hr.2.symm ▸ hne⟩, hr.2⟩⟩

/-- A binding written in its slot leaves the residency of the other extents. -/
theorem MapOk.residency_touch {n e : Nat} {slots : List (Nat × Slot)} {rows : List (Nat × Row)}
    (h : MapOk n e slots rows) {k : Nat} {b b' : Binding} (hb : bindingAt slots k = some b) (hext : b'.extent = b.extent)
    {x : Nat} (hx : b.extent ≠ x) : residency (tset slots k (.bound b')) x = residency slots x := by
  refine Option.ext fun q => ?_
  obtain ⟨j, c⟩ := q
  rw [(h.touch hb hext).residency_eq_some, h.residency_eq_some, bindingAt_tset_bound]
  split
  next hj =>
    subst hj
    rw [hb, Option.some.injEq, Option.some.injEq]
    exact ⟨fun ⟨hc, hcx⟩ => absurd (by rw [← hext, hc, hcx]) hx, fun ⟨hc, hcx⟩ => absurd (by rw [hc, hcx]) hx⟩
  next => exact Iff.rfl

theorem Planned.of_bound (h : p.Mapped s) (htouches : touches sh.extent = true) {k : Nat} {b : Binding}
    (hres : residency p.slots sh.extent = some (k, b)) :
    Planned s touches p ⟨tset p.slots k (.bound (Binding.planned s k b sh.blocks)), p.rows,
      p.targets ++ [(sh, if boundToFlash s b sh.blocks then .flash k else .platter)], p.touched ++ [k]⟩ [sh] := by
  obtain ⟨hb, hext⟩ := h.residency_eq_some.mp hres
  have hext' := Binding.planned_extent s k b sh.blocks
  have hmap := h.touch hb hext'
  have hres' : residency (tset p.slots k (.bound (Binding.planned s k b sh.blocks))) sh.extent
      = some (k, Binding.planned s k b sh.blocks) :=
    hmap.residency_eq_some.mpr ⟨by rw [bindingAt_tset_bound, if_pos rfl], hext'.trans hext⟩
  have hone : ∀ {q : Share → Prop}, (∀ sh' ∈ [sh], q sh') ↔ q sh := List.forall_mem_singleton
  refine ⟨hmap, hone.mpr fun j c hc => ?_, hone.mpr fun hnone => ?_, hone.mpr fun hnone => ?_, fun j c hc hne => .inl ?_,
    fun x hx hne => ?_, fun j hj => ?_, fun j hj => ?_, fun j v hv hv' => ?_, fun _ _ => rfl,
    ⟨[k], rfl, le_rfl, fun j hj => ?_⟩, ⟨_, rfl, rfl, ?_⟩⟩
  · cases hres.symm.trans hc
    rw [bindingAt_tset_bound, if_pos rfl]
  · cases hres.symm.trans hnone
  · cases hres.symm.trans hnone
  · rw [bindingAt_tset_bound, if_neg fun heq => ?_]
    · exact hc
    · subst heq
      obtain rfl := Option.some.inj (hb.symm.trans hc)
      exact hone.mp hne hext.symm
  · rw [h.residency_touch hb hext' (hext.symm ▸ hone.mp hne)]
    exact hx
  · rw [tget_tset, if_neg fun heq => ?_]
    · exact hj
    · subst heq
      rw [tget_of_bindingAt hb] at hj
      cases hj
  · rw [tget_tset] at hj
    split at hj
    · cases hj
    · exact hj
  · rw [bindingAt_tset_bound] at hv
    split at hv
    · cases hv
      rw [hext', hext, htouches] at hv'
      cases hv'
    · exact hv
  · exact tget_tset_ne _ _ fun heq => hj (List.mem_singleton.mpr heq)
  · refine List.forall_mem_singleton.mpr fun o ho => ?_
    dsimp only at ho ⊢
    rw [tierAfter, hres', Binding.planned]
    dsimp only
    split
    next hflash =>
      have hdirty : (b.written sh.blocks (capturedBlocks s.ou.issued k) s.seconds).dirty.getLsbD o = true := by
        simp [Binding.written, ho]
      rw [if_pos hdirty]
    next hflash =>
      have hclean : ¬ (b.without sh.blocks).dirty.getLsbD o = true := by
        simp [Binding.without, BlockSet.getLsbD_diff, ho]
      rw [if_neg hclean]

theorem Planned.of_platter (h : p.Mapped s) (hres : residency p.slots sh.extent = none) (hready : ready s = true) :
    Planned s touches p { p with targets := p.targets ++ [(sh, .platter)] } [sh] where
  mapped := h
  bound := List.forall_mem_singleton.mpr fun k b hb => by cases hres.symm.trans hb
  platter := List.forall_mem_singleton.mpr fun hnone _ => hnone
  staged := List.forall_mem_singleton.mpr fun _ hno => by cases hready.symm.trans hno
  other _ _ hb _ := .inl hb
  unbound _ hx _ := hx
  retired _ := id
  free _ := id
  kept _ _ hv _ := hv
  rows _ _ := rfl
  changes := ⟨[], (List.append_nil _).symm, Nat.zero_le _, fun _ _ => rfl⟩
  targets := ⟨_, rfl, rfl, List.forall_mem_singleton.mpr fun o _ => by
    dsimp only
    rw [tierAfter, hres]⟩

theorem Planned.of_staged (h : p.Mapped s) (hlt : sh.extent < s.bt.e) (htouches : touches sh.extent = true) {k strikes : Nat}
    (hres : residency p.slots sh.extent = none) (hready : ready s = false)
    (hslot : takeSlot { s.bt with slots := p.slots } touches = some (k, strikes)) :
    Planned s touches p (planStaged s k strikes sh p) [sh] := by
  have hno := (residency_none_iff h.slots_sorted _).mp hres
  obtain ⟨b, hbdef⟩ : ∃ b, b = stagedBinding p.rows sh.extent sh.blocks strikes s.seconds := ⟨_, rfl⟩
  have hbext : b.extent = sh.extent := by rw [hbdef]; rfl
  have hbdirty : b.dirty = sh.blocks := by rw [hbdef]; rfl
  have hplan : planStaged s k strikes sh p = ⟨tset p.slots k (.bound b), emptyRowOf p.rows sh.extent,
      p.targets ++ [(sh, .flash k)], p.touched ++ [k]⟩ := by rw [hbdef]; rfl
  have htaken : tget p.slots k = none ∧ strikes = 0
      ∨ ∃ v, bindingAt p.slots k = some v ∧ v.victim = true ∧ touches v.extent = false ∧ strikes = v.strikes := by
    rcases (takeSlot_iff _ _ _ _).mp hslot with ⟨hfree, hstrikes⟩ | ⟨-, v, hv, hstrikes⟩
    · exact .inl ⟨((lowestFree_eq_some h.slots_sorted k).mp hfree).2.1, hstrikes⟩
    · obtain ⟨hmem, hvictim, hexcl⟩ := victimOf_mem hv
      exact .inr ⟨v, (mem_bindingsOf_iff _ h.slots_sorted _ _).mp hmem, hvictim, hexcl, hstrikes⟩
  have hk : k < s.bt.n := (takeable_of_takeSlot hslot).lt h
  have hmap : MapOk s.bt.n s.bt.e (tset p.slots k (.bound b)) (emptyRowOf p.rows sh.extent) :=
    (h.emptyRow sh.extent).bind hk (hbext.symm ▸ hlt) (fun j d hd hdx => absurd (hdx.trans hbext) (hno j d hd))
      fun i r hr hrx => ((h.tget_emptyRowOf _ _ _).mp hr).2 (hrx.trans hbext)
  have hone : ∀ {q : Share → Prop}, (∀ sh' ∈ [sh], q sh') ↔ q sh := List.forall_mem_singleton
  have hslots : ∀ j, bindingAt (tset p.slots k (.bound b)) j = if j = k then some b else bindingAt p.slots j :=
    bindingAt_tset_bound _ _ _
  rw [hplan]
  refine ⟨hmap, hone.mpr fun j c hc => ?_, hone.mpr fun _ hyes => ?_, hone.mpr fun _ _ => ?_, fun j c hc hne => ?_,
    fun x hx hne => ?_, fun j hj => ?_, fun j hj => ?_, fun j v hv hv' => ?_, fun x hne => ?_,
    ⟨[k], rfl, le_rfl, fun j hj => ?_⟩, ⟨_, rfl, rfl, ?_⟩⟩
  · cases hres.symm.trans hc
  · cases hready.symm.trans hyes
  · refine ⟨k, strikes, by rw [hslots, if_pos rfl, hbdef], htaken, ?_⟩
    rw [h.findRow_emptyRowOf, if_pos rfl]
  · by_cases hj : j = k
    · subst hj
      rcases htaken with ⟨hfree, -⟩ | ⟨v, hv, hvictim, hexcl, -⟩
      · rw [bindingAt_of_tget_none hfree] at hc
        cases hc
      · obtain rfl := Option.some.inj (hv.symm.trans hc)
        refine .inr ⟨hready, hvictim, hexcl, (residency_none_iff hmap.slots_sorted _).mpr fun i d hd hdx => ?_⟩
        rw [hslots] at hd
        split at hd
        · cases hd
          exact hone.mp hne (hbext.symm.trans hdx)
        next hi => exact hi (h.extent_inj hd hv hdx)
    · exact .inl (by rw [hslots, if_neg hj, hc])
  · refine (residency_none_iff hmap.slots_sorted _).mpr fun i d hd hdx => ?_
    rw [hslots] at hd
    split at hd
    · cases hd
      exact hone.mp hne (hbext.symm.trans hdx)
    · exact (residency_none_iff h.slots_sorted _).mp hx i d hd hdx
  · rw [tget_tset, if_neg fun heq => ?_]
    · exact hj
    · subst heq
      rcases htaken with ⟨hfree, -⟩ | ⟨v, hv, -⟩
      · rw [hfree] at hj
        cases hj
      · rw [tget_of_bindingAt hv] at hj
        cases hj
  · rw [tget_tset] at hj
    split at hj
    · cases hj
    · exact hj
  · rw [hslots] at hv
    split at hv
    · cases hv
      rw [hbext, htouches] at hv'
      cases hv'
    · exact hv
  · rw [h.findRow_emptyRowOf, if_neg fun heq => hne sh (List.mem_singleton_self _) heq.symm]
  · exact tget_tset_ne _ _ fun heq => hj (List.mem_singleton.mpr heq)
  · refine List.forall_mem_singleton.mpr fun o ho => ?_
    have hres' : residency (tset p.slots k (.bound b)) sh.extent = some (k, b) :=
      hmap.residency_eq_some.mpr ⟨by rw [hslots, if_pos rfl], hbext⟩
    dsimp only at ho ⊢
    rw [tierAfter, hres']
    exact if_pos (hbdirty.symm ▸ ho)

theorem PlanStep.planned {p1 : Plan} (hstep : PlanStep s touches p sh p1) (h : p.Mapped s) (hlt : sh.extent < s.bt.e)
    (htouches : touches sh.extent = true) : Planned s touches p p1 [sh] := by
  cases hstep with
  | bound hres => exact .of_bound h htouches hres
  | platter hres hready => exact .of_platter h hres hready
  | staged hres hready _ hslot => exact .of_staged h hlt htouches hres hready hslot

end

/-! ### A sequence of decisions -/

theorem rowHeat_congr {rows rows' : List (Nat × Row)} {x : Nat} (h : findRow rows' x = findRow rows x) :
    rowHeat rows' x = rowHeat rows x := by
  rw [rowHeat, rowHeat, h]

section
variable {s : State} {touches : Nat → Bool} {p p1 p2 : Plan} {l1 l2 : List Share}

/-- The binding of a touched extent that the decisions leave alone stays. -/
theorem Planned.touched_stays (h : Planned s touches p p1 l1) {k : Nat} {b : Binding} (hb : bindingAt p.slots k = some b)
    (htouches : touches b.extent = true) (hne : ∀ sh ∈ l1, sh.extent ≠ b.extent) : bindingAt p1.slots k = some b := by
  rcases h.other k b hb hne with hstays | ⟨-, -, hno, -⟩
  · exact hstays
  · cases htouches.symm.trans hno

theorem Planned.residency_stays (h : Planned s touches p p1 l1) (hp : p.Mapped s) {x : Nat} (htouches : touches x = true)
    (hne : ∀ sh ∈ l1, sh.extent ≠ x) : residency p1.slots x = residency p.slots x := by
  cases hres : residency p.slots x with
  | none => exact h.unbound x hres hne
  | some q =>
    obtain ⟨k, b⟩ := q
    obtain ⟨hb, hext⟩ := hp.residency_eq_some.mp hres
    exact h.mapped.residency_eq_some.mpr ⟨h.touched_stays hb (hext ▸ htouches) (hext ▸ hne), hext⟩

theorem Planned.trans (h : Planned s touches p p1 l1) (h' : Planned s touches p1 p2 l2) (hp : p.Mapped s)
    (ht1 : ∀ sh ∈ l1, touches sh.extent = true) (ht2 : ∀ sh ∈ l2, touches sh.extent = true)
    (hdisjoint : ∀ a ∈ l1, ∀ b ∈ l2, a.extent ≠ b.extent) : Planned s touches p p2 (l1 ++ l2) := by
  have hstays2 : ∀ sh ∈ l1, residency p2.slots sh.extent = residency p1.slots sh.extent := fun sh hsh =>
    h'.residency_stays h.mapped (ht1 sh hsh) fun sh' hsh' => Ne.symm (hdisjoint sh hsh sh' hsh')
  have hstays1 : ∀ sh ∈ l2, residency p1.slots sh.extent = residency p.slots sh.extent := fun sh hsh =>
    h.residency_stays hp (ht2 sh hsh) fun sh' hsh' => hdisjoint sh' hsh' sh hsh
  constructor
  case mapped => exact h'.mapped
  case bound =>
    refine List.forall_mem_append.mpr ⟨fun sh hsh k b hb => ?_, fun sh hsh k b hb => ?_⟩
    · have hext := (Binding.planned_extent s k b sh.blocks).trans (hp.residency_eq_some.mp hb).2
      exact h'.touched_stays (h.bound sh hsh k b hb) (hext ▸ ht1 sh hsh) fun sh' hsh' =>
        hext ▸ Ne.symm (hdisjoint sh hsh sh' hsh')
    · exact h'.bound sh hsh k b ((hstays1 sh hsh).trans hb)
  case platter =>
    refine List.forall_mem_append.mpr ⟨fun sh hsh hnone hready => ?_, fun sh hsh hnone hready => ?_⟩
    · rw [hstays2 sh hsh]
      exact h.platter sh hsh hnone hready
    · exact h'.platter sh hsh ((hstays1 sh hsh).trans hnone) hready
  case staged =>
    refine List.forall_mem_append.mpr ⟨fun sh hsh hnone hready => ?_, fun sh hsh hnone hready => ?_⟩
    · obtain ⟨k, strikes, hb, htaken, hrow⟩ := h.staged sh hsh hnone hready
      refine ⟨k, strikes, h'.touched_stays hb (ht1 sh hsh) fun sh' hsh' => Ne.symm (hdisjoint sh hsh sh' hsh'), htaken, ?_⟩
      rw [h'.rows _ fun sh' hsh' => Ne.symm (hdisjoint sh hsh sh' hsh')]
      exact hrow
    · obtain ⟨k, strikes, hb, htaken, hrow⟩ := h'.staged sh hsh ((hstays1 sh hsh).trans hnone) hready
      have hheat := rowHeat_congr (h.rows sh.extent fun sh' hsh' => hdisjoint sh' hsh' sh hsh)
      rw [stagedBinding, hheat] at hb
      refine ⟨k, strikes, hb, ?_, hrow⟩
      rcases htaken with ⟨hfree, hstrikes⟩ | ⟨v, hv, hvictim, hexcl, hstrikes⟩
      · exact .inl ⟨h.free k hfree, hstrikes⟩
      · exact .inr ⟨v, h.kept k v hv hexcl, hvictim, hexcl, hstrikes⟩
  case other =>
    intro k b hb hne
    obtain ⟨hne1, hne2⟩ := List.forall_mem_append.mp hne
    rcases h.other k b hb hne1 with hstays | ⟨hready, hvictim, hexcl, hgone⟩
    · exact h'.other k b hstays hne2
    · exact .inr ⟨hready, hvictim, hexcl, h'.unbound _ hgone hne2⟩
  case unbound =>
    intro x hx hne
    obtain ⟨hne1, hne2⟩ := List.forall_mem_append.mp hne
    exact h'.unbound x (h.unbound x hx hne1) hne2
  case retired => exact fun k hk => h'.retired k (h.retired k hk)
  case free => exact fun k hk => h.free k (h'.free k hk)
  case kept => exact fun k v hv hexcl => h.kept k v (h'.kept k v hv hexcl) hexcl
  case rows =>
    intro x hne
    obtain ⟨hne1, hne2⟩ := List.forall_mem_append.mp hne
    rw [h'.rows x hne2, h.rows x hne1]
  case changes =>
    obtain ⟨m1, heq1, hlen1, hsame1⟩ := h.changes
    obtain ⟨m2, heq2, hlen2, hsame2⟩ := h'.changes
    refine ⟨m1 ++ m2, by rw [heq2, heq1, List.append_assoc], ?_, fun k hk => ?_⟩
    · rw [List.length_append, List.length_append]
      omega
    · rw [hsame2 k fun hin => hk (List.mem_append_right _ hin), hsame1 k fun hin => hk (List.mem_append_left _ hin)]
  case targets =>
    obtain ⟨m1, heq1, hfst1, htier1⟩ := h.targets
    obtain ⟨m2, heq2, hfst2, htier2⟩ := h'.targets
    refine ⟨m1 ++ m2, by rw [heq2, heq1, List.append_assoc], by rw [List.map_append, hfst1, hfst2],
      List.forall_mem_append.mpr ⟨fun st hst o ho => ?_, htier2⟩⟩
    rw [tierAfter_congr (hstays2 st.1 (hfst1 ▸ List.mem_map_of_mem hst))]
    exact htier1 st hst o ho

end

/-- A plan as the sequence of its decisions: all are made, or one of them cannot be. -/
theorem planShares_steps (s : State) (touches : Nat → Bool) (shs : List Share) (p : Plan) :
    ∃ (seq : Nat → Plan) (n : Nat), seq 0 = p ∧ n ≤ shs.length
      ∧ (∀ i sh, i < n → shs[i]? = some sh → PlanStep s touches (seq i) sh (seq (i + 1)))
      ∧ (n = shs.length ∧ planShares s touches p shs = some (seq n)
        ∨ ∃ sh, shs[n]? = some sh ∧ planShare s touches (seq n) sh = none ∧ planShares s touches p shs = none) := by
  induction shs generalizing p with
  | nil => exact ⟨fun _ => p, 0, rfl, le_rfl, fun i sh hi => absurd hi (Nat.not_lt_zero i), .inl ⟨rfl, rfl⟩⟩
  | cons sh shs ih =>
    cases hstep : planShare s touches p sh with
    | none =>
      exact ⟨fun _ => p, 0, rfl, Nat.zero_le _, fun i sh hi => absurd hi (Nat.not_lt_zero i),
        .inr ⟨sh, rfl, hstep, by rw [planShares, hstep]; rfl⟩⟩
    | some p1 =>
      obtain ⟨seq, n, h0, hn, hsteps, hend⟩ := ih p1
      have hplan : planShares s touches p (sh :: shs) = planShares s touches p1 shs := by
        rw [planShares, hstep]
        rfl
      refine ⟨fun i => i.casesOn p seq, n + 1, rfl, Nat.succ_le_succ hn, fun i sh' hi hsh => ?_, ?_⟩
      · cases i with
        | zero =>
          obtain rfl := Option.some.inj hsh
          show PlanStep s touches p sh (seq 0)
          rw [h0]
          exact planShare_some hstep
        | succ i => exact hsteps i sh' (Nat.lt_of_succ_lt_succ hi) hsh
      · rw [hplan]
        exact hend.imp_left fun ⟨hlen, heq⟩ => ⟨congrArg Nat.succ hlen, heq⟩

/-- The first `n` decisions together. -/
theorem planned_take {s : State} {touches : Nat → Bool} {shs : List Share} {seq : Nat → Plan} {n : Nat}
    (h0 : (seq 0).Mapped s) (hn : n ≤ shs.length)
    (hsteps : ∀ i sh, i < n → shs[i]? = some sh → PlanStep s touches (seq i) sh (seq (i + 1)))
    (hlt : ∀ sh ∈ shs, sh.extent < s.bt.e ∧ touches sh.extent = true)
    (hdistinct : shs.Pairwise fun a b => a.extent ≠ b.extent) : Planned s touches (seq 0) (seq n) (shs.take n) := by
  induction n with
  | zero => exact .nil h0
  | succ n ih =>
    have hlen : n < shs.length := hn
    have hbefore := ih (Nat.le_of_succ_le hn) fun i sh hi => hsteps i sh (Nat.lt_succ_of_lt hi)
    have hget : shs[n]? = some shs[n] := List.getElem?_eq_getElem hlen
    have hmem : shs[n] ∈ shs := List.getElem_mem hlen
    obtain ⟨hext, htouches⟩ := hlt _ hmem
    have hone := (hsteps n _ (Nat.lt_succ_self n) hget).planned hbefore.mapped hext htouches
    have htake : shs.take (n + 1) = shs.take n ++ [shs[n]] := (List.take_append_getElem hlen).symm
    rw [htake]
    refine hbefore.trans hone h0 (fun sh hsh => (hlt sh (List.mem_of_mem_take hsh)).2)
      (List.forall_mem_singleton.mpr htouches) fun a ha => List.forall_mem_singleton.mpr ?_
    have hpair : (shs.take n ++ [shs[n]]).Pairwise fun a b => a.extent ≠ b.extent := by
      rw [← htake]
      exact hdistinct.take
    exact (List.pairwise_append.mp hpair).2.2 a ha _ (List.mem_singleton_self _)

end Sys2Proof.Machine
end


section
/-! SUPPORT. The blocks of a plan's reply and its runs (R75, R91). -/

namespace Sys2Proof.Machine

/-! ### The extents a range touches -/

/-- The extents that a request over a range touches, as its plan tests them. -/
def planTouches (start count : Nat) (x : Nat) : Bool := (sharesOf start count).any fun sh => sh.extent == x

theorem planTouches_iff {start count : Nat} (hcount : 0 < count) (x : Nat) :
    planTouches start count x = true ↔ start / 64 ≤ x ∧ x ≤ (start + count - 1) / 64 := by
  rw [planTouches, sharesOf_eq_touchedExtents, List.any_map, List.any_eq_true, ← mem_touchedExtents hcount]
  constructor
  · rintro ⟨y, hy, heq⟩
    obtain rfl : y = x := by simpa [shareOf] using heq
    exact hy
  · exact fun hx => ⟨x, hx, by simp [shareOf]⟩

theorem sharesOf_distinct (start count : Nat) : (sharesOf start count).Pairwise fun a b => a.extent ≠ b.extent := by
  rw [sharesOf_eq_touchedExtents]
  exact List.pairwise_map.mpr ((touchedExtents_sorted start count).imp fun hlt => Nat.ne_of_lt hlt)

theorem length_sharesOf_le {start count : Nat} (hcount : count ≤ 256) : (sharesOf start count).length ≤ 5 := by
  rw [sharesOf, List.length_map, List.length_range]
  omega

/-- A range within one extent has one share. -/
theorem sharesOf_single {start count : Nat} (h : (start + count - 1) / 64 = start / 64) :
    sharesOf start count = [shareOf start count (start / 64)] := by
  rw [sharesOf, h, Nat.sub_self]
  rfl

theorem mem_sharesOf_blocks {start count : Nat} (hcount : 0 < count) {sh : Share} (h : sh ∈ sharesOf start count) {o : Nat} :
    sh.blocks.getLsbD o = true ↔ o < 64 ∧ start ≤ 64 * sh.extent + o ∧ 64 * sh.extent + o < start + count := by
  obtain ⟨x, hlo, hhi, rfl⟩ := (mem_sharesOf_pos hcount).mp h
  by_cases ho : o < 64
  · rw [Share.getLsbD_blocks hcount hlo hhi ho]
    exact (and_iff_right ho).symm
  · have hno : (shareOf start count x).blocks.getLsbD o = false := BitVec.getLsbD_of_ge _ _ (Nat.le_of_not_lt ho)
    simp [hno, ho]

theorem mem_sharesOf_blocks_ne {start count : Nat} (hcount : 0 < count) {sh : Share} (h : sh ∈ sharesOf start count) :
    sh.blocks ≠ 0#64 := by
  rw [BlockSet.ne_zero_iff]
  obtain ⟨x, hlo, hhi, rfl⟩ := (mem_sharesOf_pos hcount).mp h
  refine ⟨start - 64 * x, (mem_sharesOf_blocks hcount h).mpr ?_⟩
  show start - 64 * x < 64 ∧ start ≤ 64 * x + (start - 64 * x) ∧ 64 * x + (start - 64 * x) < start + count
  omega

/-! ### The blocks of the targets -/

/-- The shares of a range lie one behind another, without a gap. -/
theorem flatten_range'_extents (start count : Nat) (hcount : 0 < count) (m : Nat)
    (hm : m ≤ (start + count - 1) / 64 - start / 64 + 1) :
    ((List.range m).map fun i => List.range' (64 * (start / 64 + i) + (shareOf start count (start / 64 + i)).lo)
      (shareOf start count (start / 64 + i)).count).flatten
      = List.range' start (min count (64 * (start / 64 + m) - start)) := by
  induction m with
  | zero =>
    have : min count (64 * (start / 64 + 0) - start) = 0 := by omega
    rw [this]
    rfl
  | succ m ih =>
    rw [List.range_succ, List.map_append, List.flatten_append, ih (Nat.le_of_succ_le hm), List.map_singleton,
      List.flatten_singleton]
    simp only [shareOf, Share.count]
    have hstart : 64 * (start / 64 + m) + (start - 64 * (start / 64 + m))
        = start + min count (64 * (start / 64 + m) - start) := by omega
    have hlength : min count (64 * (start / 64 + (m + 1)) - start) = min count (64 * (start / 64 + m) - start)
        + (min 64 (start + count - 64 * (start / 64 + m)) - (start - 64 * (start / 64 + m))) := by omega
    rw [hstart, hlength]
    exact List.range'_append_1

/-- The blocks of the range from its first to its last share are those of the range. -/
theorem flatten_shares {α : Type} (g : Nat → α) {start count : Nat} (hcount : 0 < count) :
    ((sharesOf start count).map fun sh => (List.range' (64 * sh.extent + sh.lo) sh.count).map g).flatten
      = (List.range' start count).map g := by
  have hblocks := flatten_range'_extents start count hcount _ le_rfl
  have hall : min count (64 * (start / 64 + ((start + count - 1) / 64 - start / 64 + 1)) - start) = count := by omega
  rw [hall] at hblocks
  rw [← hblocks, List.map_flatten, sharesOf, List.map_map, List.map_map]
  rfl

theorem targetBlocks_eq (st : Share × Tier) :
    targetBlocks st = (List.range' (64 * st.1.extent + st.1.lo) st.1.count).map fun b => (b, st.2) := by
  rw [targetBlocks, List.range'_eq_map_range, List.map_map]
  rfl

/-- The blocks of a plan's targets, where each target is the tier that the tables have of its blocks. -/
theorem flatten_targetBlocks {slots : List (Nat × Slot)} {start count : Nat} (hcount : 0 < count)
    {targets : List (Share × Tier)} (hshares : targets.map Prod.fst = sharesOf start count)
    (htier : ∀ st ∈ targets, ∀ o, st.1.blocks.getLsbD o = true → tierAfter slots st.1.extent o = st.2) :
    (targets.map targetBlocks).flatten
      = (List.range' start count).map fun b => (b, tierAfter slots (b / 64) (b % 64)) := by
  rw [← flatten_shares (fun b => (b, tierAfter slots (b / 64) (b % 64))) hcount, ← hshares, List.map_map]
  refine congrArg List.flatten (List.map_congr_left fun st hst => ?_)
  have hsh : st.1 ∈ sharesOf start count := hshares ▸ List.mem_map_of_mem hst
  rw [targetBlocks_eq]
  refine List.map_congr_left fun b hb => ?_
  have hbits := htier st hst (b % 64)
  rw [mem_sharesOf_blocks hcount hsh] at hbits
  obtain ⟨x, hlo, hhi, heq⟩ := (mem_sharesOf_pos hcount).mp hsh
  obtain ⟨i, hi, rfl⟩ := List.mem_range'.mp hb
  rw [heq] at hi hbits ⊢
  simp only [shareOf, Share.count] at hi hbits ⊢
  have hdiv : (64 * x + (start - 64 * x) + 1 * i) / 64 = x := by omega
  rw [hdiv, hbits (by omega)]

/-! ### The runs of a reply -/

/-- Blocks of one tier ahead of others make at most one run more. -/
theorem runsOf_append_single {t : Tier} {seg l : List (Nat × Tier)} (hne : seg ≠ []) (h : ∀ p ∈ seg, p.2 = t) :
    ∃ r rs, runsOf (seg ++ l) = r :: rs ∧ r.tier = t ∧ rs.length ≤ (runsOf l).length := by
  induction seg with
  | nil => exact absurd rfl hne
  | cons p seg ih =>
    obtain ⟨b, u⟩ := p
    obtain ⟨rfl, hseg⟩ := List.forall_mem_cons.mp h
    dsimp only at hseg ⊢
    rw [List.cons_append, runsOf]
    by_cases hnil : seg = []
    · subst hnil
      rw [List.nil_append]
      cases hl : runsOf l with
      | nil => exact ⟨_, _, rfl, rfl, Nat.zero_le _⟩
      | cons r rs =>
        dsimp only
        split
        · exact ⟨_, _, rfl, rfl, Nat.le_succ _⟩
        · exact ⟨_, _, rfl, rfl, le_rfl⟩
    · obtain ⟨r, rs, heq, htier, hlen⟩ := ih hnil hseg
      rw [heq]
      dsimp only
      rw [if_pos htier]
      exact ⟨_, _, rfl, rfl, hlen⟩

theorem length_runsOf_le {targets : List (Share × Tier)} (h : ∀ st ∈ targets, 0 < st.1.count) :
    (runsOf (targets.map targetBlocks).flatten).length ≤ targets.length := by
  induction targets with
  | nil => exact le_rfl
  | cons st targets ih =>
    obtain ⟨hst, htargets⟩ := List.forall_mem_cons.mp h
    have hne : targetBlocks st ≠ [] := List.ne_nil_of_length_pos (by simpa [targetBlocks] using hst)
    obtain ⟨r, rs, heq, -, hlen⟩ := runsOf_append_single (t := st.2) (l := (targets.map targetBlocks).flatten) hne
      fun p hp => by
        obtain ⟨i, -, rfl⟩ := List.mem_map.mp hp
        rfl
    rw [List.map_cons, List.flatten_cons, heq, List.length_cons, List.length_cons]
    exact Nat.succ_le_succ (hlen.trans (ih htargets))

theorem runsOf_constant (t : Tier) (n start : Nat) :
    runsOf ((List.range' start (n + 1)).map fun b => (b, t)) = [⟨start, n + 1, t⟩] := by
  induction n generalizing start with
  | zero => rfl
  | succ n ih =>
    rw [List.range'_succ, List.map_cons, runsOf, ih (start + 1)]
    exact if_pos rfl

theorem share_count_pos {start count : Nat} (hcount : 0 < count) {sh : Share} (h : sh ∈ sharesOf start count) :
    0 < sh.count := by
  obtain ⟨x, hlo, hhi, rfl⟩ := (mem_sharesOf_pos hcount).mp h
  simp only [shareOf, Share.count]
  omega

theorem consecutive_range' (start count : Nat) (g : Nat → Tier) :
    Consecutive start ((List.range' start count).map fun b => (b, g b)) := by
  rw [Consecutive, List.map_map, List.length_map, List.length_range']
  exact List.map_id _

/-- The runs of the reply to a plan. -/
theorem planRuns_blocks {p : Plan} {start count : Nat} (hcount : 0 < count)
    (hshares : p.targets.map Prod.fst = sharesOf start count)
    (htier : ∀ st ∈ p.targets, ∀ o, st.1.blocks.getLsbD o = true → tierAfter p.slots st.1.extent o = st.2) :
    runBlocks (planRuns p) = (List.range' start count).map (fun b => (b, tierAfter p.slots (b / 64) (b % 64)))
    ∧ coveredBy (planRuns p) = count ∧ (planRuns p).length ≤ (sharesOf start count).length := by
  have hblocks := flatten_targetBlocks hcount hshares htier
  have hruns : runBlocks (planRuns p) = _ := (runsOf_blocks (hblocks ▸ consecutive_range' start count _)).1
  refine ⟨hruns.trans hblocks, ?_, ?_⟩
  · rw [coveredBy_eq, hruns, hblocks, List.length_map, List.length_range']
  · rw [← hshares, List.length_map]
    exact length_runsOf_le fun st hst => share_count_pos hcount (hshares ▸ List.mem_map_of_mem hst)

end Sys2Proof.Machine
end


section
/-! SUPPORT. The claims on PLAN_WRITE to one extent, bound and unbound (R78 to R91). -/

namespace Sys2Proof.Machine

/-! ### PLAN_WRITE served -/

theorem exec_planWrite {s : State} {f : Frame} {rest : List Frame} {start count : Nat} (hlife : s.mju.life = .active)
    (hturn : s.turn 0x21#8 f rest) (hnames : f.names s.bt.e start count) :
    exec .planWrite s = .next (servePlanWrite start count f (s.taken rest)) := by
  rw [exec_of_turn (i := .planWrite) (serve := serveRange servePlanWrite) rfl hturn (requestRow_planWrite hturn.2.1)
    (by rw [hlife]; rfl) (by rw [hnames.1]; rfl), serveRange_names (s := s.taken rest) hnames]

/-- A plan made and answered (R91). -/
def State.planMade (s : State) (f : Frame) (p : Plan) : State :=
  (makePlan s p).answerOk f.tag (.runs (coveredBy (planRuns p)) (planRuns p))

theorem servePlanWrite_none {s : State} {f : Frame} {start count : Nat} (h : planOf s start count = none) :
    servePlanWrite start count f s = s.reply f.tag .needsPlatter := by
  rw [servePlanWrite, h]

theorem servePlanWrite_some {s : State} {f : Frame} {start count : Nat} {p : Plan} (h : planOf s start count = some p) :
    servePlanWrite start count f s =
      if (grownLog s.seconds s.bt.slots p.slots s.mju.log p.touched).length ≤ s.mju.log.length
          ∨ (grownLog s.seconds s.bt.slots p.slots s.mju.log p.touched).length ≤ 240
        then s.planMade f p else s.reply f.tag .retry := by
  rw [servePlanWrite, h]
  simp only [requestRoom, Bool.or_eq_true, decide_eq_true_eq]
  rfl

theorem servePlanWrite_room {s : State} {f : Frame} {start count : Nat} {p : Plan} (h : planOf s start count = some p)
    (hlog : s.mju.log.length + p.touched.length ≤ 240) : servePlanWrite start count f s = s.planMade f p := by
  have hgrown := grownLog_length_le (now := s.seconds) (before := s.bt.slots) (after := p.slots) s.mju.log p.touched
  rw [servePlanWrite_some h, if_pos (.inr (hgrown.trans hlog))]

/-! ### The plan of one extent -/

theorem planShare_bound {s : State} {touches : Nat → Bool} {p : Plan} {sh : Share} {k : Nat} {b : Binding}
    (h : residency p.slots sh.extent = some (k, b)) :
    planShare s touches p sh = some ⟨tset p.slots k (.bound (Binding.planned s k b sh.blocks)), p.rows,
      p.targets ++ [(sh, if boundToFlash s b sh.blocks then .flash k else .platter)], p.touched ++ [k]⟩ := by
  simp only [planShare, h, Binding.planned]
  split <;> rfl

theorem planOf_single {s : State} {start count : Nat} (h : (start + count - 1) / 64 = start / 64) :
    planOf s start count = planShare s (fun x => decide (x = start / 64)) ⟨s.bt.slots, s.ct.rows, [], []⟩
      (shareOf start count (start / 64)) := by
  have htouches : (fun x => (sharesOf start count).any fun sh => sh.extent == x) = fun x => decide (x = start / 64) := by
    funext x
    rw [sharesOf_single h]
    simp [shareOf, eq_comm, beq_eq_decide]
  rw [planOf, htouches, sharesOf_single h, planShares]
  exact Option.bind_fun_some _

theorem shareOf_blocks_single {start count : Nat} (hcount : 0 < count) (h : (start + count - 1) / 64 = start / 64) :
    (shareOf start count (start / 64)).blocks
      = BitVec.ofNat 64 (2 ^ (start + count - 64 * (start / 64)) - 2 ^ (start - 64 * (start / 64))) := by
  have : min 64 (start + count - 64 * (start / 64)) = start + count - 64 * (start / 64) := by omega
  rw [Share.blocks, shareOf, this]
  rfl

theorem shareOf_blocks_ne {start count : Nat} (hcount : 0 < count) (h : (start + count - 1) / 64 = start / 64) :
    (shareOf start count (start / 64)).blocks ≠ 0#64 :=
  mem_sharesOf_blocks_ne hcount (by rw [sharesOf_single h]; exact List.mem_singleton_self _)

/-- The reply to a plan of one extent. -/
theorem planRuns_single {start count : Nat} (hcount : 0 < count) (h : (start + count - 1) / 64 = start / 64) (t : Tier)
    (slots : List (Nat × Slot)) (rows : List (Nat × Row)) (touched : List Nat) :
    planRuns ⟨slots, rows, [(shareOf start count (start / 64), t)], touched⟩ = [⟨start, count, t⟩] := by
  have hfirst : 64 * (start / 64) + (start - 64 * (start / 64)) = start := by omega
  have hlength : min 64 (start + count - 64 * (start / 64)) - (start - 64 * (start / 64)) = count - 1 + 1 := by omega
  have hcount' : count - 1 + 1 = count := by omega
  rw [planRuns, List.map_singleton, List.flatten_singleton, targetBlocks_eq]
  simp only [shareOf, Share.count]
  rw [hfirst, hlength, runsOf_constant, hcount']

/-- PLAN_WRITE of one extent whose plan needs no more room than one entry. -/
theorem exec_planWrite_single {s : State} {f : Frame} {rest : List Frame} {start count : Nat} (hlife : s.mju.life = .active)
    (hturn : s.turn 0x21#8 f rest) (hnames : f.names s.bt.e start count) (h : (start + count - 1) / 64 = start / 64)
    {slots : List (Nat × Slot)} {rows : List (Nat × Row)} {t : Tier} {touched : List Nat}
    (hplan : planShare (s.taken rest) (fun x => decide (x = start / 64)) ⟨s.bt.slots, s.ct.rows, [], []⟩
      (shareOf start count (start / 64)) = some ⟨slots, rows, [(shareOf start count (start / 64), t)], touched⟩)
    (hroom : s.mju.log.length + touched.length ≤ 240) :
    exec .planWrite s = .next ({ s with
      bt := { s.bt with slots := slots }, ct := { s.ct with rows := rows }
      mju := { s.mju with log := grownLog s.seconds s.bt.slots slots s.mju.log touched }
      lif := { s.lif with
        deltaAsking :=
          deltaWanted s.seconds s.policy { s.mju with log := grownLog s.seconds s.bt.slots slots s.mju.log touched } }
      }.answered rest f.tag (.runs count [⟨start, count, t⟩])) := by
  rw [exec_planWrite hlife hturn hnames, servePlanWrite_room ((planOf_single h).trans hplan) hroom, State.planMade,
    planRuns_single hnames.pos h]
  rfl

/-! ### PLAN_WRITE to one bound extent (R78 to R83) -/

theorem grownLog_single_same {now : Time} {before after : List (Nat × Slot)} {log : List LogEntry} {k : Nat}
    (h : persistedChanged before after k = false) : grownLog now before after log [k] = log := by
  simp [grownLog, addEntry, h]

section
variable {s : State} {f : Frame} {rest : List Frame} {start count k : Nat} {b : Binding}

/-- What the write of a bound extent changes, in the part and in the log. -/
theorem planWrite_bound (hlife : s.mju.life = .active) (hturn : s.turn 0x21#8 f rest) (hnames : f.names s.bt.e start count)
    (hsingle : (start + count - 1) / 64 = start / 64) (hres : residency s.bt.slots (start / 64) = some (k, b))
    (hb : bindingAt s.bt.slots k = some b) (hlog : s.mju.log.length < 240) {c : Binding}
    (hc : Binding.planned s k b (shareOf start count (start / 64)).blocks = c) (hext : c.extent = b.extent)
    (howners : c.owners = b.owners) (hstrikes : c.strikes = b.strikes) {t : Tier}
    (ht : (if boundToFlash s b (shareOf start count (start / 64)).blocks then Tier.flash k else Tier.platter) = t) :
    ∃ u, exec .planWrite s = .next u ∧ bindingAt u.bt.slots k = some c
      ∧ (∀ j, j ≠ k → tget u.bt.slots j = tget s.bt.slots j)
      ∧ (b.valid = c.valid → b.dirty = c.dirty → u.mju = s.mju)
      ∧ (b.valid ≠ c.valid ∨ b.dirty ≠ c.dirty → inLog u.mju.log k = true)
      ∧ u = { s with
          bt := { s.bt with slots := u.bt.slots }, mju := { s.mju with log := u.mju.log }
          lif := { s.lif with deltaAsking := u.lif.deltaAsking }
          }.answered rest f.tag (.runs count [⟨start, count, t⟩]) := by
  have hc' : bindingAt (tset s.bt.slots k (.bound c)) k = some c := by rw [bindingAt_tset_bound, if_pos rfl]
  have hplan := planShare_bound (s := s.taken rest) (touches := fun x => decide (x = start / 64))
    (p := ⟨s.bt.slots, s.ct.rows, [], []⟩) (sh := shareOf start count (start / 64)) hres
  rw [show Binding.planned (s.taken rest) k b (shareOf start count (start / 64)).blocks = c from hc,
    show (if boundToFlash (s.taken rest) b (shareOf start count (start / 64)).blocks then Tier.flash k else .platter) = t
      from ht] at hplan
  have hexec := exec_planWrite_single hlife hturn hnames hsingle hplan (by
    show s.mju.log.length + 1 ≤ 240
    omega)
  have hchanged : persistedChanged s.bt.slots (tset s.bt.slots k (.bound c)) k = false ↔
      b.valid = c.valid ∧ b.dirty = c.dirty := by
    rw [persistedChanged_bound hb hc', hext, howners, hstrikes]
    simp
  refine ⟨_, hexec, hc', fun j hj => tget_tset_ne _ _ hj, fun hvalid hdirty => ?_, fun hne => ?_, rfl⟩
  · have hlogSame := grownLog_single_same (now := s.seconds) (log := s.mju.log) (hchanged.mpr ⟨hvalid, hdirty⟩)
    show ({ s.mju with log := grownLog s.seconds s.bt.slots (tset s.bt.slots k (.bound c)) s.mju.log [k] } : Journal) = s.mju
    rw [hlogSame]
  · refine (inLog_grownLog _ _ _ _ _ _).mpr (.inr ⟨List.mem_singleton_self _, Bool.not_eq_false _ ▸ fun hsame => ?_⟩)
    obtain ⟨hvalid, hdirty⟩ := hchanged.mp hsame
    exact hne.elim (· hvalid) (· hdirty)

end

theorem diff_self_iff (v w : BlockSet) : v = v &&& ~~~w ↔ v &&& w = 0#64 := by
  constructor
  · intro h
    rw [h, BitVec.and_assoc]
    simp
  · exact fun h => (diff_eq_self h).symm

/-- The first claim of O30: a write to one bound extent. -/
theorem planWrite_one_bound (s : State) (f : Frame) (rest : List Frame) (start count x k : Nat) (b : Binding) (w : BlockSet)
    (hlife : s.mju.life = .active) (hturn : s.turn 0x21#8 f rest) (hnames : f.names s.bt.e start count) (hx : x = start / 64)
    (hsingle : (start + count - 1) / 64 = x) (hres : residency s.bt.slots x = some (k, b))
    (hb : bindingAt s.bt.slots k = some b)
    (hw : w = BitVec.ofNat 64 (2 ^ (start + count - 64 * x) - 2 ^ (start - 64 * x))) (hlog : s.mju.log.length < 240) :
    (b.dirty &&& w ≠ 0#64 ∨ b.state ≠ .held ∨ b.strikes < 2 ∨ s.psm.platter ≠ .ready →
      ∃ t, exec .planWrite s = .next t
        ∧ bindingAt t.bt.slots k = some { b with
            valid := b.valid ||| w
            dirty := b.dirty ||| w
            overtaken := b.overtaken.map (· ||| w)
            redirtied := b.redirtied.map (· ||| (w &&& capturedBlocks s.ou.issued k))
            dirtySince := if b.dirty = 0#64 then some s.seconds else b.dirtySince }
        ∧ (∀ j, j ≠ k → tget t.bt.slots j = tget s.bt.slots j)
        ∧ (b.valid ||| w = b.valid → b.dirty ||| w = b.dirty → t.mju = s.mju)
        ∧ (b.valid ||| w ≠ b.valid ∨ b.dirty ||| w ≠ b.dirty → inLog t.mju.log k = true)
        ∧ t = { s with
            bt := { s.bt with slots := t.bt.slots }, mju := { s.mju with log := t.mju.log }
            lif := { s.lif with deltaAsking := t.lif.deltaAsking }
            }.answered rest f.tag (.runs count [⟨start, count, .flash k⟩]))
    ∧ (b.dirty &&& w = 0#64 → b.state = .held → 2 ≤ b.strikes → s.psm.platter = .ready →
      ∃ t, exec .planWrite s = .next t
        ∧ bindingAt t.bt.slots k = some { b with
            valid := b.valid &&& ~~~w
            overtaken := b.overtaken.map (· &&& ~~~w)
            redirtied := b.redirtied.map (· &&& ~~~w)
            dirtySince := if b.dirty = 0#64 then none else b.dirtySince }
        ∧ (∀ j, j ≠ k → tget t.bt.slots j = tget s.bt.slots j)
        ∧ (b.valid &&& w = 0#64 → t.mju = s.mju)
        ∧ (b.valid &&& w ≠ 0#64 → inLog t.mju.log k = true)
        ∧ t = { s with
            bt := { s.bt with slots := t.bt.slots }, mju := { s.mju with log := t.mju.log }
            lif := { s.lif with deltaAsking := t.lif.deltaAsking }
            }.answered rest f.tag (.runs count [⟨start, count, .platter⟩])) := by
  subst hx
  have hblocks : (shareOf start count (start / 64)).blocks = w := (shareOf_blocks_single hnames.pos hsingle).trans hw.symm
  subst hblocks
  have hne := shareOf_blocks_ne hnames.pos hsingle
  constructor
  · intro hflash
    obtain ⟨t, hexec, hbound, hothers, hsame, hentry, hrecord⟩ := planWrite_bound hlife hturn hnames hsingle hres hb hlog
      (Binding.planned_flash hne hflash) rfl rfl rfl
      (if_pos ((boundToFlash_iff s b _).mpr hflash))
    exact ⟨t, hexec, hbound, hothers, fun hvalid hdirty => hsame hvalid.symm hdirty.symm,
      fun h => hentry (h.imp Ne.symm Ne.symm), hrecord⟩
  · intro hclean hstate hstrikes hready
    have hnot : ¬ boundToFlash s b (shareOf start count (start / 64)).blocks = true := by
      rw [boundToFlash_iff]
      push Not
      exact ⟨hclean, hstate, hstrikes, hready⟩
    obtain ⟨t, hexec, hbound, hothers, hsame, hentry, hrecord⟩ := planWrite_bound hlife hturn hnames hsingle hres hb hlog
      (Binding.planned_condemned hclean hstate hstrikes hready) rfl rfl rfl
      (if_neg hnot)
    exact ⟨t, hexec, hbound, hothers, fun h => hsame ((diff_self_iff _ _).mpr h) rfl,
      fun h => hentry (.inl fun heq => h ((diff_self_iff _ _).mp heq)), hrecord⟩

/-! ### PLAN_WRITE to one unbound extent (R84 to R89) -/

/-- A slot that becomes bound to an extent that no slot holds has changed its persisted form. -/
theorem persistedChanged_newlyBound {slots : List (Nat × Slot)} {k : Nat} {b : Binding}
    (h : residency slots b.extent = none) : persistedChanged slots (tset slots k (.bound b)) k = true := by
  simp only [persistedChanged, persisted, tget_tset, if_pos, decide_eq_true_eq]
  cases hslot : tget slots k with
  | none => simp
  | some v =>
    cases v with
    | retired => simp
    | bound c =>
      have hne : c.extent ≠ b.extent := (residency_none _ _).mp h (k, c)
        (mem_bindingsOf_of_bindingAt (by rw [bindingAt, hslot]))
      simp [hne]

section
variable {s : State} {f : Frame} {rest : List Frame} {start count k strikes : Nat}

/-- A write staged into a slot. -/
theorem planWrite_staged (hlife : s.mju.life = .active) (hturn : s.turn 0x21#8 f rest) (hnames : f.names s.bt.e start count)
    (hsingle : (start + count - 1) / 64 = start / 64) (hres : residency s.bt.slots (start / 64) = none)
    (hready : s.psm.platter ≠ .ready) (hopen : holdStage s ≠ .closed) (hdirty : dirtyCount s.bt.slots < s.policy.sLim)
    (hslot : takeSlot s.bt (fun x => decide (x = start / 64)) = some (k, strikes)) (hlog : s.mju.log.length < 240)
    {w : BlockSet} (hw : (shareOf start count (start / 64)).blocks = w) :
    ∃ u, exec .planWrite s = .next u
      ∧ u.bt.slots = tset s.bt.slots k (.bound ⟨.held, start / 64, w, w, none, none, 0#4, rowHeat s.ct.rows (start / 64), 0,
          some s.seconds, strikes, none⟩)
      ∧ u.ct.rows = emptyRowOf s.ct.rows (start / 64)
      ∧ inLog u.mju.log k = true
      ∧ u = { s with
          bt := { s.bt with slots := u.bt.slots }, ct := { s.ct with rows := u.ct.rows }
          mju := { s.mju with log := u.mju.log }, lif := { s.lif with deltaAsking := u.lif.deltaAsking }
          }.answered rest f.tag (.runs count [⟨start, count, .flash k⟩]) := by
  have hne : w ≠ 0#64 := hw ▸ shareOf_blocks_ne hnames.pos hsingle
  have hclosed : ready (s.taken rest) = false := (ready_eq_false s).mpr hready
  have hstaging : stagingOpen (s.taken rest) (dirtyCount s.bt.slots) = true :=
    (stagingOpen_iff s _).mpr ⟨hopen, hdirty⟩
  have hplan : planShare (s.taken rest) (fun x => decide (x = start / 64)) ⟨s.bt.slots, s.ct.rows, [], []⟩
      (shareOf start count (start / 64))
      = some ⟨tset s.bt.slots k (.bound ⟨.held, start / 64, w, w, none, none, 0#4, rowHeat s.ct.rows (start / 64), 0,
          some s.seconds, strikes, none⟩), emptyRowOf s.ct.rows (start / 64),
          [(shareOf start count (start / 64), .flash k)], [k]⟩ := by
    have htake : takeSlot { (s.taken rest).bt with slots := s.bt.slots } (fun x => decide (x = start / 64))
        = some (k, strikes) := hslot
    simp only [planShare, show (shareOf start count (start / 64)).extent = start / 64 from rfl, hres, hclosed, hstaging,
      htake, if_true, Bool.false_eq_true, if_false, Option.map_some, planStaged, hw, stagedBinding_eq hne]
    rfl
  refine ⟨_, exec_planWrite_single hlife hturn hnames hsingle hplan (by
    show s.mju.log.length + 1 ≤ 240
    omega), rfl, rfl, ?_, rfl⟩
  exact (inLog_grownLog _ _ _ _ _ _).mpr (.inr ⟨List.mem_singleton_self _, persistedChanged_newlyBound hres⟩)

end

/-- Settles O31: the plan of one unbound extent, by the gates and the slot to be had. -/
theorem planWriteToAnUnboundExtent : Obligations.PlanWriteToAnUnboundExtent := by
  intro s f rest start count x w hlife hturn hnames hx hsingle hres hw hlog
  subst hx
  have hblocks : (shareOf start count (start / 64)).blocks = w := (shareOf_blocks_single hnames.pos hsingle).trans hw.symm
  have htouches : (fun y => decide (y = start / 64)) = (· == start / 64) := rfl
  refine ⟨fun hready => ?_, fun hready hclosed => ?_, fun k hready hopen hdirty hfree => ?_,
    fun k v hready hopen hdirty hnone hvictim hmap => ?_⟩
  · have hplan : planShare (s.taken rest) (fun x => decide (x = start / 64)) ⟨s.bt.slots, s.ct.rows, [], []⟩
        (shareOf start count (start / 64))
        = some ⟨s.bt.slots, s.ct.rows, [(shareOf start count (start / 64), .platter)], []⟩ := by
      simp only [planShare, show (shareOf start count (start / 64)).extent = start / 64 from rfl, hres,
        show ready (s.taken rest) = true from (ready_iff s).mpr hready, if_true]
      rfl
    exact exec_planWrite_single hlife hturn hnames hsingle hplan (Nat.le_of_lt hlog)
  · have hplan : planOf (s.taken rest) start count = none := by
      rw [planOf_single hsingle, planShare_eq_none]
      refine ⟨hres, (ready_eq_false s).mpr hready, ?_⟩
      by_cases hstaging : stagingOpen s (dirtyCount s.bt.slots) = true
      · obtain ⟨hopen, hdirty⟩ := (stagingOpen_iff s _).mp hstaging
        rcases hclosed with hclosed | hfull | ⟨hfree, hvictim⟩
        · exact absurd hclosed hopen
        · exact absurd hdirty (Nat.not_lt_of_le hfull)
        · refine .inr ?_
          show takeSlot s.bt _ = none
          rw [takeSlot, hfree]
          dsimp only
          rw [htouches, hvictim]
          rfl
      · exact .inl (Bool.not_eq_true _ ▸ hstaging)
    rw [exec_planWrite hlife hturn hnames, servePlanWrite_none hplan]
    rfl
  · have hslot := (takeSlot_iff s.bt (fun x => decide (x = start / 64)) k 0).mpr (.inl ⟨hfree, rfl⟩)
    obtain ⟨u, hexec, hslots, hrows, hentry, hrecord⟩ :=
      planWrite_staged hlife hturn hnames hsingle hres hready hopen hdirty hslot hlog hblocks
    refine ⟨u, hexec, ?_, fun j hj => ?_, hrows, hentry, hrecord⟩
    · rw [hslots, bindingAt_tset_bound, if_pos rfl]
    · rw [hslots, tget_tset_ne _ _ hj]
  · obtain ⟨hok, -⟩ := (mapLaw_iff s).mp hmap
    have hslot := (takeSlot_iff s.bt (fun x => decide (x = start / 64)) k v.strikes).mpr (.inr ⟨hnone, v, hvictim, rfl⟩)
    obtain ⟨u, hexec, hslots, hrows, hentry, hrecord⟩ :=
      planWrite_staged hlife hturn hnames hsingle hres hready hopen hdirty hslot hlog hblocks
    obtain ⟨hv, -, hother, -⟩ := (victimOf_iff hok.slots_sorted _ _ _).mp hvictim
    have hne : v.extent ≠ start / 64 := by simpa using hother
    refine ⟨u, hexec, ?_, ?_, ?_, fun j hj => ?_, hrows, hentry, hrecord⟩
    · rw [hslots, bindingAt_tset_bound, if_pos rfl]
    · rw [hslots]
      refine (residency_none_iff (tsorted_tset _ _ _ hok.slots_sorted) _).mpr fun j d hd hdx => ?_
      rw [bindingAt_tset_bound] at hd
      split at hd
      · cases hd
        exact hne hdx.symm
      next hj => exact hj (hok.extent_inj hd hv hdx)
    · rw [hrows, hok.findRow_emptyRowOf, if_neg hne]
      exact hok.findRow_eq_none.mpr fun i r hr => hok.row_unbound hr hv
    · rw [hslots, tget_tset_ne _ _ hj]

end Sys2Proof.Machine
end


section
/-! SUPPORT. The claim on a plan over any range, decision by decision, and on the room it needs (R78 to R91, R155). -/

namespace Sys2Proof.Machine

/-! ### The decisions of a range -/

/-- The decisions of a range, as far as they can be made. -/
structure State.PlanRun (s : State) (start count : Nat) (seq : Nat → Plan) (n : Nat) : Prop where
  first : seq 0 = ⟨s.bt.slots, s.ct.rows, [], []⟩
  le : n ≤ (sharesOf start count).length
  steps : ∀ i sh, i < n → (sharesOf start count)[i]? = some sh →
    PlanStep s (planTouches start count) (seq i) sh (seq (i + 1))
  planned : Planned s (planTouches start count) (seq 0) (seq n) ((sharesOf start count).take n)
  ends : n = (sharesOf start count).length ∧ planOf s start count = some (seq n)
    ∨ ∃ sh, (sharesOf start count)[n]? = some sh ∧ planShare s (planTouches start count) (seq n) sh = none
      ∧ planOf s start count = none

theorem exists_planRun {s : State} {start count : Nat} (hmap : s.Mapped) (hcount : 0 < count)
    (hrange : start + count ≤ 64 * s.bt.e) : ∃ seq n, s.PlanRun start count seq n := by
  obtain ⟨seq, n, h0, hn, hsteps, hend⟩ :=
    planShares_steps s (planTouches start count) (sharesOf start count) ⟨s.bt.slots, s.ct.rows, [], []⟩
  refine ⟨seq, n, h0, hn, hsteps, planned_take ?_ hn hsteps (fun sh hsh => ⟨?_, ?_⟩) (sharesOf_distinct start count), hend⟩
  · rw [h0]
    exact hmap
  · exact extent_lt_of_mem_sharesOf hcount (by omega) hsh
  · exact List.any_eq_true.mpr ⟨sh, hsh, beq_self_eq_true _⟩

section
variable {s : State} {start count : Nat} {seq : Nat → Plan} {n : Nat} (h : s.PlanRun start count seq n)
include h

/-- The slots that the decisions have changed are among those they have touched, one for each at most. -/
theorem State.PlanRun.touched : (seq n).touched.length ≤ n
    ∧ ∀ k, k ∉ (seq n).touched → tget (seq n).slots k = tget s.bt.slots k := by
  obtain ⟨more, heq, hlen, hsame⟩ := h.planned.changes
  rw [h.first] at heq hsame
  rw [heq, List.nil_append]
  exact ⟨hlen.trans (List.length_take_le n _), hsame⟩

theorem State.PlanRun.changed {k : Nat} (hmap : s.Mapped)
    (hk : persistedChanged s.bt.slots (seq n).slots k = true) : k ∈ (seq n).touched ∧ k < s.bt.n := by
  have hne : tget (seq n).slots k ≠ tget s.bt.slots k := fun heq => by
    simp [persistedChanged, persisted, heq] at hk
  refine ⟨by_contra fun hnot => hne (h.touched.2 k hnot), ?_⟩
  by_cases hfree : tget (seq n).slots k = none
  · obtain ⟨v, hv⟩ := Option.ne_none_iff_exists'.mp fun hnone => hne (hfree.trans hnone.symm)
    exact hmap.slot_lt hv
  · obtain ⟨v, hv⟩ := Option.ne_none_iff_exists'.mp hfree
    exact h.planned.mapped.slot_lt hv

/-- The runs of the reply where every decision is made. -/
theorem State.PlanRun.runs (hcount : 0 < count) (hn : n = (sharesOf start count).length) :
    runBlocks (planRuns (seq n)) = (List.range' start count).map (fun b => (b, tierAfter (seq n).slots (b / 64) (b % 64)))
    ∧ coveredBy (planRuns (seq n)) = count ∧ (planRuns (seq n)).length ≤ (sharesOf start count).length := by
  obtain ⟨more, heq, hshares, htier⟩ := h.planned.targets
  rw [h.first, List.nil_append] at heq
  rw [hn, List.take_length, ← heq] at hshares
  exact planRuns_blocks hcount hshares (heq ▸ htier)

end

/-! ### The first extent that cannot be decided (R85, R86) -/

theorem length_sharesOf (start count : Nat) :
    (sharesOf start count).length = (start + count - 1) / 64 - start / 64 + 1 := by
  rw [sharesOf, List.length_map, List.length_range]

theorem getElem?_sharesOf {start count i : Nat} (h : i < (sharesOf start count).length) :
    (sharesOf start count)[i]? = some (shareOf start count (start / 64 + i)) := by
  rw [length_sharesOf] at h
  rw [sharesOf, List.getElem?_map, List.getElem?_range h]
  rfl

theorem Frame.names.range {f : Frame} {e start count : Nat} (h : f.names e start count) : start + count ≤ 64 * e := by
  obtain ⟨-, -, -, hrange, hcount⟩ := h
  omega

theorem Frame.names.le_256 {f : Frame} {e start count : Nat} (h : f.names e start count) : count ≤ 256 := by
  obtain ⟨-, -, -, -, hcount⟩ := h
  omega

section
variable {s : State} {start count : Nat} {seq : Nat → Plan} {n : Nat} (h : s.PlanRun start count seq n) (hcount : 0 < count)
  (hlt : n < (sharesOf start count).length)
include h hcount hlt

theorem State.PlanRun.undecided :
    (start / 64 ≤ start / 64 + n ∧ start / 64 + n ≤ (start + count - 1) / 64)
    ∧ residency (seq n).slots (start / 64 + n) = none ∧ ready s = false
    ∧ (stagingOpen s (dirtyCount (seq n).slots) = false
      ∨ takeSlot { s.bt with slots := (seq n).slots } (planTouches start count) = none) := by
  refine ⟨?_, ?_⟩
  · have := length_sharesOf start count
    omega
  · rcases h.ends with ⟨hn, -⟩ | ⟨sh, hsh, hnone, -⟩
    · exact absurd hn (Nat.ne_of_lt hlt)
    · obtain rfl := Option.some.inj ((getElem?_sharesOf hlt).symm.trans hsh)
      exact planShare_eq_none.mp hnone

/-- The extent was unbound before the plan. -/
theorem State.PlanRun.residency_undecided (hmap : s.Mapped) (hres : residency (seq n).slots (start / 64 + n) = none) :
    residency s.bt.slots (start / 64 + n) = none := by
  have htouches := (planTouches_iff hcount _).mpr (h.undecided hcount hlt).1
  have hstays := h.planned.residency_stays (h.first ▸ hmap) htouches fun sh hsh heq => by
    obtain ⟨i, hi, hget⟩ := List.mem_take_iff_getElem.mp hsh
    have hilt : i < (sharesOf start count).length := by omega
    have hi' := getElem?_sharesOf hilt
    rw [List.getElem?_eq_getElem hilt, hget] at hi'
    obtain rfl := Option.some.inj hi'
    simp only [shareOf] at heq
    omega
  rw [h.first] at hstays
  exact hstays.symm.trans hres

end

/-! ### A plan made over any range -/

/-- The tables that a whole plan leaves, extent by extent and slot by slot. -/
structure State.PlanMade (s : State) (touched : Nat → Prop) (w : Nat → BlockSet) (slots : List (Nat × Slot))
    (rows : List (Nat × Row)) : Prop where
  bound : ∀ x k b, touched x → residency s.bt.slots x = some (k, b) →
    (b.dirty &&& w x ≠ 0#64 ∨ b.state ≠ .held ∨ b.strikes < 2 ∨ s.psm.platter ≠ .ready →
      bindingAt slots k = some { b with
        valid := b.valid ||| w x
        dirty := b.dirty ||| w x
        overtaken := b.overtaken.map (· ||| w x)
        redirtied := b.redirtied.map (· ||| (w x &&& capturedBlocks s.ou.issued k))
        dirtySince := if b.dirty = 0#64 then some s.seconds else b.dirtySince })
    ∧ (b.dirty &&& w x = 0#64 → b.state = .held → 2 ≤ b.strikes → s.psm.platter = .ready →
      bindingAt slots k = some { b with
        valid := b.valid &&& ~~~(w x)
        overtaken := b.overtaken.map (· &&& ~~~(w x))
        redirtied := b.redirtied.map (· &&& ~~~(w x))
        dirtySince := if b.dirty = 0#64 then none else b.dirtySince })
  unbound : ∀ x, touched x → residency s.bt.slots x = none →
    (s.psm.platter = .ready → residency slots x = none)
    ∧ (s.psm.platter ≠ .ready → ∃ k strikes, bindingAt slots k =
        some ⟨.held, x, w x, w x, none, none, 0#4, rowHeat s.ct.rows x, 0, some s.seconds, strikes, none⟩
      ∧ (tget s.bt.slots k = none ∧ strikes = 0
        ∨ ∃ v, bindingAt s.bt.slots k = some v ∧ v.victim = true ∧ ¬touched v.extent ∧ strikes = v.strikes)
      ∧ findRow rows x = none)
  other : ∀ k b, bindingAt s.bt.slots k = some b → ¬touched b.extent →
    bindingAt slots k = some b ∨ s.psm.platter ≠ .ready ∧ b.victim = true ∧ residency slots b.extent = none
  retired : ∀ k, tget s.bt.slots k = some .retired → tget slots k = some .retired

theorem State.PlanRun.made {s : State} {start count : Nat} {seq : Nat → Plan} {n : Nat} {touched : Nat → Prop}
    {w : Nat → BlockSet} (h : s.PlanRun start count seq n) (hcount : 0 < count) (hn : n = (sharesOf start count).length)
    (htouched : ∀ x, touched x ↔ start / 64 ≤ x ∧ x ≤ (start + count - 1) / 64)
    (hw : ∀ x, w x = BlockSet.span (start - 64 * x) (min 64 (start + count - 64 * x))) :
    s.PlanMade touched w (seq n).slots (seq n).rows := by
  have hp := h.planned
  rw [h.first, hn, List.take_length, ← hn] at hp
  have hiff : ∀ x, planTouches start count x = true ↔ touched x := fun x =>
    (planTouches_iff hcount x).trans (htouched x).symm
  have hfalse : ∀ x, planTouches start count x = false ↔ ¬touched x := fun x => by rw [← hiff, Bool.not_eq_true]
  have hmem : ∀ x, touched x → shareOf start count x ∈ sharesOf start count := fun x hx => by
    obtain ⟨hlo, hhi⟩ := (htouched x).mp hx
    exact (mem_sharesOf_pos hcount).mpr ⟨x, hlo, hhi, rfl⟩
  have hblocks : ∀ x, (shareOf start count x).blocks = w x := fun x => (hw x).symm
  have hne : ∀ x, touched x → w x ≠ 0#64 := fun x hx => hblocks x ▸ mem_sharesOf_blocks_ne hcount (hmem x hx)
  constructor
  case bound =>
    intro x k b hx hres
    have hbound := hp.bound _ (hmem x hx) k b hres
    rw [hblocks] at hbound
    exact ⟨fun hflash => by rw [hbound, Binding.planned_flash (hne x hx) hflash],
      fun hclean hstate hstrikes hready => by rw [hbound, Binding.planned_condemned hclean hstate hstrikes hready]⟩
  case unbound =>
    intro x hx hres
    refine ⟨fun hready => hp.platter _ (hmem x hx) hres ((ready_iff s).mpr hready), fun hready => ?_⟩
    obtain ⟨k, strikes, hb, htaken, hrow⟩ := hp.staged _ (hmem x hx) hres ((ready_eq_false s).mpr hready)
    rw [hblocks, stagedBinding_eq (hne x hx)] at hb
    refine ⟨k, strikes, hb, htaken.imp_right ?_, hrow⟩
    rintro ⟨v, hv, hvictim, hexcl, hstrikes⟩
    exact ⟨v, hv, hvictim, (hfalse _).mp hexcl, hstrikes⟩
  case other =>
    intro k b hb hnot
    refine (hp.other k b hb fun sh hsh heq => ?_).imp_right fun ⟨hready, hvictim, _, hgone⟩ =>
      ⟨(ready_eq_false s).mp hready, hvictim, hgone⟩
    exact hnot ((hiff _).mp (heq ▸ List.any_eq_true.mpr ⟨sh, hsh, beq_self_eq_true _⟩))
  case retired => exact hp.retired

/-- What a PLAN_WRITE answers: NEEDS-PLATTER, RETRY, or the plan made whole. -/
theorem planWrite_outcomes {s : State} {f : Frame} {rest : List Frame} {start count : Nat} (hlife : s.mju.life = .active)
    (hturn : s.turn 0x21#8 f rest) (hnames : f.names s.bt.e start count) {seq : Nat → Plan} {n : Nat}
    (h : (s.taken rest).PlanRun start count seq n) :
    ∃ t, exec .planWrite s = .next t
      ∧ (n < (sharesOf start count).length → t = s.replied rest f.tag .needsPlatter)
      ∧ (n = (sharesOf start count).length →
        ((grownLog s.seconds s.bt.slots (seq n).slots s.mju.log (seq n).touched).length ≤ s.mju.log.length
            ∨ (grownLog s.seconds s.bt.slots (seq n).slots s.mju.log (seq n).touched).length ≤ 240 →
          t = (s.taken rest).planMade f (seq n))
        ∧ (¬((grownLog s.seconds s.bt.slots (seq n).slots s.mju.log (seq n).touched).length ≤ s.mju.log.length
            ∨ (grownLog s.seconds s.bt.slots (seq n).slots s.mju.log (seq n).touched).length ≤ 240) →
          t = s.replied rest f.tag .retry)) := by
  refine ⟨_, exec_planWrite hlife hturn hnames, ?_⟩
  rcases h.ends with ⟨hn, hplan⟩ | ⟨sh, hsh, -, hplan⟩
  · refine ⟨fun hlt => absurd hn (Nat.ne_of_lt hlt), fun _ => ?_⟩
    rw [servePlanWrite_some hplan]
    exact ⟨fun hroom => if_pos hroom, fun hfull => if_neg hfull⟩
  · have hlt : n < (sharesOf start count).length := (List.getElem?_eq_some_iff.mp hsh).1
    refine ⟨fun _ => ?_, fun hn => absurd hn (Nat.ne_of_lt hlt)⟩
    rw [servePlanWrite_none hplan]
    rfl

theorem planMade_record (s : State) (rest : List Frame) (f : Frame) (p : Plan) {count : Nat}
    (hcovered : coveredBy (planRuns p) = count) :
    (s.taken rest).planMade f p = { s with
      bt := { s.bt with slots := p.slots }, ct := { s.ct with rows := p.rows }
      mju := { s.mju with log := grownLog s.seconds s.bt.slots p.slots s.mju.log p.touched }
      lif := { s.lif with
        deltaAsking :=
          deltaWanted s.seconds s.policy { s.mju with log := grownLog s.seconds s.bt.slots p.slots s.mju.log p.touched } }
      }.answered rest f.tag (.runs count (planRuns p)) := by
  rw [State.planMade, hcovered]
  rfl

theorem map_range_eq_map_range' {α : Type} (g : Nat → α) (start count : Nat) :
    (List.range count).map (fun i => g (start + i)) = (List.range' start count).map g := by
  rw [List.range'_eq_map_range, List.map_map]
  rfl

/-- The second claim of O30: a plan over any range. -/
theorem planWrite_range (s : State) (f : Frame) (rest : List Frame) (start count : Nat) (touched : Nat → Prop)
    (w : Nat → BlockSet) (hlife : s.mju.life = .active) (hturn : s.turn 0x21#8 f rest)
    (hnames : f.names s.bt.e start count) (hmapLaw : mapLaw s = true)
    (htouched : ∀ x, touched x ↔ start / 64 ≤ x ∧ x ≤ (start + count - 1) / 64)
    (hw : ∀ x, w x = BlockSet.span (start - 64 * x) (min 64 (start + count - 64 * x))) :
    ∃ t, exec .planWrite s = .next t
      ∧ ((s.psm.platter ≠ .ready ∧ (∃ x, touched x ∧ residency s.bt.slots x = none)
            ∧ t = s.replied rest f.tag .needsPlatter)
        ∨ (235 < s.mju.log.length ∧ t = s.replied rest f.tag .retry)
        ∨ ∃ runs, runs.length ≤ 5
          ∧ runBlocks runs = (List.range count).map (fun i => (start + i, tierAfter t.bt.slots ((start + i) / 64) ((start + i) % 64)))
          ∧ s.PlanMade touched w t.bt.slots t.ct.rows
          ∧ (∀ k, persistedChanged s.bt.slots t.bt.slots k = true → inLog t.mju.log k = true)
          ∧ t = { s with
              bt := { s.bt with slots := t.bt.slots }, ct := { s.ct with rows := t.ct.rows }
              mju := { s.mju with log := t.mju.log }, lif := { s.lif with deltaAsking := t.lif.deltaAsking }
              }.answered rest f.tag (.runs count runs)) := by
  have hmap : s.Mapped := ((mapLaw_iff s).mp hmapLaw).1
  have hcount := hnames.pos
  obtain ⟨seq, n, h⟩ := exists_planRun (s := s.taken rest) hmap hcount hnames.range
  obtain ⟨t, hexec, hnot, hmade⟩ := planWrite_outcomes hlife hturn hnames h
  refine ⟨t, hexec, ?_⟩
  rcases Nat.lt_or_eq_of_le h.le with hlt | hn
  · obtain ⟨hx, hres, hready, -⟩ := h.undecided hcount hlt
    exact .inl ⟨(ready_eq_false s).mp hready, ⟨_, (htouched _).mpr hx, h.residency_undecided hcount hlt hmap hres⟩, hnot hlt⟩
  · obtain ⟨hroom, hfull⟩ := hmade hn
    by_cases hfits : (grownLog s.seconds s.bt.slots (seq n).slots s.mju.log (seq n).touched).length ≤ s.mju.log.length
        ∨ (grownLog s.seconds s.bt.slots (seq n).slots s.mju.log (seq n).touched).length ≤ 240
    · obtain ⟨hblocks, hcovered, hlen⟩ := h.runs hcount hn
      have ht := hroom hfits
      rw [planMade_record s rest f (seq n) hcovered] at ht
      have hslots : t.bt.slots = (seq n).slots := by rw [ht]; rfl
      have hrows : t.ct.rows = (seq n).rows := by rw [ht]; rfl
      have hlog : t.mju.log = grownLog s.seconds s.bt.slots (seq n).slots s.mju.log (seq n).touched := by rw [ht]; rfl
      refine .inr (.inr ⟨planRuns (seq n), hlen.trans (length_sharesOf_le hnames.le_256), ?_, ?_, fun k hk => ?_, ?_⟩)
      · rw [hblocks, hslots]
        exact (map_range_eq_map_range' (fun b => (b, tierAfter (seq n).slots (b / 64) (b % 64))) start count).symm
      · rw [hslots, hrows]
        have hdone := h.made hcount hn htouched hw
        exact ⟨hdone.bound, hdone.unbound, hdone.other, hdone.retired⟩
      · rw [hslots] at hk
        rw [hlog]
        exact (inLog_grownLog _ _ _ _ _ _).mpr (.inr ⟨(h.changed hmap hk).1, hk⟩)
      · rw [ht]
        rfl
    · refine .inr (.inl ⟨?_, hfull hfits⟩)
      have hgrown := grownLog_length_le (now := s.seconds) (before := s.bt.slots) (after := (seq n).slots) s.mju.log
        (seq n).touched
      have htouchedLen := h.touched.1
      have hshares := length_sharesOf_le (start := start) hnames.le_256
      omega

/-! ### A plan decision by decision, and its room -/

/-- What one decision makes of the tables. -/
theorem PlanStep.tables {s : State} {touches : Nat → Bool} {start count x : Nat} {p p1 : Plan} {w : BlockSet}
    (h : PlanStep s touches p (shareOf start count x) p1) (hw : (shareOf start count x).blocks = w) (hne : w ≠ 0#64) :
    (∀ k b, residency p.slots x = some (k, b) →
      p1.rows = p.rows ∧ (∀ j, j ≠ k → tget p1.slots j = tget p.slots j)
      ∧ (b.dirty &&& w ≠ 0#64 ∨ b.state ≠ .held ∨ b.strikes < 2 ∨ s.psm.platter ≠ .ready →
        bindingAt p1.slots k = some { b with
          valid := b.valid ||| w
          dirty := b.dirty ||| w
          overtaken := b.overtaken.map (· ||| w)
          redirtied := b.redirtied.map (· ||| (w &&& capturedBlocks s.ou.issued k))
          dirtySince := if b.dirty = 0#64 then some s.seconds else b.dirtySince })
      ∧ (b.dirty &&& w = 0#64 → b.state = .held → 2 ≤ b.strikes → s.psm.platter = .ready →
        bindingAt p1.slots k = some { b with
          valid := b.valid &&& ~~~w
          overtaken := b.overtaken.map (· &&& ~~~w)
          redirtied := b.redirtied.map (· &&& ~~~w)
          dirtySince := if b.dirty = 0#64 then none else b.dirtySince }))
    ∧ (residency p.slots x = none →
      (s.psm.platter = .ready → p1.slots = p.slots ∧ p1.rows = p.rows)
      ∧ (s.psm.platter ≠ .ready → holdStage s ≠ .closed ∧ dirtyCount p.slots < s.policy.sLim
        ∧ ∃ k strikes,
          (lowestFree { s.bt with slots := p.slots } = some k ∧ strikes = 0
            ∨ lowestFree { s.bt with slots := p.slots } = none
              ∧ ∃ v, victimOf p.slots touches = some (k, v) ∧ strikes = v.strikes)
          ∧ bindingAt p1.slots k =
              some ⟨.held, x, w, w, none, none, 0#4, rowHeat p.rows x, 0, some s.seconds, strikes, none⟩
          ∧ (∀ j, j ≠ k → tget p1.slots j = tget p.slots j)
          ∧ p1.rows = emptyRowOf p.rows x)) := by
  subst hw
  cases h with
  | @bound k' b' hres =>
    refine ⟨fun k b hb => ?_, fun hnone => by cases hres.symm.trans hnone⟩
    cases hres.symm.trans hb
    have hbound : bindingAt (tset p.slots k' (.bound (Binding.planned s k' b' (shareOf start count x).blocks))) k'
        = some (Binding.planned s k' b' (shareOf start count x).blocks) := by rw [bindingAt_tset_bound, if_pos rfl]
    exact ⟨rfl, fun j hj => tget_tset_ne _ _ hj, fun hflash => by rw [hbound, Binding.planned_flash hne hflash],
      fun hclean hstate hstrikes hready => by rw [hbound, Binding.planned_condemned hclean hstate hstrikes hready]⟩
  | platter hres hready =>
    refine ⟨fun k b hb => (by cases hres.symm.trans hb), fun _ => ⟨fun _ => ⟨rfl, rfl⟩, fun hno => ?_⟩⟩
    exact absurd ((ready_iff s).mp hready) hno
  | @staged k strikes hres hready hopen hslot =>
    refine ⟨fun k b hb => (by cases hres.symm.trans hb), fun _ => ⟨fun hyes => ?_, fun _ => ?_⟩⟩
    · exact absurd hyes ((ready_eq_false s).mp hready)
    · obtain ⟨hstage, hdirty⟩ := (stagingOpen_iff s _).mp hopen
      refine ⟨hstage, hdirty, k, strikes, (takeSlot_iff _ _ _ _).mp hslot, ?_, fun j hj => tget_tset_ne _ _ hj, rfl⟩
      rw [planStaged, bindingAt_tset_bound, if_pos rfl, stagedBinding_eq hne]
      rfl

/-- The slots whose persisted form a plan changes and that have no entry in the log yet. -/
def freshSlots (s : State) (slots : List (Nat × Slot)) (touched : List Nat) : List Nat :=
  touched.dedup.filter fun k => !inLog s.mju.log k && persistedChanged s.bt.slots slots k

theorem mem_freshSlots {s : State} {slots : List (Nat × Slot)} {touched : List Nat}
    (h : ∀ k, persistedChanged s.bt.slots slots k = true → k ∈ touched) (k : Nat) :
    k ∈ freshSlots s slots touched ↔ inLog s.mju.log k = false ∧ persistedChanged s.bt.slots slots k = true := by
  rw [freshSlots, List.mem_filter, List.mem_dedup, Bool.and_eq_true, Bool.not_eq_true']
  exact and_iff_right_of_imp fun hk => h k hk.2

theorem freshSlots_nodup (s : State) (slots : List (Nat × Slot)) (touched : List Nat) :
    (freshSlots s slots touched).Nodup := (List.nodup_dedup touched).filter _

/-- The third claim of O30: the decisions one by one, and the room for their entries. -/
theorem planWrite_decisions (s : State) (f : Frame) (rest : List Frame) (start count first extents : Nat)
    (touches : Nat → Bool) (w : Nat → BlockSet) (hlife : s.mju.life = .active) (hturn : s.turn 0x21#8 f rest)
    (hnames : f.names s.bt.e start count) (hmapLaw : mapLaw s = true) (hfirst : first = start / 64)
    (hextents : extents = (start + count - 1) / 64 + 1 - first)
    (htouches : ∀ x, touches x = decide (first ≤ x ∧ x < first + extents))
    (hw : ∀ x, w x = BlockSet.span (start - 64 * x) (min 64 (start + count - 64 * x))) :
    ∃ (t : State) (n : Nat) (slots : Nat → List (Nat × Slot)) (rows : Nat → List (Nat × Row)) (fresh : List Nat),
      exec .planWrite s = .next t ∧ n ≤ extents ∧ slots 0 = s.bt.slots ∧ rows 0 = s.ct.rows
      ∧ (∀ i x, i < n → x = first + i →
        (∀ k b, residency (slots i) x = some (k, b) →
          rows (i + 1) = rows i ∧ (∀ j, j ≠ k → tget (slots (i + 1)) j = tget (slots i) j)
          ∧ (b.dirty &&& w x ≠ 0#64 ∨ b.state ≠ .held ∨ b.strikes < 2 ∨ s.psm.platter ≠ .ready →
            bindingAt (slots (i + 1)) k = some { b with
              valid := b.valid ||| w x
              dirty := b.dirty ||| w x
              overtaken := b.overtaken.map (· ||| w x)
              redirtied := b.redirtied.map (· ||| (w x &&& capturedBlocks s.ou.issued k))
              dirtySince := if b.dirty = 0#64 then some s.seconds else b.dirtySince })
          ∧ (b.dirty &&& w x = 0#64 → b.state = .held → 2 ≤ b.strikes → s.psm.platter = .ready →
            bindingAt (slots (i + 1)) k = some { b with
              valid := b.valid &&& ~~~(w x)
              overtaken := b.overtaken.map (· &&& ~~~(w x))
              redirtied := b.redirtied.map (· &&& ~~~(w x))
              dirtySince := if b.dirty = 0#64 then none else b.dirtySince }))
        ∧ (residency (slots i) x = none →
          (s.psm.platter = .ready → slots (i + 1) = slots i ∧ rows (i + 1) = rows i)
          ∧ (s.psm.platter ≠ .ready → holdStage s ≠ .closed ∧ dirtyCount (slots i) < s.policy.sLim
            ∧ ∃ k strikes,
              (lowestFree { s.bt with slots := slots i } = some k ∧ strikes = 0
                ∨ lowestFree { s.bt with slots := slots i } = none
                  ∧ ∃ v, victimOf (slots i) touches = some (k, v) ∧ strikes = v.strikes)
              ∧ bindingAt (slots (i + 1)) k =
                  some ⟨.held, x, w x, w x, none, none, 0#4, rowHeat (rows i) x, 0, some s.seconds, strikes, none⟩
              ∧ (∀ j, j ≠ k → tget (slots (i + 1)) j = tget (slots i) j)
              ∧ rows (i + 1) = emptyRowOf (rows i) x)))
      ∧ (n < extents → residency (slots n) (first + n) = none ∧ s.psm.platter ≠ .ready
        ∧ (holdStage s = .closed ∨ s.policy.sLim ≤ dirtyCount (slots n)
          ∨ lowestFree { s.bt with slots := slots n } = none ∧ victimOf (slots n) touches = none)
        ∧ t = s.replied rest f.tag .needsPlatter)
      ∧ fresh.Nodup
      ∧ (∀ k, k ∈ fresh ↔ inLog s.mju.log k = false
        ∧ { persisted s.bt.slots k with heat := 0 } ≠ { persisted (slots n) k with heat := 0 })
      ∧ (n = extents → fresh ≠ [] → 240 < s.mju.log.length + fresh.length → t = s.replied rest f.tag .retry)
      ∧ (n = extents → fresh = [] ∨ s.mju.log.length + fresh.length ≤ 240 →
        t.bt.slots = slots n ∧ t.ct.rows = rows n
        ∧ (∃ runs, t.lif.reply = some ⟨f.tag, .ok (.runs count runs)⟩)
        ∧ ∀ k, inLog t.mju.log k = true ↔ inLog s.mju.log k = true ∨ k ∈ fresh) := by
  have hmap : s.Mapped := ((mapLaw_iff s).mp hmapLaw).1
  have hcount := hnames.pos
  subst hfirst
  have hlen : extents = (sharesOf start count).length := by rw [length_sharesOf, hextents]; omega
  obtain rfl : touches = planTouches start count := funext fun x => by
    rw [htouches, Bool.eq_iff_iff, decide_eq_true_eq, planTouches_iff hcount]
    omega
  obtain ⟨seq, n, h⟩ := exists_planRun (s := s.taken rest) hmap hcount hnames.range
  obtain ⟨t, hexec, hnot, hmade⟩ := planWrite_outcomes hlife hturn hnames h
  have hchanged : ∀ k, persistedChanged s.bt.slots (seq n).slots k = true → k ∈ (seq n).touched := fun k hk =>
    (h.changed hmap hk).1
  have hfresh := mem_freshSlots hchanged
  have hgrown := grownLog_length (now := s.seconds) hchanged (freshSlots_nodup s _ _) hfresh
  refine ⟨t, n, fun i => (seq i).slots, fun i => (seq i).rows, freshSlots s (seq n).slots (seq n).touched, hexec,
    hlen ▸ h.le, congrArg Plan.slots h.first, congrArg Plan.rows h.first, fun i x hi hx => ?_, fun hlt => ?_, freshSlots_nodup s _ _, fun k => ?_,
    fun hn hne hfull => ?_, fun hn hroom => ?_⟩
  · subst hx
    have hilt : i < (sharesOf start count).length := lt_of_lt_of_le hi h.le
    have hget := getElem?_sharesOf hilt
    have hmem := List.mem_of_getElem? hget
    exact (h.steps i _ hi hget).tables (hw _).symm (hw _ ▸ mem_sharesOf_blocks_ne hcount hmem)
  · rw [hlen] at hlt
    obtain ⟨-, hres, hready, hgate⟩ := h.undecided hcount hlt
    refine ⟨hres, (ready_eq_false s).mp hready, ?_, hnot hlt⟩
    rcases hgate with hclosed | hslot
    · by_cases hstage : holdStage s = .closed
      · exact .inl hstage
      · refine .inr (.inl (Nat.le_of_not_lt fun hdirty => ?_))
        exact absurd ((stagingOpen_iff s _).mpr ⟨hstage, hdirty⟩) (by rw [show stagingOpen s _ = false from hclosed]; simp)
    · exact .inr (.inr (takeSlot_none hslot))
  · rw [hfresh k, persistedChanged, decide_eq_true_eq]
  · refine (hmade (hn.trans hlen)).2 ?_
    rw [hgrown]
    have := List.length_pos_iff.mpr hne
    omega
  · have ht := (hmade (hn.trans hlen)).1 (by
      rw [hgrown]
      rcases hroom with hnil | hroom
      · exact .inl (by rw [hnil]; rfl)
      · exact .inr hroom)
    have hcovered := (h.runs hcount (hn.trans hlen)).2.1
    rw [planMade_record s rest f (seq n) hcovered] at ht
    refine ⟨by rw [ht]; rfl, by rw [ht]; rfl, ⟨planRuns (seq n), by rw [ht]; rfl⟩, fun k => ?_⟩
    rw [ht]
    refine (inLog_grownLog _ _ _ _ _ _).trans ?_
    rw [hfresh k]
    constructor
    · rintro (hin | ⟨-, hk⟩)
      · exact .inl hin
      · cases hin : inLog s.mju.log k
        · exact .inr ⟨rfl, hk⟩
        · exact .inl rfl
    · exact Or.imp_right fun hk => ⟨hchanged k hk.2, hk.2⟩

/-! ### The room rule -/

theorem planShares_withLog (s : State) (log : List LogEntry) (touches : Nat → Bool) (shs : List Share) (p : Plan) :
    planShares (s.withLog log) touches p shs = planShares s touches p shs := by
  induction shs generalizing p with
  | nil => rfl
  | cons sh shs ih =>
    rw [planShares, planShares, show planShare (s.withLog log) touches p sh = planShare s touches p sh from rfl]
    exact congrArg _ (funext ih)

/-- The room of a request over a block range, served where the range is in the drive. -/
theorem serveRange_outOfRange {serve : Nat → Nat → Frame → State → State} {f : Frame} {s : State}
    (h : outOfRange s.bt.e (rangeStart f) (rangeCount f) = true) (body : OkBody) :
    (serveRange serve f s).lif.reply ≠ some ⟨f.tag, .ok body⟩ := by
  rw [serveRange, if_pos h]
  intro hreply
  cases hreply

theorem roomRule_planWrite {s : State} {f : Frame} {rest : List Frame} (hlife : s.mju.life = .active)
    (hturn : s.turn 0x21#8 f rest) (hmapLaw : mapLaw s = true) : s.roomRule 240 .planWrite f rest := by
  have hmap : s.Mapped := ((mapLaw_iff s).mp hmapLaw).1
  refine roomRule_of_serve (serve := serveRange servePlanWrite) (fun _ => rfl) hturn (requestRow_planWrite hturn.2.1)
    (by rw [hlife]; rfl) ?_
  cases hout : outOfRange s.bt.e (rangeStart f) (rangeCount f) with
  | true => exact .inl fun log => serveRange_outOfRange hout
  | false =>
    obtain ⟨hpos, hle⟩ := (outOfRange_eq_false _ _ _).mp hout
    have hserve : ∀ log, serveRange servePlanWrite f ((s.taken rest).withLog log)
        = servePlanWrite (rangeStart f) (clampedCount (rangeCount f)) f ((s.taken rest).withLog log) := fun log => by
      rw [serveRange, show outOfRange ((s.taken rest).withLog log).bt.e (rangeStart f) (rangeCount f) = false from hout]
      rfl
    have hplan : ∀ log, planOf ((s.taken rest).withLog log) (rangeStart f) (clampedCount (rangeCount f))
        = planOf (s.taken rest) (rangeStart f) (clampedCount (rangeCount f)) := fun log => planShares_withLog _ _ _ _ _
    have hclamped : 0 < clampedCount (rangeCount f) ∧ clampedCount (rangeCount f) ≤ rangeCount f := by
      unfold clampedCount
      omega
    obtain ⟨seq, n, h⟩ := exists_planRun (s := s.taken rest) hmap hclamped.1 (start := rangeStart f) (by
      show rangeStart f + _ ≤ 64 * s.bt.e
      omega)
    rcases h.ends with ⟨-, hsome⟩ | ⟨-, -, -, hnone⟩
    · refine .inr ⟨{ s.bt with slots := (seq n).slots },
        some ⟨f.tag, .ok (.runs (coveredBy (planRuns (seq n))) (planRuns (seq n)))⟩, (seq n).touched,
        fun log => ((s.taken rest).withLog log).planMade f (seq n), fun k hk => h.changed hmap hk, fun log => ⟨rfl, rfl, ?_⟩⟩
      rw [hserve, servePlanWrite_some ((hplan log).trans hsome)]
      rfl
    · refine .inl fun log body hreply => ?_
      rw [hserve, servePlanWrite_none ((hplan log).trans hnone)] at hreply
      cases hreply

/-- Settles O30: one bound extent, any range whole, any range decision by decision, and the room. -/
theorem planWriteToABoundExtent : Obligations.PlanWriteToABoundExtent := by
  refine ⟨planWrite_one_bound, fun s f rest start count touched w hlife hturn hnames hmap htouched hw => ?_,
    planWrite_decisions, fun s f rest hlife hturn hmap => roomRule_planWrite hlife hturn hmap⟩
  obtain ⟨t, hexec, houtcome⟩ := planWrite_range s f rest start count touched w hlife hturn hnames hmap htouched hw
  refine ⟨t, hexec, houtcome.imp_right (Or.imp_right ?_)⟩
  rintro ⟨runs, hlen, hblocks, hmade, hentries, hrecord⟩
  exact ⟨runs, hlen, hblocks, hmade.bound, hmade.unbound, hmade.other, hmade.retired,
    fun k hk => hentries k (decide_eq_true hk), hrecord⟩

end Sys2Proof.Machine
end


section
/-! SUPPORT. The claim that no dirty block is served from the platter (R74, R79, R83). -/

namespace Sys2Proof.Machine

/-- A request over a block range that is answered OK names a range of the drive. -/
theorem Frame.names_of_ok {c : Instr} {row : RequestRow} {serve : Nat → Nat → Frame → State → State} {s t : State} {kind : Byte}
    {f : Frame} {rest : List Frame} {body : OkBody} (hexec : exec c s = .next (takeRequest row (serveRange serve) s))
    (hturn : s.turn kind f rest) (hrow : requestRow f = row) (hphase : phaseRefusal row s.mju.life = none)
    (hlength : lengthOk row f.body.length = true → f.body.length = 6) (hstep : exec c s = .next t)
    (hreply : t.lif.reply = some ⟨f.tag, .ok body⟩) :
    f.names s.bt.e (rangeStart f) (clampedCount (rangeCount f)) := by
  cases hlen : lengthOk row f.body.length with
  | false =>
    rw [hexec, takeRequest_badLength_of_turn (serveRange serve) hturn hrow hphase hlen] at hstep
    obtain rfl := Host.Outcome.next.inj hstep
    cases hreply
  | true =>
    rw [exec_of_turn hexec hturn hrow hphase hlen] at hstep
    obtain rfl := Host.Outcome.next.inj hstep
    cases hout : outOfRange s.bt.e (rangeStart f) (rangeCount f) with
    | true => exact absurd hreply (serveRange_outOfRange (s := s.taken rest) hout body)
    | false =>
      obtain ⟨hpos, hle⟩ := (outOfRange_eq_false _ _ _).mp hout
      exact ⟨hlength hlen, rfl, hpos, hle.trans_eq (Nat.mul_comm ..), rfl⟩

theorem mem_runBlocks {runs : List Run} {r : Run} (hr : r ∈ runs) {i : Nat} (hi : i < r.count) :
    (r.first + i, r.tier) ∈ runBlocks runs :=
  List.mem_flatten.mpr ⟨r.blocks, List.mem_map_of_mem hr, Run.mem_blocks.mpr ⟨⟨i, hi, rfl⟩, rfl⟩⟩

section
variable {s t : State} {f : Frame} {rest : List Frame} {covered : Nat} {runs : List Run} {r : Run} {i k : Nat} {b : Binding}
  (hlife : s.mju.life = .active) (hr : r ∈ runs) (hi : i < r.count)
  (hres : residency s.bt.slots ((r.first + i) / 64) = some (k, b)) (hdirty : b.dirty.getLsbD ((r.first + i) % 64) = true)
include hlife hr hi hres hdirty

/-- LOOKUP: a dirty block is valid. -/
theorem lookup_serves_dirty (hbinding : bindingLaw s = true) (hturn : s.turn 0x20#8 f rest)
    (hexec : exec .lookup s = .next t) (hreply : t.lif.reply = some ⟨f.tag, .ok (.runs covered runs)⟩) :
    r.tier = .flash k := by
  have hnames := Frame.names_of_ok (serve := serveLookup) rfl hturn (requestRow_lookup hturn.2.1) (by rw [hlife]; rfl)
    (fun h => of_decide_eq_true h) hexec hreply
  obtain ⟨runs', covered', hexec', -, -, -, -, hblocks, -⟩ := lookupAnswersTiers s f rest _ _ hlife hturn hnames
  obtain rfl := Host.Outcome.next.inj (hexec'.symm.trans hexec)
  cases hreply
  have hmem := mem_runBlocks hr hi
  rw [show runBlocks runs = _ from hblocks] at hmem
  obtain ⟨j, -, hj⟩ := List.mem_map.mp hmem
  obtain ⟨hfirst, htier⟩ := Prod.mk.inj hj
  rw [hfirst, hres] at htier
  have hlaw := ((bindingLaw_iff s).mp hbinding).binding (k, b) (residency_some _ _ _ _ hres).1
  rw [← htier]
  exact if_pos (hlaw.dirty_valid _ hdirty)

/-- PLAN-WRITE: a dirty block of a touched extent stays dirty in its slot. -/
theorem planWrite_serves_dirty (hmapLaw : mapLaw s = true) (hturn : s.turn 0x21#8 f rest)
    (hexec : exec .planWrite s = .next t) (hreply : t.lif.reply = some ⟨f.tag, .ok (.runs covered runs)⟩) :
    r.tier = .flash k := by
  have hmap : s.Mapped := ((mapLaw_iff s).mp hmapLaw).1
  have hnames := Frame.names_of_ok (serve := servePlanWrite) rfl hturn (requestRow_planWrite hturn.2.1) (by rw [hlife]; rfl)
    (fun h => of_decide_eq_true h) hexec hreply
  have hcount := hnames.pos
  generalize rangeStart f = start at hnames hcount
  generalize clampedCount (rangeCount f) = count at hnames hcount
  have htouched := fun x => (planTouches_iff (start := start) hcount x)
  obtain ⟨t', hexec', houtcome⟩ := planWrite_range s f rest start count (fun x => planTouches start count x = true)
    (fun x => BlockSet.span (start - 64 * x) (min 64 (start + count - 64 * x))) hlife hturn hnames hmapLaw htouched fun _ => rfl
  obtain rfl := Host.Outcome.next.inj (hexec'.symm.trans hexec)
  rcases houtcome with ⟨-, -, heq⟩ | ⟨-, heq⟩ | ⟨runs', -, hblocks, hmade, -, hrecord⟩
  · rw [heq] at hreply
    cases hreply
  · rw [heq] at hreply
    cases hreply
  · rw [hrecord] at hreply
    cases hreply
    have hmem := mem_runBlocks hr hi
    rw [hblocks] at hmem
    obtain ⟨j, hj, heq⟩ := List.mem_map.mp hmem
    obtain ⟨hblock, htier⟩ := Prod.mk.inj heq
    have hjlt := List.mem_range.mp hj
    generalize r.first + i = block at *
    have hkept : State.Mapped t' := ((mapLaw_iff t').mp (exec_mapLaw s t' .planWrite hmapLaw hexec)).1
    obtain ⟨hb, hext⟩ := hmap.residency_eq_some.mp hres
    have htouch : planTouches start covered (block / 64) = true := (htouched _).mpr (by omega)
    have hbit : (BlockSet.span (start - 64 * (block / 64)) (min 64 (start + covered - 64 * (block / 64)))).getLsbD
        (block % 64) = true := by
      refine (BlockSet.getLsbD_span (by omega) (Nat.mod_lt _ (by decide))).mpr ?_
      omega
    obtain ⟨hflash, -⟩ := hmade.bound _ k b htouch hres
    have hbound := hflash (.inl fun hclean => by
      have := congrArg (BitVec.getLsbD · (block % 64)) hclean
      simp [hdirty, hbit] at this)
    rw [tierAfter, hblock, hkept.residency_eq_some.mpr ⟨hbound, hext⟩] at htier
    rw [← htier]
    refine if_pos ?_
    simp [hdirty]

end

/-- Settles O33: by LOOKUP and by PLAN_WRITE. -/
theorem noDirtyBlockServedFromThePlatter : Obligations.NoDirtyBlockServedFromThePlatter := by
  intro s t f rest c covered runs hlife hbinding hmap hc hexec hreply r hr i hi k b hres hdirty
  rcases hc with ⟨rfl, hturn⟩ | ⟨rfl, hturn⟩
  · exact lookup_serves_dirty hlife hr hi hres hdirty hbinding hturn hexec hreply
  · exact planWrite_serves_dirty hlife hr hi hres hdirty hmap hturn hexec hreply

end Sys2Proof.Machine
end


section
/-! SUPPORT. The claim on UNPIN and UNPIN_ALL: the owner leaves the bindings one slot after another (R146, R147). -/

namespace Sys2Proof.Machine

/-! ### One slot -/

/-- The binding without the owner. -/
def Binding.disowned (owner : Nat) (b : Binding) : Binding := { b with owners := b.owners &&& ~~~(ownerBit owner) }

/-- The owner's leaving empties the slot (R146, R15): unpinned, HELD and nothing valid. -/
def Binding.emptied (owner : Nat) (b : Binding) : Bool :=
  !(b.disowned owner).pinned && decide (b.state = .held) && decide (b.valid = 0#64)

/-- What the slot of the binding holds once the owner has left it. -/
def Binding.unpinned (owner : Nat) (b : Binding) : Option Slot :=
  if b.emptied owner then
    if b.condemned then if b.isDirty then some (.bound (b.disowned owner)) else some .retired else none
  else some (.bound (b.disowned owner))

/-- The owner's leaving releases the slot. -/
def Binding.unpinReleases (owner : Nat) (b : Binding) : Bool := b.emptied owner && !b.condemned

theorem unpinSlot_eq {owner k : Nat} {u : Unpinning} {b : Binding} (hb : bindingAt u.state.bt.slots k = some b) :
    unpinSlot owner u k =
      if b.emptied owner then
        if b.condemned then
          if b.isDirty then { u with state := u.state.setBinding k (b.disowned owner) }
          else { u with state := u.state.retire k (b.disowned owner) }
        else ⟨u.state.release k, true⟩
      else { u with state := u.state.setBinding k (b.disowned owner) } := by
  rw [unpinSlot, hb]
  rfl

theorem unpinSlot_bound {owner k : Nat} {u : Unpinning} {b : Binding} (hb : bindingAt u.state.bt.slots k = some b) :
    (∀ j, tget (unpinSlot owner u k).state.bt.slots j
      = if j = k then b.unpinned owner else tget u.state.bt.slots j)
    ∧ (unpinSlot owner u k).released = (u.released || b.unpinReleases owner)
    ∧ (b.strikes < 2 → (unpinSlot owner u k).state.pu = u.state.pu) := by
  rw [unpinSlot_eq hb, Binding.unpinned, Binding.unpinReleases]
  cases b.emptied owner
  · exact ⟨fun j => tget_tset _ _ _ _, (Bool.or_false _).symm, fun _ => rfl⟩
  · cases hc : b.condemned
    · exact ⟨fun j => tget_terase _ _ _, (Bool.or_true _).symm, fun _ => rfl⟩
    · have hno : ¬ b.strikes < 2 := Nat.not_lt_of_le ((Binding.condemned_eq_true b).mp hc)
      cases b.isDirty
      · exact ⟨fun j => tget_tset _ _ _ _, (Bool.or_false _).symm, fun h => absurd h hno⟩
      · exact ⟨fun j => tget_tset _ _ _ _, (Bool.or_false _).symm, fun h => absurd h hno⟩

/-! ### The slots one after another -/

/-- What the owner's leaving of the slots `ks` makes of the state. -/
structure Unpinned (owner : Nat) (s : State) (u : Unpinning) (ks : List Nat) : Prop where
  left : ∀ k b, k ∈ ks → bindingAt s.bt.slots k = some b → tget u.state.bt.slots k = b.unpinned owner
  others : ∀ k, k ∉ ks → tget u.state.bt.slots k = tget s.bt.slots k
  pu : (∀ k b, k ∈ ks → bindingAt s.bt.slots k = some b → b.strikes < 2) → u.state.pu = s.pu
  only : s.OnlySlots u.state

theorem unpinSlots_unpinned (owner : Nat) (ks : List Nat) : ∀ u : Unpinning, ks.Nodup →
    (∀ k ∈ ks, bindingAt u.state.bt.slots k ≠ none) →
    Unpinned owner u.state (ks.foldl (unpinSlot owner) u) ks
    ∧ ((ks.foldl (unpinSlot owner) u).released = true ↔
      u.released = true ∨ ∃ k b, k ∈ ks ∧ bindingAt u.state.bt.slots k = some b ∧ b.unpinReleases owner = true) := by
  induction ks with
  | nil =>
    intro u _ _
    refine ⟨⟨fun _ _ hk => absurd hk List.not_mem_nil, fun _ _ => rfl, fun _ => rfl, .refl _⟩, ?_⟩
    simp
  | cons k ks ih =>
    intro u hnodup hbound
    obtain ⟨hk, hks⟩ := List.nodup_cons.mp hnodup
    obtain ⟨b, hb⟩ := Option.ne_none_iff_exists'.mp (hbound k (List.mem_cons_self ..))
    obtain ⟨hslots, hreleased, hpu⟩ := unpinSlot_bound (owner := owner) hb
    have hne : ∀ j ∈ ks, j ≠ k := fun j hj heq => hk (heq ▸ hj)
    have hkept : ∀ j, j ≠ k → bindingAt (unpinSlot owner u k).state.bt.slots j = bindingAt u.state.bt.slots j :=
      fun j hj => by rw [bindingAt, hslots, if_neg hj]; rfl
    obtain ⟨hlater, hflag⟩ := ih (unpinSlot owner u k) hks fun j hj => by
      rw [hkept j (hne j hj)]
      exact hbound j (List.mem_cons_of_mem k hj)
    rw [List.foldl_cons]
    refine ⟨⟨fun j c hj hc => ?_, fun j hj => ?_, fun hall => ?_, (unpinSlot_onlySlots owner u k).trans hlater.only⟩, ?_⟩
    · rcases List.mem_cons.mp hj with rfl | hj
      · obtain rfl := Option.some.inj (hb.symm.trans hc)
        rw [hlater.others j hk, hslots, if_pos rfl]
      · exact hlater.left j c hj ((hkept j (hne j hj)).trans hc)
    · have hjk : j ≠ k := fun heq => hj (heq ▸ List.mem_cons_self ..)
      have hjks : j ∉ ks := fun hin => hj (List.mem_cons_of_mem k hin)
      rw [hlater.others j hjks, hslots, if_neg hjk]
    · rw [hlater.pu fun j c hj hc => hall j c (List.mem_cons_of_mem k hj) ((hkept j (hne j hj)).symm.trans hc),
        hpu (hall k b (List.mem_cons_self ..) hb)]
    · rw [hflag, hreleased, Bool.or_eq_true, or_assoc]
      refine or_congr_right ⟨?_, ?_⟩
      · rintro (hrel | ⟨j, c, hj, hc, hrel⟩)
        · exact ⟨k, b, List.mem_cons_self .., hb, hrel⟩
        · exact ⟨j, c, List.mem_cons_of_mem k hj, (hkept j (hne j hj)).symm.trans hc, hrel⟩
      · rintro ⟨j, c, hj, hc, hrel⟩
        rcases List.mem_cons.mp hj with rfl | hj
        · obtain rfl := Option.some.inj (hb.symm.trans hc)
          exact .inl hrel
        · exact .inr ⟨j, c, hj, (hkept j (hne j hj)).trans hc, hrel⟩

/-! ### The slots that an owner pins -/

theorem mem_pinnedInRange {s : State} (hmap : s.Mapped) {owner first count k : Nat} :
    k ∈ pinnedInRange s.bt.slots owner first count ↔ ∃ b, bindingAt s.bt.slots k = some b
      ∧ (first ≤ b.extent ∧ b.extent < first + count ∧ b.owners.getLsbD owner = true) := by
  rw [pinnedInRange, List.mem_filterMap]
  constructor
  · rintro ⟨x, hx, hslot⟩
    obtain ⟨hlo, hhi⟩ := mem_extentRange.mp hx
    unfold pinnedSlot at hslot
    split at hslot
    next j b hres =>
      obtain ⟨hb, rfl⟩ := hmap.residency_eq_some.mp hres
      split at hslot
      next howner =>
        cases hslot
        exact ⟨b, hb, hlo, hhi, howner⟩
      next => cases hslot
    next => cases hslot
  · rintro ⟨b, hb, hlo, hhi, howner⟩
    refine ⟨b.extent, mem_extentRange.mpr ⟨hlo, hhi⟩, ?_⟩
    rw [pinnedSlot, hmap.residency_eq_some.mpr ⟨hb, rfl⟩]
    exact if_pos howner

theorem pinnedBy_eq (slots : List (Nat × Slot)) (owner : Nat) :
    pinnedBy slots owner = ((bindingsOf slots).filter fun kb => hasOwner kb.2.owners owner).map Prod.fst := by
  unfold pinnedBy
  induction bindingsOf slots with
  | nil => rfl
  | cons kb rest ih =>
    rw [List.filterMap_cons, List.filter_cons, ih]
    cases hasOwner kb.2.owners owner <;> rfl

theorem mem_pinnedBy {s : State} (hmap : s.Mapped) {owner k : Nat} :
    k ∈ pinnedBy s.bt.slots owner ↔ ∃ b, bindingAt s.bt.slots k = some b ∧ b.owners.getLsbD owner = true := by
  rw [pinnedBy_eq, List.mem_map]
  constructor
  · rintro ⟨⟨j, b⟩, hmem, rfl⟩
    obtain ⟨hin, howner⟩ := List.mem_filter.mp hmem
    exact ⟨b, (mem_bindingsOf_iff _ hmap.slots_sorted _ _).mp hin, howner⟩
  · rintro ⟨b, hb, howner⟩
    exact ⟨(k, b), List.mem_filter.mpr ⟨mem_bindingsOf_of_bindingAt hb, howner⟩, rfl⟩

theorem pinnedInRange_nodup {s : State} (hmap : s.Mapped) (owner first count : Nat) :
    (pinnedInRange s.bt.slots owner first count).Nodup := by
  have hrange : (extentRange first count).Nodup :=
    List.nodup_range.map fun _ _ h => Nat.add_left_cancel h
  refine List.Nodup.filterMap (fun x y k hx hy => ?_) hrange
  have hextent : ∀ {x}, k ∈ pinnedSlot s.bt.slots owner x → ∃ b, bindingAt s.bt.slots k = some b ∧ b.extent = x := by
    intro x hx
    unfold pinnedSlot at hx
    split at hx
    next j b hres =>
      split at hx
      next =>
        cases hx
        exact ⟨b, hmap.residency_eq_some.mp hres⟩
      next => cases hx
    next => cases hx
  obtain ⟨b, hb, rfl⟩ := hextent hx
  obtain ⟨c, hc, rfl⟩ := hextent hy
  rw [Option.some.inj (hb.symm.trans hc)]

theorem pinnedBy_nodup {s : State} (hmap : s.Mapped) (owner : Nat) : (pinnedBy s.bt.slots owner).Nodup := by
  rw [pinnedBy_eq]
  exact List.pairwise_map.mpr (((bindingsOf_pairwise hmap.slots_sorted).filter _).imp fun hlt => Nat.ne_of_lt hlt)

theorem length_pinnedInRange_le (slots : List (Nat × Slot)) (owner first count : Nat) :
    (pinnedInRange slots owner first count).length ≤ count :=
  (List.length_filterMap_le _ _).trans (by rw [extentRange, List.length_map, List.length_range])

theorem length_pinnedBy_le (slots : List (Nat × Slot)) (owner : Nat) :
    (pinnedBy slots owner).length ≤ pinnedCount slots := by
  rw [pinnedBy_eq, List.length_map, pinnedCount, countBindings, ← List.countP_eq_length_filter]
  refine List.countP_mono_left fun kb _ howner => (Binding.pinned_eq_true _).mpr fun hzero => ?_
  have hbit : kb.2.owners.getLsbD owner = true := howner
  rw [hzero] at hbit
  simp at hbit

/-! ### UNPIN served -/

/-- An UNPIN of the slots `ks` made and answered. -/
def State.unpinMade (s : State) (f : Frame) (ks : List Nat) (u : Unpinning) : State :=
  ((u.state.startPickerIf u.released).logChange s.bt.slots ks).answerOk f.tag (.released ks.length)

theorem makeUnpin_eq (ks : List Nat) (f : Frame) (s : State) {u : Unpinning}
    (hu : ks.foldl (unpinSlot (pinOwner f)) ⟨s, false⟩ = u) :
    makeUnpin ks f s =
      if (grownLog s.seconds s.bt.slots u.state.bt.slots s.mju.log ks).length ≤ s.mju.log.length
          ∨ (grownLog s.seconds s.bt.slots u.state.bt.slots s.mju.log ks).length ≤ 240
        then s.unpinMade f ks u else s.reply f.tag .retry := by
  rw [makeUnpin, hu]
  simp only [requestRoom, Bool.or_eq_true, decide_eq_true_eq]
  rfl

theorem unpinRow_of_pos {body : List Byte} (h : 1 ≤ fieldAt body 5 1) : unpinRow body = .unpin :=
  if_neg fun hzero => absurd hzero.2 (by omega)

theorem unpinRow_of_zero {body : List Byte} (hlen : body.length = 6) (h : fieldAt body 5 1 = 0) :
    unpinRow body = .unpinAll := if_pos ⟨hlen, h⟩

section
variable {s : State} {f : Frame} {rest : List Frame} {owner : Nat} (hlife : s.mju.life = .active)
  (hturn : s.turn 0x31#8 f rest) (hlen : f.body.length = 6) (howner : owner ≤ 3) (hfield : fieldAt f.body 0 1 = owner)
  (hcount : fieldAt f.body 5 1 ≤ 64) (halert : s.pu.alert owner = none)
include hlife hturn hlen howner hfield hcount halert

theorem exec_unpin (hpos : 1 ≤ fieldAt f.body 5 1) (hrange : fieldAt f.body 1 4 + fieldAt f.body 5 1 ≤ s.bt.e) :
    exec .unpin s = .next (makeUnpin
      (pinnedInRange s.bt.slots owner (fieldAt f.body 1 4) (fieldAt f.body 5 1)) f (s.taken rest)) := by
  subst hfield
  rw [exec_of_turn (i := .unpin) (serve := checkOwner serveUnpin) rfl hturn
    ((requestRow_unpin hturn.2.1).trans (unpinRow_of_pos hpos)) (by rw [hlife]; rfl) (by rw [hlen]; rfl),
    checkOwner_clear (s := s.taken rest) howner hcount halert]
  exact congrArg _ (if_neg (Nat.not_lt_of_le hrange))

theorem exec_unpinAll (hzero : fieldAt f.body 5 1 = 0) :
    exec .unpinAll s = .next (makeUnpin (pinnedBy s.bt.slots owner) f (s.taken rest)) := by
  subst hfield
  rw [exec_of_turn (i := .unpinAll) (serve := checkOwner serveUnpinAll) rfl hturn
    ((requestRow_unpin hturn.2.1).trans (unpinRow_of_zero hlen hzero)) (by rw [hlife]; rfl) (by rw [hlen]; rfl),
    checkOwner_clear (s := s.taken rest) howner hcount halert]
  rfl

end

/-- The owner set without the owner is empty exactly where the owner was the only one. -/
theorem disowned_eq_zero_iff {owners : OwnerSet} {owner : Nat} (howner : owner ≤ 3) (h : owners.getLsbD owner = true) :
    owners &&& ~~~(ownerBit owner) = 0#4 ↔ owners = ownerBit owner := by
  revert h owners
  interval_cases owner <;> decide

theorem disowned_ne {owners : OwnerSet} {owner : Nat} (howner : owner ≤ 3) (h : owners.getLsbD owner = true) :
    owners &&& ~~~(ownerBit owner) ≠ owners := by
  revert h owners
  interval_cases owner <;> decide

theorem Binding.emptied_iff (owner : Nat) (b : Binding) : b.emptied owner = true ↔
    b.owners &&& ~~~(ownerBit owner) = 0#4 ∧ b.state = .held ∧ b.valid = 0#64 := by
  simp only [Binding.emptied, Bool.and_eq_true, Bool.not_eq_true', Binding.pinned_eq_false, decide_eq_true_eq, and_assoc]
  exact Iff.rfl

theorem Binding.unpinReleases_iff {owner : Nat} (howner : owner ≤ 3) {b : Binding}
    (h : b.owners.getLsbD owner = true) :
    b.unpinReleases owner = true ↔ b.owners = ownerBit owner ∧ b.state = .held ∧ b.valid = 0#64 ∧ b.strikes < 2 := by
  rw [Binding.unpinReleases, Bool.and_eq_true, Binding.emptied_iff, disowned_eq_zero_iff howner h, Bool.not_eq_true',
    Binding.condemned_eq_false, and_assoc, and_assoc]

/-- The persisted form changes wherever an owner leaves. -/
theorem persistedChanged_unpinned {owner k : Nat} (howner : owner ≤ 3) {b : Binding} (h : b.owners.getLsbD owner = true)
    {before after : List (Nat × Slot)} (hb : bindingAt before k = some b) (ht : tget after k = b.unpinned owner) :
    persistedChanged before after k = true := by
  have hdisowned : tget after k = some (.bound (b.disowned owner)) → persistedChanged before after k = true := fun hd => by
    rw [← Bool.not_eq_false, persistedChanged_bound hb (c := b.disowned owner) (by rw [bindingAt, hd])]
    exact fun hsame => disowned_ne howner h hsame.2.1.symm
  unfold Binding.unpinned at ht
  split at ht
  · split at ht
    · split at ht
      · exact hdisowned ht
      · exact persistedChanged_retired hb _ ht
    · exact persistedChanged_free hb _ ht
  · exact hdisowned ht

/-- The first claim of O35, for the slots `ks` of the bindings that the owner leaves. -/
theorem unpin_made {s : State} {f : Frame} {rest : List Frame} {owner : Nat} {c : Instr} {ks : List Nat}
    {hit freed : Binding → Prop} (howner : owner ≤ 3) (hfield : fieldAt f.body 0 1 = owner)
    (hexec : exec c s = .next (makeUnpin ks f (s.taken rest))) (hnodup : ks.Nodup)
    (hks : ∀ k, k ∈ ks ↔ ∃ b, bindingAt s.bt.slots k = some b ∧ hit b)
    (hhit : ∀ b : Binding, hit b → b.owners.getLsbD owner = true) (hlog : s.mju.log.length + ks.length ≤ 240)
    (hfreed : ∀ b : Binding, freed b ↔ hit b ∧ b.owners = ownerBit owner ∧ b.state = .held ∧ b.valid = 0#64
      ∧ b.strikes < 2) :
    ∃ (t : State) (ks : List Nat), exec c s = .next t
      ∧ ks.Nodup ∧ (∀ k, k ∈ ks ↔ ∃ b, bindingAt s.bt.slots k = some b ∧ hit b)
      ∧ (∀ k b, bindingAt s.bt.slots k = some b → ¬hit b → bindingAt t.bt.slots k = some b)
      ∧ (∀ k b left, bindingAt s.bt.slots k = some b → hit b → left = b.owners &&& ~~~(ownerBit owner) →
          inLog t.mju.log k = true
          ∧ (freed b → tget t.bt.slots k = none)
          ∧ (left ≠ 0#4 ∨ b.state ≠ .held ∨ b.valid ≠ 0#64 →
              bindingAt t.bt.slots k = some { b with owners := left }))
      ∧ (∀ k, bindingAt s.bt.slots k = none → tget t.bt.slots k = tget s.bt.slots k)
      ∧ ((∃ k b, bindingAt s.bt.slots k = some b ∧ freed b) → t.au.runsOwed = s.au.runsOwed + 1)
      ∧ ((∀ k b, bindingAt s.bt.slots k = some b → ¬freed b) → t.au.runsOwed = s.au.runsOwed)
      ∧ ((∀ k b, bindingAt s.bt.slots k = some b → hit b → b.strikes < 2) → t.pu = s.pu)
      ∧ t = { s with
          bt := { s.bt with slots := t.bt.slots }, au := { s.au with runsOwed := t.au.runsOwed }, pu := t.pu
          mju := { s.mju with log := t.mju.log }, lif := { s.lif with deltaAsking := t.lif.deltaAsking }
          }.answered rest f.tag (.released ks.length) := by
  obtain ⟨u, hu⟩ : ∃ u, ks.foldl (unpinSlot (pinOwner f)) ⟨s.taken rest, false⟩ = u := ⟨_, rfl⟩
  have hpin : pinOwner f = owner := hfield
  obtain ⟨h, hflag⟩ := unpinSlots_unpinned owner ks ⟨s.taken rest, false⟩ hnodup fun k hk => by
    obtain ⟨b, hb, -⟩ := (hks k).mp hk
    exact Option.ne_none_iff_exists'.mpr ⟨b, hb⟩
  rw [hpin] at hu
  rw [hu] at h hflag
  rw [makeUnpin_eq ks f _ (hpin ▸ hu), if_pos (.inr ((grownLog_length_le _ _).trans hlog))] at hexec
  obtain ⟨slots, pu, honly⟩ := h.only
  have howns : ∀ k b, k ∈ ks → bindingAt s.bt.slots k = some b → hit b := fun k b hk hb => by
    obtain ⟨d, hd, hhit⟩ := (hks k).mp hk
    obtain rfl := Option.some.inj (hb.symm.trans hd)
    exact hhit
  have hreleased : u.released = true ↔ ∃ k b, bindingAt s.bt.slots k = some b ∧ freed b := by
    rw [hflag]
    constructor
    · rintro (hno | ⟨k, b, hk, hb, hrel⟩)
      · cases hno
      · have hbhit := howns k b hk hb
        exact ⟨k, b, hb, (hfreed b).mpr ⟨hbhit, (Binding.unpinReleases_iff howner (hhit b hbhit)).mp hrel⟩⟩
    · rintro ⟨k, b, hb, hbfreed⟩
      obtain ⟨hbhit, hempty⟩ := (hfreed b).mp hbfreed
      exact .inr ⟨k, b, (hks k).mpr ⟨b, hb, hbhit⟩, hb, (Binding.unpinReleases_iff howner (hhit b hbhit)).mpr hempty⟩
  have hchanged : ∀ k b, bindingAt s.bt.slots k = some b → hit b →
      k ∈ ks ∧ tget u.state.bt.slots k = b.unpinned owner := fun k b hb hbhit => by
    have hk := (hks k).mpr ⟨b, hb, hbhit⟩
    exact ⟨hk, h.left k b hk hb⟩
  have hothers : ∀ k, k ∉ ks → tget u.state.bt.slots k = tget s.bt.slots k := h.others
  have hpu := h.pu
  obtain ⟨us, released⟩ := u
  dsimp only at honly hreleased hchanged hothers hpu
  subst honly
  replace hothers : ∀ k, k ∉ ks → tget slots k = tget s.bt.slots k := hothers
  have hmade : (s.taken rest).unpinMade f ks ⟨{ (s.taken rest).withSlots slots with pu := pu }, released⟩
      = { s with
          bt := { s.bt with slots := slots }
          au := { s.au with runsOwed := s.au.runsOwed + if released then 1 else 0 }, pu := pu
          mju := { s.mju with log := grownLog s.seconds s.bt.slots slots s.mju.log ks }
          lif := { s.lif with
            deltaAsking :=
              deltaWanted s.seconds s.policy { s.mju with log := grownLog s.seconds s.bt.slots slots s.mju.log ks } }
          }.answered rest f.tag (.released ks.length) := by cases released <;> rfl
  rw [hmade] at hexec
  refine ⟨_, ks, hexec, hnodup, hks, fun k b hb hnot => ?_, fun k b left hb hbhit hleft => ?_, fun k hk => ?_,
    fun hex => ?_, fun hall => ?_, fun hall => ?_, rfl⟩
  · show bindingAt slots k = some b
    rw [bindingAt, hothers k fun hin => hnot (howns k b hin hb)]
    exact hb
  · obtain ⟨hk, hslot⟩ := hchanged k b hb hbhit
    subst hleft
    refine ⟨(inLog_grownLog _ _ _ _ _ _).mpr (.inr ⟨hk, persistedChanged_unpinned howner (hhit b hbhit) hb hslot⟩),
      fun hbfreed => hslot.trans ?_, fun hstays => ?_⟩
    · have hrel := (Binding.unpinReleases_iff howner (hhit b hbhit)).mpr ((hfreed b).mp hbfreed).2
      obtain ⟨hempty, hcond⟩ := Bool.and_eq_true_iff.mp hrel
      rw [Binding.unpinned, if_pos hempty, if_neg (by simpa using hcond)]
    · have hfull : ¬ b.emptied owner = true := by
        rw [Binding.emptied_iff]
        exact fun ⟨hzero, hheld, hvalid⟩ => hstays.elim (· hzero) (Or.elim · (· hheld) (· hvalid))
      rw [Binding.unpinned, if_neg hfull] at hslot
      show bindingAt slots k = _
      rw [bindingAt, show tget slots k = _ from hslot]
      rfl
  · exact hothers k fun hin => by
      obtain ⟨b, hb, -⟩ := (hks k).mp hin
      rw [hk] at hb
      cases hb
  · show s.au.runsOwed + _ = _
    rw [if_pos (hreleased.mpr hex)]
  · show s.au.runsOwed + _ = _
    rw [if_neg (mt hreleased.mp fun ⟨k, b, hb, hbfreed⟩ => hall k b hb hbfreed)]
    rfl
  · exact hpu fun k b hk hb => hall k b hb (howns k b hk hb)

/-! ### The room rule -/

theorem unpinSlots_withLog (owner : Nat) (ks : List Nat) (s : State) (released : Bool) (log : List LogEntry) :
    ks.foldl (unpinSlot owner) ⟨s.withLog log, released⟩
      = ⟨(ks.foldl (unpinSlot owner) ⟨s, released⟩).state.withLog log, (ks.foldl (unpinSlot owner) ⟨s, released⟩).released⟩ := by
  induction ks generalizing s released with
  | nil => rfl
  | cons k ks ih =>
    have hone : unpinSlot owner ⟨s.withLog log, released⟩ k
        = ⟨(unpinSlot owner ⟨s, released⟩ k).state.withLog log, (unpinSlot owner ⟨s, released⟩ k).released⟩ := by
      cases hb : bindingAt s.bt.slots k with
      | none =>
        rw [unpinSlot, unpinSlot, show bindingAt (s.withLog log).bt.slots k = none from hb, hb]
      | some b =>
        rw [unpinSlot_eq (u := ⟨s.withLog log, released⟩) hb, unpinSlot_eq (u := ⟨s, released⟩) hb]
        cases b.emptied owner <;> cases b.condemned <;> cases b.isDirty <;> rfl
    rw [List.foldl_cons, List.foldl_cons, hone, ih]

/-- The rule for a PIN or an UNPIN, by its serve. -/
theorem roomRule_of_owner {s : State} {f : Frame} {rest : List Frame} {c : Instr} {kind : Byte} {row : RequestRow}
    {serve : Frame → State → State} (hexec : ∀ v, exec c v = .next (takeRequest row (checkOwner serve) v))
    (hturn : s.turn kind f rest) (hrow : requestRow f = row) (hphase : phaseRefusal row s.mju.life = none)
    (h : (∀ (log : List LogEntry) body, (serve f ((s.taken rest).withLog log)).lif.reply ≠ some ⟨f.tag, .ok body⟩)
      ∨ ∃ (bt : BindingTable) (reply : Option Reply) (ks : List Nat) (made : List LogEntry → State),
        (∀ k, persistedChanged s.bt.slots bt.slots k = true → k ∈ ks ∧ k < s.bt.n)
        ∧ ∀ log, (made log).bt = bt ∧ (made log).lif.reply = reply
          ∧ serve f ((s.taken rest).withLog log) =
              if (grownLog s.seconds s.bt.slots bt.slots log ks).length ≤ log.length
                  ∨ (grownLog s.seconds s.bt.slots bt.slots log ks).length ≤ 240
                then made log else ((s.taken rest).withLog log).reply f.tag .retry) :
    s.roomRule 240 c f rest := by
  refine roomRule_of_serve (serve := checkOwner serve) hexec hturn hrow hphase ?_
  by_cases howner : fieldAt f.body 0 1 ≤ 3
  swap
  · refine .inl fun log body hreply => ?_
    rw [checkOwner_badOwner (Nat.lt_of_not_le howner)] at hreply
    cases hreply
  by_cases hcount : fieldAt f.body 5 1 ≤ 64
  swap
  · refine .inl fun log body hreply => ?_
    rw [checkOwner_badCount howner (Nat.lt_of_not_le hcount)] at hreply
    cases hreply
  cases halert : s.pu.alert (fieldAt f.body 0 1) with
  | some a =>
    refine .inl fun log body hreply => ?_
    rw [checkOwner_alerted (s := (s.taken rest).withLog log) howner hcount halert] at hreply
    cases hreply
  | none =>
    have hclear : ∀ log, checkOwner serve f ((s.taken rest).withLog log) = serve f ((s.taken rest).withLog log) := fun log =>
      checkOwner_clear (s := (s.taken rest).withLog log) howner hcount halert
    simpa only [hclear] using h

/-- The room of an UNPIN of the slots `ks`. -/
theorem roomRule_unpin_of {s : State} {f : Frame} {rest : List Frame} {c : Instr} {row : RequestRow}
    {serve : Frame → State → State} {ks : List Nat} (hexec : ∀ v, exec c v = .next (takeRequest row (checkOwner serve) v))
    (hturn : s.turn 0x31#8 f rest) (hrow : requestRow f = row) (hphase : phaseRefusal row s.mju.life = none)
    (hmap : s.Mapped) (hnodup : ks.Nodup) (hbound : ∀ k ∈ ks, bindingAt s.bt.slots k ≠ none)
    (hserve : (∀ (log : List LogEntry) body, (serve f ((s.taken rest).withLog log)).lif.reply ≠ some ⟨f.tag, .ok body⟩)
      ∨ ∀ log, serve f ((s.taken rest).withLog log) = makeUnpin ks f ((s.taken rest).withLog log)) :
    s.roomRule 240 c f rest := by
  refine roomRule_of_owner hexec hturn hrow hphase (hserve.imp_right fun hserve => ?_)
  obtain ⟨u, hu⟩ : ∃ u, ks.foldl (unpinSlot (pinOwner f)) ⟨s.taken rest, false⟩ = u := ⟨_, rfl⟩
  obtain ⟨h, -⟩ := unpinSlots_unpinned (pinOwner f) ks ⟨s.taken rest, false⟩ hnodup hbound
  rw [hu] at h
  refine ⟨u.state.bt, some ⟨f.tag, .ok (.released ks.length)⟩, ks,
    fun log => ((s.taken rest).withLog log).unpinMade f ks ⟨u.state.withLog log, u.released⟩, fun k hk => ?_,
    fun log => ⟨?_, rfl, ?_⟩⟩
  · have hin : k ∈ ks := by
      by_contra hnot
      have hsame : tget u.state.bt.slots k = tget s.bt.slots k := h.others k hnot
      simp [persistedChanged, persisted, hsame] at hk
    obtain ⟨b, hb⟩ := Option.ne_none_iff_exists'.mp (hbound k hin)
    exact ⟨hin, hmap.slot_lt (tget_of_bindingAt hb)⟩
  · show (State.startPickerIf _ _).bt = _
    rw [State.startPickerIf_bt]
    rfl
  · rw [hserve, makeUnpin_eq ks f _ (u := ⟨u.state.withLog log, u.released⟩) (by rw [unpinSlots_withLog, hu])]
    rfl

theorem roomRule_unpin {s : State} {f : Frame} {rest : List Frame} {c : Instr} (hlife : s.mju.life = .active)
    (hturn : s.turn 0x31#8 f rest) (hmapLaw : mapLaw s = true) (hc : c = .unpin ∨ c = .unpinAll) :
    s.roomRule 240 c f rest := by
  have hmap : s.Mapped := ((mapLaw_iff s).mp hmapLaw).1
  have hidle : ∀ (row : RequestRow) (serve : Frame → State → State), requestRow f ≠ row →
      (∀ v, exec c v = .next (takeRequest row serve v)) → s.roomRule 240 c f rest := fun row serve hrow hexec =>
    roomRule_of (.inl fun log t body hstep hreply => by
      rw [hexec, takeRequest_otherRow (s := s.withLog log) hturn.1 hrow] at hstep
      obtain rfl := Host.Outcome.next.inj hstep
      obtain ⟨-, -, -, hnone, -⟩ := hturn
      rw [show (s.withLog log).lif.reply = none from hnone] at hreply
      cases hreply)
  rcases hc with rfl | rfl
  · by_cases hrow : requestRow f = .unpin
    · refine roomRule_unpin_of (serve := serveUnpin) (fun _ => rfl) hturn hrow (by rw [hlife]; rfl) hmap
        (pinnedInRange_nodup hmap (pinOwner f) (pinFirst f) (pinCount f)) (fun k hk => ?_) ?_
      · obtain ⟨b, hb, -⟩ := (mem_pinnedInRange hmap).mp hk
        exact Option.ne_none_iff_exists'.mpr ⟨b, hb⟩
      · by_cases hbeyond : s.bt.e < pinFirst f + pinCount f
        · refine .inl fun log body hreply => ?_
          rw [serveUnpin, if_pos (show ((s.taken rest).withLog log).bt.e < _ from hbeyond)] at hreply
          cases hreply
        · exact .inr fun log => if_neg hbeyond
    · exact hidle _ _ hrow fun _ => rfl
  · by_cases hrow : requestRow f = .unpinAll
    · refine roomRule_unpin_of (serve := serveUnpinAll) (fun _ => rfl) hturn hrow (by rw [hlife]; rfl) hmap
        (pinnedBy_nodup hmap (pinOwner f)) (fun k hk => ?_) (.inr fun log => rfl)
      obtain ⟨b, hb, -⟩ := (mem_pinnedBy hmap).mp hk
      exact Option.ne_none_iff_exists'.mpr ⟨b, hb⟩
    · exact hidle _ _ hrow fun _ => rfl

/-- Settles O35: UNPIN of a range, UNPIN_ALL, and the room of both. -/
theorem unpinRemovesTheOwner : Obligations.UnpinRemovesTheOwner := by
  refine ⟨?_, fun s f rest c hlife hturn hmap hc => roomRule_unpin hlife hturn hmap hc⟩
  intro s f rest owner first count c hit freed hlife hturn hlen hmapLaw howner hle hfirst hcount hcount64 halert hcase hfreed
  have hmap : s.Mapped := ((mapLaw_iff s).mp hmapLaw).1
  subst hfirst hcount
  rcases hcase with ⟨rfl, hpos, hrange, hlog, hhit⟩ | ⟨rfl, hzero, hlog, hhit⟩
  · refine unpin_made hle howner (exec_unpin hlife hturn hlen hle howner hcount64 halert hpos hrange)
      (pinnedInRange_nodup hmap _ _ _) (fun k => ?_) (fun b hb => ((hhit b).mp hb).2.2) ?_ hfreed
    · rw [mem_pinnedInRange hmap]
      simp only [hhit]
    · have := length_pinnedInRange_le s.bt.slots owner (fieldAt f.body 1 4) (fieldAt f.body 5 1)
      omega
  · refine unpin_made hle howner (exec_unpinAll hlife hturn hlen hle howner hcount64 halert hzero)
      (pinnedBy_nodup hmap _) (fun k => ?_) (fun b hb => (hhit b).mp hb) ?_ hfreed
    · rw [mem_pinnedBy hmap]
      simp only [hhit]
    · have := length_pinnedBy_le s.bt.slots owner
      omega

end Sys2Proof.Machine
end


section
/-! SUPPORT. The claim on DISCARD: the range leaves the bindings one extent after another (R92 to R95). -/

namespace Sys2Proof.Machine

/-! ### One binding -/

/-- A DISCARD of the blocks `r` retires the slot of the binding: HELD, condemned and left clean (R16, R93). -/
def Binding.discardRetires (r : BlockSet) (b : Binding) : Bool :=
  decide (b.state = .held) && (b.condemned && !(b.without r).isDirty)

/-- A DISCARD of the blocks `r` releases the slot of the binding (R9, R93). -/
def Binding.discardReleases (r : BlockSet) (b : Binding) : Bool :=
  decide (b.state = .held) && (!b.condemned && !b.pinned && decide ((b.without r).valid = BlockSet.none))

/-- A DISCARD of the blocks `r` starts a refill scan for the binding (R148). -/
def Binding.discardScans (r : BlockSet) (b : Binding) : Bool :=
  decide (b.state = .held) && (b.pinned && decide ((b.without r).valid ≠ b.valid))

/-- What the slot of the binding holds after a DISCARD of the blocks `r`. -/
def Binding.discarded (r : BlockSet) (b : Binding) : Option Slot :=
  if b.discardRetires r then some .retired else if b.discardReleases r then none else some (.bound (b.without r))

section
variable {r : BlockSet} {b : Binding}

theorem Binding.discardRetires_iff :
    b.discardRetires r = true ↔ b.state = .held ∧ 2 ≤ b.strikes ∧ b.dirty &&& ~~~r = 0#64 := by
  rw [discardRetires, Bool.and_eq_true, Bool.and_eq_true, Bool.not_eq_true', decide_eq_true_eq, condemned_eq_true,
    isDirty_eq_false]
  rfl

theorem Binding.discardReleases_iff :
    b.discardReleases r = true ↔
      b.state = .held ∧ b.valid &&& ~~~r = 0#64 ∧ b.owners = 0#4 ∧ b.strikes < 2 := by
  rw [discardReleases, Bool.and_eq_true, Bool.and_eq_true, Bool.and_eq_true, Bool.not_eq_true', Bool.not_eq_true',
    decide_eq_true_eq, decide_eq_true_eq, condemned_eq_false, pinned_eq_false]
  exact and_congr_right fun _ => ⟨fun ⟨⟨hc, hp⟩, hv⟩ => ⟨hv, hp, hc⟩, fun ⟨hv, hp, hc⟩ => ⟨⟨hc, hp⟩, hv⟩⟩

theorem Binding.discardScans_iff :
    b.discardScans r = true ↔ b.state = .held ∧ b.owners ≠ 0#4 ∧ b.valid &&& ~~~r ≠ b.valid := by
  rw [discardScans, Bool.and_eq_true, Bool.and_eq_true, decide_eq_true_eq, decide_eq_true_eq, pinned_eq_true]
  rfl

theorem Binding.extent_of_discarded {c : Binding} (h : b.discarded r = some (.bound c)) : c.extent = b.extent := by
  unfold Binding.discarded at h
  split at h
  · cases h
  · split at h
    · cases h
    · cases h
      rfl

theorem Binding.discarded_retired : b.discarded r = some .retired ↔ b.discardRetires r = true := by
  unfold Binding.discarded
  split
  next h => simp [h]
  next h =>
    split <;> simp [h]

end

/-- What the persisted form of the slot has of a DISCARD. -/
theorem persistedChanged_discarded {before after : List (Nat × Slot)} {k : Nat} {r : BlockSet} {b : Binding}
    (hb : bindingAt before k = some b) (h : tget after k = b.discarded r)
    (hchanged : b.valid &&& ~~~r ≠ b.valid ∨ b.dirty &&& ~~~r ≠ b.dirty ∨ b.discardReleases r = true) :
    persistedChanged before after k = true := by
  unfold Binding.discarded at h
  split at h
  · exact persistedChanged_retired hb _ h
  · split at h
    next => exact persistedChanged_free hb _ h
    next hkept =>
      rw [← Bool.not_eq_false, persistedChanged_bound hb (c := b.without r) (by rw [bindingAt, h])]
      rintro ⟨-, -, -, hvalid, hdirty⟩
      rcases hchanged with hv | hd | hrel
      · exact hv hvalid.symm
      · exact hd hdirty.symm
      · exact hkept hrel

/-! ### One share -/

theorem discardShare_eq {d : Discarding} {sh : Share} {k : Nat} {b : Binding}
    (hres : residency d.state.bt.slots sh.extent = some (k, b)) :
    discardShare d sh =
      { state :=
          if b.discardRetires sh.blocks then d.state.retire k (b.without sh.blocks)
          else if b.discardReleases sh.blocks then d.state.release k
          else d.state.setBinding k (b.without sh.blocks)
        touched := d.touched ++ [k]
        released := d.released || b.discardReleases sh.blocks
        scan := d.scan || b.discardScans sh.blocks } := by
  rw [discardShare, hres]
  dsimp only
  unfold Binding.discardRetires Binding.discardReleases Binding.discardScans
  by_cases hheld : b.state = .held
  · simp only [hheld, if_true, decide_true, Bool.true_and]
    rfl
  · simp only [hheld, if_false, decide_false, Bool.false_and, Bool.or_false, Bool.false_eq_true]

/-! ### The shares one after another -/

/-- One of the shares falls on the binding `b` of slot `k`. -/
def ShareFalls (slots : List (Nat × Slot)) (shares : List Share) (k : Nat) (b : Binding) (sh : Share) : Prop :=
  sh ∈ shares ∧ bindingAt slots k = some b ∧ b.extent = sh.extent

/-- The discard `d'` is what a DISCARD of the shares makes of `d`. -/
structure Discarded (d d' : Discarding) (shares : List Share) : Prop where
  slot : ∀ k b sh, ShareFalls d.state.bt.slots shares k b sh → tget d'.state.bt.slots k = b.discarded sh.blocks
  other : ∀ k, (∀ b sh, ¬ ShareFalls d.state.bt.slots shares k b sh) → tget d'.state.bt.slots k = tget d.state.bt.slots k
  touched : ∀ k, k ∈ d'.touched ↔ k ∈ d.touched ∨ ∃ b sh, ShareFalls d.state.bt.slots shares k b sh
  length : d'.touched.length ≤ d.touched.length + shares.length
  released : d'.released = true ↔ d.released = true
    ∨ ∃ k b sh, ShareFalls d.state.bt.slots shares k b sh ∧ b.discardReleases sh.blocks = true
  scan : d'.scan = true ↔ d.scan = true
    ∨ ∃ k b sh, ShareFalls d.state.bt.slots shares k b sh ∧ b.discardScans sh.blocks = true
  alerted : ∀ owner, owner ≤ 3 → (∃ k b sh, ShareFalls d.state.bt.slots shares k b sh
    ∧ b.discardRetires sh.blocks = true ∧ b.owners.getLsbD owner = true) → d'.state.pu.alert owner = some .pinsDropped
  quiet : ∀ owner, owner ≤ 3 → (∀ k b sh, ShareFalls d.state.bt.slots shares k b sh →
    b.discardRetires sh.blocks = true → b.owners.getLsbD owner = false) →
    d'.state.pu.alert owner = d.state.pu.alert owner
  scansOwed : d'.state.pu.scansOwed = d.state.pu.scansOwed

theorem ShareFalls.nil {slots : List (Nat × Slot)} {k : Nat} {b : Binding} {sh : Share} : ¬ ShareFalls slots [] k b sh :=
  fun h => List.not_mem_nil h.1

theorem Discarded.unchanged {d : Discarding} {shares : List Share}
    (h : ∀ k b sh, ¬ ShareFalls d.state.bt.slots shares k b sh) : Discarded d d shares where
  slot k b sh hf := absurd hf (h k b sh)
  other _ _ := rfl
  touched k := by simp only [h, exists_false, or_false]
  length := Nat.le_add_right ..
  released := by simp only [h, false_and, exists_false, or_false]
  scan := by simp only [h, false_and, exists_false, or_false]
  alerted := fun _ _ ⟨k, b, sh, hf, _⟩ => absurd hf (h k b sh)
  quiet _ _ _ := rfl
  scansOwed := rfl

theorem discardShare_discarded {d : Discarding} {n e : Nat} {rows : List (Nat × Row)} (hmap : MapOk n e d.state.bt.slots rows)
    (sh : Share) : Discarded d (discardShare d sh) [sh] := by
  cases hres : residency d.state.bt.slots sh.extent with
  | none =>
    have hnone := (residency_none_iff hmap.slots_sorted _).mp hres
    rw [discardShare, hres]
    refine .unchanged fun k b sh' ⟨hsh, hb, hextent⟩ => hnone k b hb ?_
    rw [hextent, List.mem_singleton.mp hsh]
  | some kb =>
    obtain ⟨k, b⟩ := kb
    obtain ⟨hb, hextent⟩ := hmap.residency_eq_some.mp hres
    have hfalls : ShareFalls d.state.bt.slots [sh] k b sh := ⟨List.mem_singleton_self _, hb, hextent⟩
    have honly : ∀ k' b' sh', ShareFalls d.state.bt.slots [sh] k' b' sh' → k' = k ∧ b' = b ∧ sh' = sh := by
      rintro k' b' sh' ⟨hsh, hb', hextent'⟩
      obtain rfl := List.mem_singleton.mp hsh
      obtain rfl := hmap.extent_inj hb' hb (hextent'.trans hextent.symm)
      exact ⟨rfl, Option.some.inj (hb'.symm.trans hb), rfl⟩
    have hslots : ∀ j, tget (discardShare d sh).state.bt.slots j
        = if j = k then b.discarded sh.blocks else tget d.state.bt.slots j := fun j => by
      rw [discardShare_eq hres, Binding.discarded]
      cases b.discardRetires sh.blocks
      · cases b.discardReleases sh.blocks
        · exact tget_tset _ _ _ _
        · exact tget_terase _ _ _
      · exact tget_tset _ _ _ _
    have hpu : (discardShare d sh).state.pu
        = if b.discardRetires sh.blocks then d.state.pu.raise b.owners .pinsDropped else d.state.pu := by
      rw [discardShare_eq hres]
      cases b.discardRetires sh.blocks
      · cases b.discardReleases sh.blocks <;> rfl
      · rfl
    have hexists : ∀ P : Binding → Share → Prop,
        (∃ k b sh', ShareFalls d.state.bt.slots [sh] k b sh' ∧ P b sh') ↔ P b sh := fun P => by
      constructor
      · rintro ⟨k', b', sh', hf, hP⟩
        obtain ⟨rfl, rfl, rfl⟩ := honly k' b' sh' hf
        exact hP
      · exact fun hP => ⟨k, b, sh, hfalls, hP⟩
    refine ⟨fun k' b' sh' hf => ?_, fun j hj => ?_, fun j => ?_, ?_, ?_, ?_, fun owner howner hex => ?_,
      fun owner howner hall => ?_, ?_⟩
    · obtain ⟨rfl, rfl, rfl⟩ := honly k' b' sh' hf
      rw [hslots, if_pos rfl]
    · rw [hslots, if_neg fun (heq : j = k) => hj b sh (heq ▸ hfalls)]
    · rw [discardShare_eq hres, List.mem_append, List.mem_singleton]
      refine or_congr_right ⟨?_, ?_⟩
      · rintro rfl
        exact ⟨b, sh, hfalls⟩
      · rintro ⟨b', sh', hf⟩
        exact (honly j b' sh' hf).1
    · rw [discardShare_eq hres, List.length_append]
      rfl
    · rw [hexists fun b sh => b.discardReleases sh.blocks = true, discardShare_eq hres, Bool.or_eq_true]
    · rw [hexists fun b sh => b.discardScans sh.blocks = true, discardShare_eq hres, Bool.or_eq_true]
    · obtain ⟨hret, hbit⟩ :=
        (hexists fun b sh => b.discardRetires sh.blocks = true ∧ b.owners.getLsbD owner = true).mp hex
      rw [hpu, if_pos hret, PinUnit.alert_raise _ _ _ howner, if_pos hbit]
    · rw [hpu]
      split
      next hret => rw [PinUnit.alert_raise _ _ _ howner, hall k b sh hfalls hret, if_neg Bool.false_ne_true]
      next => rfl
    · rw [hpu]
      split
      · exact PinUnit.raise_scansOwed ..
      · rfl

/-- A share leaves the bindings of the other extents. -/
theorem Discarded.bindingAt_iff {d d' : Discarding} {sh : Share} (h : Discarded d d' [sh]) {k : Nat} {b : Binding}
    (hne : b.extent ≠ sh.extent) : bindingAt d'.state.bt.slots k = some b ↔ bindingAt d.state.bt.slots k = some b := by
  by_cases hfalls : ∃ c sh', ShareFalls d.state.bt.slots [sh] k c sh'
  · obtain ⟨c, sh', hf⟩ := hfalls
    have hslot := h.slot k c sh' hf
    obtain ⟨hsh, hc, hextent⟩ := hf
    obtain rfl := List.mem_singleton.mp hsh
    constructor
    · intro hb
      rw [tget_of_bindingAt hb] at hslot
      exact absurd ((Binding.extent_of_discarded hslot.symm).trans hextent) hne
    · intro hb
      obtain rfl := Option.some.inj (hc.symm.trans hb)
      exact absurd hextent hne
  · rw [bindingAt, h.other k fun c sh' hf => hfalls ⟨c, sh', hf⟩]
    rfl

theorem Discarded.cons {d d1 d2 : Discarding} {sh : Share} {shares : List Share} (h1 : Discarded d d1 [sh])
    (h2 : Discarded d1 d2 shares) (hne : ∀ sh' ∈ shares, sh.extent ≠ sh'.extent) : Discarded d d2 (sh :: shares) := by
  have hlater : ∀ k b sh', ShareFalls d1.state.bt.slots shares k b sh' ↔ ShareFalls d.state.bt.slots shares k b sh' :=
    fun k b sh' => and_congr_right fun hsh => and_congr_left fun hextent =>
      h1.bindingAt_iff fun heq => hne sh' hsh (heq.symm.trans hextent)
  have hfalls : ∀ k b sh', ShareFalls d.state.bt.slots (sh :: shares) k b sh' ↔
      ShareFalls d.state.bt.slots [sh] k b sh' ∨ ShareFalls d1.state.bt.slots shares k b sh' := fun k b sh' => by
    rw [hlater]
    unfold ShareFalls
    rw [List.mem_cons, List.mem_singleton, ← or_and_right]
  have hapart : ∀ k b sh', ShareFalls d.state.bt.slots [sh] k b sh' →
      ∀ c sh'', ¬ ShareFalls d1.state.bt.slots shares k c sh'' := fun k b sh' hf c sh'' hlate => by
    obtain ⟨hsh'', hc, hcext⟩ := (hlater k c sh'').mp hlate
    obtain ⟨hsh, hb, hbext⟩ := hf
    obtain rfl := List.mem_singleton.mp hsh
    obtain rfl := Option.some.inj (hb.symm.trans hc)
    exact hne sh'' hsh'' (hbext.symm.trans hcext)
  have hexists : ∀ P : Nat → Binding → Share → Prop,
      (∃ k b sh', ShareFalls d.state.bt.slots (sh :: shares) k b sh' ∧ P k b sh') ↔
        (∃ k b sh', ShareFalls d.state.bt.slots [sh] k b sh' ∧ P k b sh')
          ∨ ∃ k b sh', ShareFalls d1.state.bt.slots shares k b sh' ∧ P k b sh' := fun P => by
    simp only [hfalls, or_and_right, exists_or]
  refine ⟨fun k b sh' hf => ?_, fun k hk => ?_, fun k => ?_, ?_, ?_, ?_, fun owner howner hex => ?_,
    fun owner howner hall => ?_, h2.scansOwed.trans h1.scansOwed⟩
  · rcases (hfalls k b sh').mp hf with hf | hf
    · rw [h2.other k (hapart k b sh' hf), h1.slot k b sh' hf]
    · exact h2.slot k b sh' hf
  · rw [h2.other k fun b sh' hf => hk b sh' ((hfalls k b sh').mpr (.inr hf)),
      h1.other k fun b sh' hf => hk b sh' ((hfalls k b sh').mpr (.inl hf))]
  · simp only [h2.touched, h1.touched, or_assoc, hfalls, exists_or]
  · have hlength := h1.length
    have := h2.length
    simp only [List.length_cons, List.length_nil] at hlength ⊢
    omega
  · rw [h2.released, h1.released, or_assoc, hexists fun _ b sh => b.discardReleases sh.blocks = true]
  · rw [h2.scan, h1.scan, or_assoc, hexists fun _ b sh => b.discardScans sh.blocks = true]
  · by_cases hlate : ∃ k b sh', ShareFalls d1.state.bt.slots shares k b sh'
        ∧ b.discardRetires sh'.blocks = true ∧ b.owners.getLsbD owner = true
    · exact h2.alerted owner howner hlate
    · have hhead := ((hexists fun _ b sh => b.discardRetires sh.blocks = true ∧ b.owners.getLsbD owner = true).mp
        hex).resolve_right hlate
      rw [h2.quiet owner howner fun k b sh' hf hret => Bool.not_eq_true _ ▸ fun hbit => hlate ⟨k, b, sh', hf, hret, hbit⟩]
      exact h1.alerted owner howner hhead
  · rw [h2.quiet owner howner fun k b sh' hf => hall k b sh' ((hfalls k b sh').mpr (.inr hf)),
      h1.quiet owner howner fun k b sh' hf => hall k b sh' ((hfalls k b sh').mpr (.inl hf))]

theorem discardShares_discarded {n e : Nat} (shares : List Share) : ∀ d : Discarding,
    MapOk n e d.state.bt.slots d.state.ct.rows → (shares.Pairwise fun a b => a.extent ≠ b.extent) →
    Discarded d (shares.foldl discardShare d) shares := by
  induction shares with
  | nil => exact fun d _ _ => .unchanged fun _ _ _ => ShareFalls.nil
  | cons sh shares ih =>
    intro d hmap hdistinct
    obtain ⟨hne, hrest⟩ := List.pairwise_cons.mp hdistinct
    have hmoves := discardShare_move (c := ⟨true, n, e, 0, True, fun _ _ _ => True⟩) (d := d) (sh := sh)
      fun _ _ _ => trivial
    exact (discardShare_discarded hmap sh).cons (ih _ (MapOk.moves hmoves hmap) hrest) hne

/-! ### DISCARD served -/

theorem exec_discard {s : State} {f : Frame} {rest : List Frame} {start count : Nat} (hlife : s.mju.life = .active)
    (hturn : s.turn 0x22#8 f rest) (hnames : f.names s.bt.e start count) :
    exec .discard s = .next (serveDiscard start count f (s.taken rest)) := by
  rw [exec_of_turn (i := .discard) (serve := serveRange serveDiscard) rfl hturn (requestRow_discard hturn.2.1)
    (by rw [hlife]; rfl) (by rw [hnames.1]; rfl), serveRange_names (s := s.taken rest) hnames]

/-- A DISCARD made and answered (R92). -/
def State.discardMade (s : State) (f : Frame) (count : Nat) (d : Discarding) : State :=
  ((((d.state.settleDrainAll).startPickerIf d.released).startScanIf d.scan).logChange s.bt.slots d.touched).answerOk
    f.tag (.covered count)

theorem serveDiscard_eq {start count : Nat} {f : Frame} {s : State} {d : Discarding}
    (hd : (sharesOf start count).foldl discardShare ⟨s, [], false, false⟩ = d) :
    serveDiscard start count f s =
      if (grownLog s.seconds s.bt.slots d.state.bt.slots s.mju.log d.touched).length ≤ s.mju.log.length
          ∨ (grownLog s.seconds s.bt.slots d.state.bt.slots s.mju.log d.touched).length ≤ 240
        then s.discardMade f count d else s.reply f.tag .retry := by
  rw [serveDiscard, hd]
  simp only [requestRoom, Bool.or_eq_true, decide_eq_true_eq]
  rfl

/-- The part after a DISCARD that leaves `slots` and the pin unit `pu`. -/
theorem discardMade_eq (s : State) (rest : List Frame) (f : Frame) (count : Nat) (slots : List (Nat × Slot)) (pu : PinUnit)
    (ks : List Nat) (released scan : Bool) :
    (s.taken rest).discardMade f count ⟨{ (s.taken rest).withSlots slots with pu := pu }, ks, released, scan⟩
      = { s with
          bt := { s.bt with slots := slots }
          au := { s.au with runsOwed := s.au.runsOwed + if released then 1 else 0 }
          pu := { pu with scansOwed := pu.scansOwed + if scan then 1 else 0 }
          psm := { s.psm with drainAll := s.psm.drainAll && decide (dirtyCount slots ≠ 0) }
          mju := { s.mju with log := grownLog s.seconds s.bt.slots slots s.mju.log ks }
          lif := { s.lif with
            deltaAsking :=
              deltaWanted s.seconds s.policy { s.mju with log := grownLog s.seconds s.bt.slots slots s.mju.log ks } }
          }.answered rest f.tag (.covered count) := by
  rw [State.discardMade, settleDrainAll_eq]
  cases released <;> cases scan <;> rfl

/-- What a DISCARD of a range leaves in the tables, the log and the counts of runs. -/
structure RangeDiscarded (s : State) (touched : Nat → Prop) (r : Nat → BlockSet) (slots : List (Nat × Slot)) (pu : PinUnit)
    (ks : List Nat) (released scan : Bool) : Prop where
  slot : ∀ k b, bindingAt s.bt.slots k = some b → touched b.extent → tget slots k = b.discarded (r b.extent)
  other : ∀ k, (∀ b, bindingAt s.bt.slots k = some b → ¬ touched b.extent) → tget slots k = tget s.bt.slots k
  listed : ∀ k b, bindingAt s.bt.slots k = some b → touched b.extent → k ∈ ks
  released : released = true ↔
    ∃ k b, bindingAt s.bt.slots k = some b ∧ touched b.extent ∧ b.discardReleases (r b.extent) = true
  scan : scan = true ↔ ∃ k b, bindingAt s.bt.slots k = some b ∧ touched b.extent ∧ b.discardScans (r b.extent) = true
  alerted : ∀ owner, owner ≤ 3 → (∃ k b, bindingAt s.bt.slots k = some b ∧ touched b.extent
    ∧ b.discardRetires (r b.extent) = true ∧ b.owners.getLsbD owner = true) → pu.alert owner = some .pinsDropped
  quiet : ∀ owner, owner ≤ 3 → (∀ k b, bindingAt s.bt.slots k = some b → touched b.extent →
    b.discardRetires (r b.extent) = true → b.owners.getLsbD owner = false) → pu.alert owner = s.pu.alert owner
  scansOwed : pu.scansOwed = s.pu.scansOwed

theorem exec_discard_range {s : State} {f : Frame} {rest : List Frame} {start count : Nat} {touched : Nat → Prop}
    {r : Nat → BlockSet} (hlife : s.mju.life = .active) (hturn : s.turn 0x22#8 f rest)
    (hnames : f.names s.bt.e start count) (hmap : s.Mapped) (hlog : s.mju.log.length ≤ 235)
    (htouched : ∀ x, touched x ↔ start / 64 ≤ x ∧ x ≤ (start + count - 1) / 64)
    (hr : ∀ x, r x = BlockSet.span (start - 64 * x) (min 64 (start + count - 64 * x))) :
    ∃ slots pu ks released scan, RangeDiscarded s touched r slots pu ks released scan
      ∧ exec .discard s = .next ({ s with
          bt := { s.bt with slots := slots }
          au := { s.au with runsOwed := s.au.runsOwed + if released then 1 else 0 }
          pu := { pu with scansOwed := pu.scansOwed + if scan then 1 else 0 }
          psm := { s.psm with drainAll := s.psm.drainAll && decide (dirtyCount slots ≠ 0) }
          mju := { s.mju with log := grownLog s.seconds s.bt.slots slots s.mju.log ks }
          lif := { s.lif with
            deltaAsking :=
              deltaWanted s.seconds s.policy { s.mju with log := grownLog s.seconds s.bt.slots slots s.mju.log ks } }
          }.answered rest f.tag (.covered count)) := by
  have hpos := hnames.pos
  obtain ⟨d, hd⟩ : ∃ d, (sharesOf start count).foldl discardShare ⟨s.taken rest, [], false, false⟩ = d := ⟨_, rfl⟩
  have h := discardShares_discarded (n := s.bt.n) (e := s.bt.e) (sharesOf start count) ⟨s.taken rest, [], false, false⟩
    hmap (sharesOf_distinct start count)
  obtain ⟨slots, pu, honly⟩ := discardShares_onlySlots (sharesOf start count) ⟨s.taken rest, [], false, false⟩
  rw [hd] at h honly
  have hlength : d.touched.length ≤ 5 :=
    h.length.trans (by simpa using length_sharesOf_le (start := start) hnames.le_256)
  have hexec := exec_discard hlife hturn hnames
  rw [serveDiscard_eq hd, if_pos (.inr ((grownLog_length_le _ _).trans (Nat.add_le_add hlog hlength)))] at hexec
  have hfalls : ∀ k b sh, ShareFalls s.bt.slots (sharesOf start count) k b sh ↔
      bindingAt s.bt.slots k = some b ∧ touched b.extent ∧ sh = shareOf start count b.extent := fun k b sh => by
    rw [ShareFalls, mem_sharesOf_pos hpos, htouched]
    constructor
    · rintro ⟨⟨x, hlo, hhi, rfl⟩, hb, hextent⟩
      obtain rfl : b.extent = x := hextent
      exact ⟨hb, ⟨hlo, hhi⟩, rfl⟩
    · rintro ⟨hb, ⟨hlo, hhi⟩, rfl⟩
      exact ⟨⟨b.extent, hlo, hhi, rfl⟩, hb, rfl⟩
  have hblocks : ∀ x, (shareOf start count x).blocks = r x := fun x => (hr x).symm
  have hexists : ∀ P : Binding → BlockSet → Prop,
      (∃ k b sh, ShareFalls s.bt.slots (sharesOf start count) k b sh ∧ P b sh.blocks) ↔
        ∃ k b, bindingAt s.bt.slots k = some b ∧ touched b.extent ∧ P b (r b.extent) := fun P => by
    constructor
    · rintro ⟨k, b, sh, hf, hP⟩
      obtain ⟨hb, ht, rfl⟩ := (hfalls k b sh).mp hf
      exact ⟨k, b, hb, ht, hblocks _ ▸ hP⟩
    · rintro ⟨k, b, hb, ht, hP⟩
      exact ⟨k, b, _, (hfalls k b _).mpr ⟨hb, ht, rfl⟩, (hblocks b.extent).symm ▸ hP⟩
  obtain ⟨ds, ks, released, scan⟩ := d
  dsimp only at honly
  subst honly
  rw [discardMade_eq] at hexec
  refine ⟨slots, pu, ks, released, scan, ⟨fun k b hb ht => ?_, fun k hk => ?_, fun k b hb ht => ?_, ?_, ?_,
    fun owner howner hex => ?_, fun owner howner hall => ?_, h.scansOwed⟩, hexec⟩
  · exact hblocks _ ▸ h.slot k b _ ((hfalls k b _).mpr ⟨hb, ht, rfl⟩)
  · exact h.other k fun b sh hf => hk b ((hfalls k b sh).mp hf).1 ((hfalls k b sh).mp hf).2.1
  · exact (h.touched k).mpr (.inr ⟨b, _, (hfalls k b _).mpr ⟨hb, ht, rfl⟩⟩)
  · exact h.released.trans ((or_iff_right Bool.false_ne_true).trans (hexists fun b r => b.discardReleases r = true))
  · exact h.scan.trans ((or_iff_right Bool.false_ne_true).trans (hexists fun b r => b.discardScans r = true))
  · exact h.alerted owner howner
      ((hexists fun b r => b.discardRetires r = true ∧ b.owners.getLsbD owner = true).mpr hex)
  · refine h.quiet owner howner fun k b sh hf hret => ?_
    obtain ⟨hb, ht, rfl⟩ := (hfalls k b sh).mp hf
    exact hall k b hb ht (hblocks _ ▸ hret)

/-- A slot is retired by a DISCARD exactly where its binding retires. -/
theorem RangeDiscarded.retired_iff {s : State} {touched : Nat → Prop} {r : Nat → BlockSet} {slots : List (Nat × Slot)}
    {pu : PinUnit} {ks : List Nat} {released scan : Bool} (h : RangeDiscarded s touched r slots pu ks released scan)
    {k : Nat} {b : Binding} (hb : bindingAt s.bt.slots k = some b) :
    tget slots k = some .retired ↔ touched b.extent ∧ b.discardRetires (r b.extent) = true := by
  by_cases ht : touched b.extent
  · rw [h.slot k b hb ht, Binding.discarded_retired]
    exact (and_iff_right ht).symm
  · rw [h.other k fun c hc => by rwa [← Option.some.inj (hb.symm.trans hc)], tget_of_bindingAt hb]
    simp [ht]

/-- A binding that is not HELD, or keeps a valid block or an owner, keeps its slot, unless it is condemned and left clean. -/
theorem Binding.discarded_stays {r : BlockSet} {b : Binding}
    (h : b.state ≠ .held ∨ b.valid &&& ~~~r ≠ 0#64 ∧ (b.strikes < 2 ∨ b.dirty &&& ~~~r ≠ 0#64)
      ∨ b.owners ≠ 0#4 ∧ b.strikes < 2) : b.discarded r = some (.bound (b.without r)) := by
  have hnoretire : ¬ b.discardRetires r = true := by
    rw [Binding.discardRetires_iff]
    rintro ⟨hheld, hstrikes, hclean⟩
    rcases h with hno | ⟨-, hfew | hdirty⟩ | ⟨-, hfew⟩
    · exact hno hheld
    · exact Nat.not_lt_of_le hstrikes hfew
    · exact hdirty hclean
    · exact Nat.not_lt_of_le hstrikes hfew
  have hnorelease : ¬ b.discardReleases r = true := by
    rw [Binding.discardReleases_iff]
    rintro ⟨hheld, hempty, howners, -⟩
    rcases h with hno | ⟨hvalid, -⟩ | ⟨hpinned, -⟩
    · exact hno hheld
    · exact hvalid hempty
    · exact hpinned howners
  rw [Binding.discarded, if_neg hnoretire, if_neg hnorelease]

theorem Binding.discarded_released {r : BlockSet} {b : Binding} (h : b.discardReleases r = true) : b.discarded r = none := by
  have hnoretire : ¬ b.discardRetires r = true := fun hretire =>
    Nat.not_lt_of_le (Binding.discardRetires_iff.mp hretire).2.1 (Binding.discardReleases_iff.mp h).2.2.2
  rw [Binding.discarded, if_neg hnoretire, if_pos h]

/-! ### The room rule -/

theorem discardShares_withLog (shares : List Share) (log : List LogEntry) : ∀ d : Discarding,
    shares.foldl discardShare { d with state := d.state.withLog log }
      = { shares.foldl discardShare d with state := (shares.foldl discardShare d).state.withLog log } := by
  induction shares with
  | nil => exact fun _ => rfl
  | cons sh shares ih =>
    intro d
    have hone : discardShare { d with state := d.state.withLog log } sh
        = { discardShare d sh with state := (discardShare d sh).state.withLog log } := by
      cases hres : residency d.state.bt.slots sh.extent with
      | none =>
        rw [discardShare, discardShare, show residency (d.state.withLog log).bt.slots sh.extent = none from hres, hres]
      | some kb =>
        rw [discardShare_eq (d := { d with state := d.state.withLog log }) hres, discardShare_eq hres]
        cases kb.2.discardRetires sh.blocks <;> cases kb.2.discardReleases sh.blocks <;> rfl
    rw [List.foldl_cons, List.foldl_cons, hone, ih]

theorem roomRule_discard {s : State} {f : Frame} {rest : List Frame} (hlife : s.mju.life = .active)
    (hturn : s.turn 0x22#8 f rest) (hmapLaw : mapLaw s = true) : s.roomRule 240 .discard f rest := by
  have hmap : s.Mapped := ((mapLaw_iff s).mp hmapLaw).1
  refine roomRule_of_serve (serve := serveRange serveDiscard) (fun _ => rfl) hturn (requestRow_discard hturn.2.1)
    (by rw [hlife]; rfl) ?_
  cases hout : outOfRange s.bt.e (rangeStart f) (rangeCount f) with
  | true => exact .inl fun log => serveRange_outOfRange hout
  | false =>
    obtain ⟨shares, hshares⟩ : ∃ l, sharesOf (rangeStart f) (clampedCount (rangeCount f)) = l := ⟨_, rfl⟩
    have h := discardShares_discarded (n := s.bt.n) (e := s.bt.e) shares ⟨s.taken rest, [], false, false⟩
      hmap (hshares ▸ sharesOf_distinct _ _)
    have hcommute := fun log => discardShares_withLog shares log ⟨s.taken rest, [], false, false⟩
    obtain ⟨slots, pu, honly⟩ := discardShares_onlySlots shares ⟨s.taken rest, [], false, false⟩
    generalize shares.foldl discardShare ⟨s.taken rest, [], false, false⟩ = d at h honly hcommute
    refine .inr ⟨d.state.bt, some ⟨f.tag, .ok (.covered (clampedCount (rangeCount f)))⟩, d.touched,
      fun log => ((s.taken rest).withLog log).discardMade f (clampedCount (rangeCount f))
        { d with state := d.state.withLog log }, fun k hk => ?_, fun log => ⟨?_, rfl, ?_⟩⟩
    · have hfalls : ∃ b sh, ShareFalls s.bt.slots shares k b sh := by
        by_contra! hnone
        have hsame : tget d.state.bt.slots k = tget s.bt.slots k := h.other k hnone
        simp [persistedChanged, persisted, hsame] at hk
      obtain ⟨b, sh, hf⟩ := hfalls
      exact ⟨(h.touched k).mpr (.inr ⟨b, sh, hf⟩), hmap.slot_lt (tget_of_bindingAt hf.2.1)⟩
    · show (State.startScanIf _ _).bt = _
      rw [State.startScanIf_bt, State.startPickerIf_bt, settleDrainAll_eq]
      rfl
    · rw [serveRange, show outOfRange ((s.taken rest).withLog log).bt.e (rangeStart f) (rangeCount f) = false from hout,
        if_neg Bool.false_ne_true, serveDiscard_eq (hshares ▸ hcommute log)]
      rfl

/-- Settles O32: what a DISCARD makes of every slot, the alerts and the runs it starts, and its room. -/
theorem discardRemovesTheRange : Obligations.DiscardRemovesTheRange := by
  refine ⟨?_, fun s f rest hlife hturn hmap => roomRule_discard hlife hturn hmap⟩
  intro s f rest start count touched r freed hlife hturn hnames hmap hlog htouched hr hfreed
  obtain ⟨slots, pu, ks, released, scan, h, hexec⟩ :=
    exec_discard_range hlife hturn hnames ((mapLaw_iff _).mp hmap).1 hlog htouched hr
  have hfrees : ∀ b, freed b ↔ touched b.extent ∧ b.discardReleases (r b.extent) = true := fun b => by
    rw [hfreed, Binding.discardReleases_iff]
  have hreleased : released = true ↔ ∃ k b, bindingAt s.bt.slots k = some b ∧ freed b := by
    simp only [h.released, hfrees]
  have hscan : scan = true ↔ ∃ k b, bindingAt s.bt.slots k = some b ∧ touched b.extent ∧ b.state = .held
      ∧ b.owners ≠ 0#4 ∧ b.valid &&& ~~~(r b.extent) ≠ b.valid := by
    simp only [h.scan, Binding.discardScans_iff]
  refine ⟨_, hexec, fun k b hb hnot => ?_, fun k b v d hb ht hv hd => ?_, fun k hk => ?_, fun hex => ?_, fun hall => ?_,
    fun hex => ?_, fun hall => ?_, fun owner howner => ⟨fun hex => ?_, fun hall => ?_⟩, rfl, rfl⟩
  · show bindingAt slots k = some b
    rw [bindingAt, h.other k fun c hc => by rwa [← Option.some.inj (hb.symm.trans hc)]]
    exact hb
  · subst hv hd
    have hk := h.slot k b hb ht
    refine ⟨fun hstays => ?_, fun hrel => ?_, fun hheld hstrikes hclean => ?_, fun hchanged => ?_⟩
    · show bindingAt slots k = _
      rw [bindingAt, hk, Binding.discarded_stays hstays]
      rfl
    · exact hk.trans (Binding.discarded_released ((hfrees b).mp hrel).2)
    · exact (h.retired_iff hb).mpr ⟨ht, Binding.discardRetires_iff.mpr ⟨hheld, hstrikes, hclean⟩⟩
    · exact (inLog_grownLog _ _ _ _ _ _).mpr (.inr ⟨h.listed k b hb ht, persistedChanged_discarded hb hk
        (hchanged.imp_right (Or.imp_right fun hrel => ((hfrees b).mp hrel).2))⟩)
  · exact h.other k fun b hb => by rw [hk] at hb; cases hb
  · show s.au.runsOwed + _ = _
    rw [if_pos (hreleased.mpr hex)]
  · show s.au.runsOwed + _ = _
    rw [if_neg (mt hreleased.mp fun ⟨k, b, hb, hrel⟩ => hall k b hb hrel)]
    rfl
  · show pu.scansOwed + _ = _
    rw [if_pos (hscan.mpr hex), h.scansOwed]
  · show pu.scansOwed + _ = _
    rw [if_neg (mt hscan.mp fun ⟨k, b, hb, ht, hheld, hpinned, hlost⟩ => hlost (hall k b hb ht hheld hpinned)), h.scansOwed]
    rfl
  · show ({ pu with scansOwed := _ } : PinUnit).alert owner = _
    obtain ⟨k, b, hb, hret, hbit⟩ := hex
    obtain ⟨ht, hretires⟩ := (h.retired_iff hb).mp hret
    rw [PinUnit.alert_scansOwed, h.alerted owner howner ⟨k, b, hb, ht, hretires, hbit⟩]
  · show ({ pu with scansOwed := _ } : PinUnit).alert owner = _
    rw [PinUnit.alert_scansOwed, h.quiet owner howner fun k b hb ht hret => hall k b hb ((h.retired_iff hb).mpr ⟨ht, hret⟩)]

end Sys2Proof.Machine
end


section
/-! SUPPORT. The claim on PIN: one extent's decision, the decisions of a range one after another, the request served
(R142 to R145). -/

namespace Sys2Proof.Machine

/-! ### One decision -/

/-- The binding with the owner added. -/
def Binding.owned (owner : Nat) (b : Binding) : Binding := { b with owners := b.owners ||| ownerBit owner }

theorem owned_eq {owners : OwnerSet} {owner : Nat} (howner : owner ≤ 3) (h : owners.getLsbD owner = true) :
    owners ||| ownerBit owner = owners := by
  revert h owners
  interval_cases owner <;> decide

theorem owned_ne {owners : OwnerSet} {owner : Nat} (howner : owner ≤ 3) (h : owners.getLsbD owner = false) :
    owners ||| ownerBit owner ≠ owners := by
  revert h owners
  interval_cases owner <;> decide

theorem Binding.owned_owned (owner : Nat) (b : Binding) : (b.owned owner).owned owner = b.owned owner := by
  simp only [Binding.owned, BitVec.or_assoc, BitVec.or_self]

theorem pinBinding_eq (x owner heat strikes : Nat) (now : Time) :
    newBinding .held x BlockSet.none (ownerBit owner) heat strikes now
      = ⟨.held, x, 0#64, 0#64, none, none, BitVec.ofNat 4 (2 ^ owner), heat, 0, none, strikes, none⟩ := by
  rw [newBinding, if_pos rfl]
  rfl

section
variable {s : State} {owner : Nat} {covers : Nat → Bool} {p : Pinning} {x k : Nat} {b : Binding}

theorem pinExtent_owned (hres : residency p.slots x = some (k, b)) (h : b.owners.getLsbD owner = true) :
    pinExtent s owner covers p x = p := by
  rw [pinExtent, hres]
  exact if_pos h

theorem pinExtent_gains (hres : residency p.slots x = some (k, b)) (h : b.owners.getLsbD owner = false)
    (hroom : b.owners ≠ 0#4 ∨ pinnedCount p.slots < s.policy.pinLimit) :
    pinExtent s owner covers p x
      = { p with slots := tset p.slots k (.bound (b.owned owner)), touched := p.touched ++ [k] } := by
  have hopen : (b.pinned || decide (pinnedCount p.slots < s.policy.pinLimit)) = true := by
    rw [Bool.or_eq_true, Binding.pinned_eq_true, decide_eq_true_eq]
    exact hroom
  rw [pinExtent, hres]
  exact (if_neg (by rw [hasOwner, h]; exact Bool.false_ne_true)).trans (if_pos hopen)

theorem pinExtent_full (hres : residency p.slots x = some (k, b)) (h : b.owners = 0#4)
    (hfull : s.policy.pinLimit ≤ pinnedCount p.slots) :
    pinExtent s owner covers p x = { p with shortfall := p.shortfall + 1 } := by
  have hclosed : ¬ (b.pinned || decide (pinnedCount p.slots < s.policy.pinLimit)) = true := by
    rw [Bool.or_eq_true, Binding.pinned_eq_true, decide_eq_true_eq]
    exact fun hopen => hopen.elim (· h) (Nat.not_lt_of_le hfull)
  rw [pinExtent, hres]
  exact (if_neg (by rw [hasOwner, h]; simp)).trans (if_neg hclosed)

theorem pinExtent_binds {strikes : Nat} (hres : residency p.slots x = none)
    (hroom : pinnedCount p.slots < s.policy.pinLimit)
    (htake : takeSlot { s.bt with slots := p.slots } covers = some (k, strikes)) :
    pinExtent s owner covers p x
      = ⟨tset p.slots k (.bound ⟨.held, x, 0#64, 0#64, none, none, BitVec.ofNat 4 (2 ^ owner), rowHeat p.rows x, 0, none,
          strikes, none⟩), emptyRowOf p.rows x, p.touched ++ [k], p.shortfall⟩ := by
  rw [pinExtent, hres]
  dsimp only
  rw [if_pos hroom, htake, ← pinBinding_eq x owner (rowHeat p.rows x) strikes s.seconds]

theorem pinExtent_short (hres : residency p.slots x = none) (h : s.policy.pinLimit ≤ pinnedCount p.slots
      ∨ takeSlot { s.bt with slots := p.slots } covers = none) :
    pinExtent s owner covers p x = { p with shortfall := p.shortfall + 1 } := by
  rw [pinExtent, hres]
  dsimp only
  split
  next hroom => rw [h.resolve_left (Nat.not_le_of_lt hroom)]
  next => rfl

end

/-! ### The decisions one after another -/

/-- What decisions, at most `m`, make of a PIN: the bindings of the range stay or gain the owner, and each slot changed is
listed. -/
structure PinGrown (owner : Nat) (covers : Nat → Bool) (p p' : Pinning) (m : Nat) : Prop where
  sorted : tsorted p'.slots = true
  stays : ∀ k b, bindingAt p.slots k = some b → covers b.extent = true →
    bindingAt p'.slots k = some b ∨ bindingAt p'.slots k = some (b.owned owner)
  changes : ∃ more, p'.touched = p.touched ++ more ∧ more.length ≤ m
    ∧ ∀ k, k ∉ more → tget p'.slots k = tget p.slots k

theorem PinGrown.same {owner : Nat} {covers : Nat → Bool} {p p' : Pinning} {m : Nat} (hsorted : tsorted p.slots = true)
    (hslots : p'.slots = p.slots) (htouched : p'.touched = p.touched) : PinGrown owner covers p p' m where
  sorted := hslots ▸ hsorted
  stays k b hb _ := .inl (hslots ▸ hb)
  changes := ⟨[], by rw [htouched, List.append_nil], Nat.zero_le m, fun k _ => by rw [hslots]⟩

/-- A decision that sets slot `k`, free, or bound outside the range, or gaining the owner. -/
theorem PinGrown.sets {owner : Nat} {covers : Nat → Bool} {p p' : Pinning} {k : Nat} {c : Binding}
    (hsorted : tsorted p.slots = true) (hslots : p'.slots = tset p.slots k (.bound c)) (htouched : p'.touched = p.touched ++ [k])
    (hbefore : ∀ b, bindingAt p.slots k = some b → covers b.extent = true → c = b.owned owner) :
    PinGrown owner covers p p' 1 where
  sorted := hslots ▸ tsorted_tset _ _ _ hsorted
  stays j b hb hcovers := by
    rw [hslots, bindingAt_tset_bound]
    split
    next hj =>
      subst hj
      exact .inr (congrArg some (hbefore b hb hcovers))
    next => exact .inl hb
  changes := ⟨[k], htouched, Nat.le_refl 1, fun j hj => by
    rw [hslots, tget_tset_ne _ _ (mt List.mem_singleton.mpr hj)]⟩

theorem PinGrown.trans {owner : Nat} {covers : Nat → Bool} {p p1 p2 : Pinning} {m m' : Nat}
    (h : PinGrown owner covers p p1 m) (h' : PinGrown owner covers p1 p2 m') : PinGrown owner covers p p2 (m + m') where
  sorted := h'.sorted
  stays k b hb hcovers := by
    rcases h.stays k b hb hcovers with hb | hb
    · exact h'.stays k b hb hcovers
    · refine .inr ?_
      rcases h'.stays k _ hb hcovers with hb | hb
      · exact hb
      · rwa [Binding.owned_owned] at hb
  changes := by
    obtain ⟨more, htouched, hlength, hsame⟩ := h.changes
    obtain ⟨more', htouched', hlength', hsame'⟩ := h'.changes
    refine ⟨more ++ more', by rw [htouched', htouched, List.append_assoc], ?_, fun k hk => ?_⟩
    · rw [List.length_append]
      exact Nat.add_le_add hlength hlength'
    · rw [hsame' k fun hin => hk (List.mem_append_right _ hin), hsame k fun hin => hk (List.mem_append_left _ hin)]

theorem pinExtent_grown (s : State) (owner : Nat) (covers : Nat → Bool) {p : Pinning} (hsorted : tsorted p.slots = true)
    (x : Nat) : PinGrown owner covers p (pinExtent s owner covers p x) 1 := by
  cases hres : residency p.slots x with
  | some kb =>
    obtain ⟨k, b⟩ := kb
    have hb := (bindingAt_of_residency hsorted hres).1
    cases howner : b.owners.getLsbD owner with
    | true => exact .same hsorted (by rw [pinExtent_owned hres howner]) (by rw [pinExtent_owned hres howner])
    | false =>
      by_cases hroom : b.owners ≠ 0#4 ∨ pinnedCount p.slots < s.policy.pinLimit
      · rw [pinExtent_gains hres howner hroom]
        exact .sets hsorted rfl rfl fun c hc _ => by rw [Option.some.inj (hb.symm.trans hc)]
      · push Not at hroom
        obtain ⟨hzero, hfull⟩ := hroom
        rw [pinExtent_full hres hzero hfull]
        exact .same hsorted rfl rfl
  | none =>
    by_cases hroom : pinnedCount p.slots < s.policy.pinLimit
    · cases htake : takeSlot { s.bt with slots := p.slots } covers with
      | none =>
        rw [pinExtent_short hres (.inr htake)]
        exact .same hsorted rfl rfl
      | some ks =>
        obtain ⟨k, strikes⟩ := ks
        rw [pinExtent_binds hres hroom htake]
        refine .sets hsorted rfl rfl fun b hb hcovers => ?_
        rcases (takeSlot_iff _ _ _ _).mp htake with ⟨hfree, -⟩ | ⟨-, v, hvictim, -⟩
        · have hnone : tget p.slots k = none := ((lowestFree_eq_some hsorted k).mp hfree).2.1
          rw [bindingAt_of_tget_none hnone] at hb
          cases hb
        · obtain ⟨hv, -, hexcluded, -⟩ := (victimOf_iff hsorted _ _ _).mp hvictim
          rw [Option.some.inj (hv.symm.trans hb), hcovers] at hexcluded
          cases hexcluded
    · rw [pinExtent_short hres (.inl (Nat.le_of_not_lt hroom))]
      exact .same hsorted rfl rfl

/-- The extents of the range. -/
def pinCovers (first count : Nat) : Nat → Bool := fun x => decide (first ≤ x) && decide (x < first + count)

theorem pinCovers_eq (first count : Nat) :
    pinCovers first count = fun y => decide (first ≤ y ∧ y < first + count) :=
  funext fun _ => (Bool.decide_and ..).symm

/-- A PIN of the range after its first `i` decisions. -/
def pinSteps (s : State) (owner first count i : Nat) : Pinning :=
  (extentRange first i).foldl (pinExtent s owner (pinCovers first count)) ⟨s.bt.slots, s.ct.rows, [], 0⟩

theorem pinPlan_eq (s : State) (owner first count : Nat) :
    pinPlan s owner first count = pinSteps s owner first count count := rfl

theorem pinSteps_succ (s : State) (owner first count i : Nat) : pinSteps s owner first count (i + 1)
    = pinExtent s owner (pinCovers first count) (pinSteps s owner first count i) (first + i) := by
  rw [pinSteps, extentRange, List.range_succ, List.map_append, List.foldl_append]
  rfl

theorem pinSteps_grown (s : State) (owner first count : Nat) (hsorted : tsorted s.bt.slots = true) (i : Nat) :
    PinGrown owner (pinCovers first count) ⟨s.bt.slots, s.ct.rows, [], 0⟩ (pinSteps s owner first count i) i := by
  induction i with
  | zero => exact .same hsorted rfl rfl
  | succ i ih =>
    rw [pinSteps_succ]
    exact ih.trans (pinExtent_grown s owner _ ih.sorted _)

/-! ### PIN served -/

/-- A PIN made and answered (R145). -/
def State.pinMade (s : State) (f : Frame) (p : Pinning) : State :=
  ((((s.withSlots p.slots).withRows p.rows).startScan).logChange s.bt.slots p.touched).answerOk f.tag
    (.shortfall p.shortfall)

theorem makePin_eq (f : Frame) (s : State) {p : Pinning} (hp : pinPlan s (pinOwner f) (pinFirst f) (pinCount f) = p) :
    makePin f s =
      if (grownLog s.seconds s.bt.slots p.slots s.mju.log p.touched).length ≤ s.mju.log.length
          ∨ (grownLog s.seconds s.bt.slots p.slots s.mju.log p.touched).length ≤ 240
        then s.pinMade f p else s.reply f.tag .retry := by
  rw [makePin, hp]
  simp only [requestRoom, Bool.or_eq_true, decide_eq_true_eq]
  rfl

section
variable {s : State} {f : Frame} {rest : List Frame} {owner first count : Nat} (hlife : s.mju.life = .active)
  (hturn : s.turn 0x30#8 f rest) (hlen : f.body.length = 6) (hfield : fieldAt f.body 0 1 = owner) (howner : owner ≤ 3)
  (hfirst : fieldAt f.body 1 4 = first) (hcount : fieldAt f.body 5 1 = count)
include hlife hturn hlen hfield howner hcount

theorem exec_pin_clear (hcount64 : count ≤ 64) (halert : s.pu.alert owner = none) :
    exec .pin s = .next (servePin f (s.taken rest)) := by
  subst hfield hcount
  rw [exec_of_turn (i := .pin) (serve := checkOwner servePin) rfl hturn (requestRow_pin hturn.2.1)
    (by rw [hlife]; rfl) (by rw [hlen]; rfl), checkOwner_clear (s := s.taken rest) howner hcount64 halert]

theorem exec_pin_alerted (hcount64 : count ≤ 64) {a : AlertCode} (halert : s.pu.alert owner = some a) :
    exec .pin s = .next ({ s with pu := s.pu.setAlert owner none }.refused rest f .lost (alertCondition a) owner) := by
  subst hfield hcount
  rw [exec_of_turn (i := .pin) (serve := checkOwner servePin) rfl hturn (requestRow_pin hturn.2.1)
    (by rw [hlife]; rfl) (by rw [hlen]; rfl), checkOwner_alerted (s := s.taken rest) howner hcount64 halert]
  cases a <;> rfl

include hfirst

/-- A PIN in the range, with room for its entries, is made. -/
theorem exec_pin_made (hpos : 1 ≤ count) (hcount64 : count ≤ 64) (hrange : first + count ≤ s.bt.e)
    (halert : s.pu.alert owner = none) {p : Pinning} (hp : pinPlan s owner first count = p)
    (hroom : s.mju.log.length + p.touched.length ≤ 240) :
    exec .pin s = .next ({ s with
      bt := { s.bt with slots := p.slots }, ct := { s.ct with rows := p.rows }
      pu := { s.pu with scansOwed := s.pu.scansOwed + 1 }
      mju := { s.mju with log := grownLog s.seconds s.bt.slots p.slots s.mju.log p.touched }
      lif := { s.lif with
        deltaAsking :=
          deltaWanted s.seconds s.policy { s.mju with log := grownLog s.seconds s.bt.slots p.slots s.mju.log p.touched } }
      }.answered rest f.tag (.shortfall p.shortfall)) := by
  rw [exec_pin_clear hlife hturn hlen hfield howner hcount hcount64 halert]
  subst hfield hfirst hcount
  rw [servePin, if_neg (show ¬ pinCount f = 0 from Nat.ne_of_gt hpos),
    if_neg (show ¬ (s.taken rest).bt.e < pinFirst f + pinCount f from Nat.not_lt_of_le hrange),
    makePin_eq f (s.taken rest) hp, if_pos (.inr ((grownLog_length_le _ _).trans hroom))]
  rfl

end

/-! ### The room rule -/

/-- Every slot that a PIN changes is listed, and is a slot of the part. -/
theorem pinPlan_changed {s : State} (hmap : s.Mapped) {owner first count : Nat} (hrange : first + count ≤ s.bt.e) {k : Nat}
    (hk : persistedChanged s.bt.slots (pinPlan s owner first count).slots k = true) :
    k ∈ (pinPlan s owner first count).touched ∧ k < s.bt.n := by
  obtain ⟨more, htouched, -, hsame⟩ := (pinSteps_grown s owner first count hmap.slots_sorted count).changes
  have hmoves := pinPlan_moves (c := ⟨true, s.bt.n, s.bt.e, s.policy.pinLimit, True, fun _ _ _ => True⟩) (owner := owner)
    (s := s) rfl rfl rfl hrange
  have hafter : MapOk s.bt.n s.bt.e (pinPlan s owner first count).slots (pinPlan s owner first count).rows :=
    MapOk.moves hmoves hmap
  have hdiffers : tget (pinPlan s owner first count).slots k ≠ tget s.bt.slots k := fun heq => by
    simp [persistedChanged, persisted, heq] at hk
  constructor
  · rw [pinPlan_eq, htouched]
    exact List.mem_append_right _ (by_contra fun hnot => hdiffers (hsame k hnot))
  · cases hbefore : tget s.bt.slots k with
    | some v => exact hmap.slot_lt hbefore
    | none =>
      obtain ⟨v, hv⟩ := Option.ne_none_iff_exists'.mp fun hnone => hdiffers (hnone.trans hbefore.symm)
      exact hafter.slot_lt hv

theorem roomRule_pin {s : State} {f : Frame} {rest : List Frame} (hlife : s.mju.life = .active)
    (hturn : s.turn 0x30#8 f rest) (hmapLaw : mapLaw s = true) : s.roomRule 240 .pin f rest := by
  have hmap : s.Mapped := ((mapLaw_iff s).mp hmapLaw).1
  refine roomRule_of_owner (serve := servePin) (fun _ => rfl) hturn (requestRow_pin hturn.2.1) (by rw [hlife]; rfl) ?_
  by_cases hzero : pinCount f = 0
  · refine .inl fun log body hreply => ?_
    rw [servePin, if_pos hzero] at hreply
    cases hreply
  by_cases hbeyond : s.bt.e < pinFirst f + pinCount f
  · refine .inl fun log body hreply => ?_
    rw [servePin, if_neg hzero, if_pos (show ((s.taken rest).withLog log).bt.e < _ from hbeyond)] at hreply
    cases hreply
  obtain ⟨p, hp⟩ : ∃ p, pinPlan s (pinOwner f) (pinFirst f) (pinCount f) = p := ⟨_, rfl⟩
  refine .inr ⟨{ s.bt with slots := p.slots }, some ⟨f.tag, .ok (.shortfall p.shortfall)⟩, p.touched,
    fun log => ((s.taken rest).withLog log).pinMade f p, fun k hk => ?_, fun log => ⟨rfl, rfl, ?_⟩⟩
  · rw [← hp] at hk ⊢
    exact pinPlan_changed hmap (Nat.le_of_not_lt hbeyond) hk
  · rw [servePin, if_neg hzero, if_neg (show ¬ ((s.taken rest).withLog log).bt.e < _ from hbeyond),
      makePin_eq f ((s.taken rest).withLog log) hp]
    rfl

end Sys2Proof.Machine
end


section
/-! SUPPORT. The claim on PIN, assembled: one extent, a range decision by decision, and the room. -/

namespace Sys2Proof.Machine

theorem length_touched_pinExtent (s : State) (owner : Nat) (covers : Nat → Bool) (p : Pinning) (x : Nat) :
    (pinExtent s owner covers p x).touched.length ≤ p.touched.length + 1 := by
  have happend : ∀ k, (p.touched ++ [k]).length ≤ p.touched.length + 1 := fun k => by
    rw [List.length_append]
    exact Nat.le_refl _
  unfold pinExtent
  split
  · split
    · exact Nat.le_succ _
    · split
      · exact happend _
      · exact Nat.le_succ _
  · split
    · split
      · exact happend _
      · exact Nat.le_succ _
    · exact Nat.le_succ _

/-- An owner that joins changes the persisted form. -/
theorem persistedChanged_owned {slots : List (Nat × Slot)} {k owner : Nat} {b : Binding} (howner : owner ≤ 3)
    (hb : bindingAt slots k = some b) (h : b.owners.getLsbD owner = false) :
    persistedChanged slots (tset slots k (.bound (b.owned owner))) k = true := by
  rw [← Bool.not_eq_false, persistedChanged_bound hb (bindingAt_tset_same _ _ _)]
  exact fun hsame => owned_ne howner h hsame.2.1.symm

/-! ### A PIN of one extent -/

section
variable {s : State} {f : Frame} {rest : List Frame} {owner x : Nat} (hlife : s.mju.life = .active)
  (hturn : s.turn 0x30#8 f rest) (hlen : f.body.length = 6) (hfield : fieldAt f.body 0 1 = owner) (howner : owner ≤ 3)
  (hfirst : fieldAt f.body 1 4 = x) (hcount : fieldAt f.body 5 1 = 1)
include hlife hturn hlen hfield howner hfirst hcount

theorem exec_pin_beyond (halert : s.pu.alert owner = none) (hbeyond : s.bt.e ≤ x) :
    exec .pin s = .next (s.refused rest f .range .outOfRange 1) := by
  have hone : min 65535 (fieldAt f.body 1 4 + fieldAt f.body 5 1 - max (fieldAt f.body 1 4) s.bt.e) = 1 := by
    rw [hfirst, hcount]
    omega
  have hover : s.bt.e < fieldAt f.body 1 4 + fieldAt f.body 5 1 := by
    rw [hfirst, hcount]
    omega
  rw [exec_pin_clear hlife hturn hlen hfield howner hcount (by decide) halert,
    servePin_beyond (s := s.taken rest) (by rw [hcount]; decide) hover, State.withIntake_bt, hone, refer_taken]

/-- A PIN of one extent makes one decision. -/
theorem exec_pin_one (halert : s.pu.alert owner = none) (hx : x < s.bt.e) (hlog : s.mju.log.length < 240) {p : Pinning}
    (hp : pinExtent s owner (pinCovers x 1) ⟨s.bt.slots, s.ct.rows, [], 0⟩ x = p) :
    exec .pin s = .next ({ s with
      bt := { s.bt with slots := p.slots }, ct := { s.ct with rows := p.rows }
      pu := { s.pu with scansOwed := s.pu.scansOwed + 1 }
      mju := { s.mju with log := grownLog s.seconds s.bt.slots p.slots s.mju.log p.touched }
      lif := { s.lif with
        deltaAsking :=
          deltaWanted s.seconds s.policy { s.mju with log := grownLog s.seconds s.bt.slots p.slots s.mju.log p.touched } }
      }.answered rest f.tag (.shortfall p.shortfall)) := by
  have hplan : pinPlan s owner x 1 = p := (pinSteps_succ s owner x 1 0).trans hp
  have hlength : p.touched.length ≤ 1 := hp ▸ length_touched_pinExtent s owner _ _ x
  exact exec_pin_made hlife hturn hlen hfield howner hfirst hcount (Nat.le_refl 1) (by decide) hx halert hplan (by omega)

end

/-- The bindings of a range of one extent. -/
theorem pinCovers_one (x : Nat) : pinCovers x 1 = (· == x) := by
  funext y
  rw [pinCovers_eq, Bool.eq_iff_iff, decide_eq_true_eq, beq_iff_eq]
  omega

/-- A binding moved into a victim's slot leaves the victim's extent with no slot and no row. -/
theorem MapOk.victim_unbound {n e : Nat} {slots : List (Nat × Slot)} {rows : List (Nat × Row)} (h : MapOk n e slots rows)
    {k : Nat} {v c : Binding} (hv : bindingAt slots k = some v) (hne : v.extent ≠ c.extent) :
    residency (tset slots k (.bound c)) v.extent = none ∧ findRow (emptyRowOf rows c.extent) v.extent = none := by
  constructor
  · refine (residency_none_iff (tsorted_tset _ _ _ h.slots_sorted) _).mpr fun j d hd hdx => ?_
    rw [bindingAt_tset_bound] at hd
    split at hd
    next =>
      cases hd
      exact hne hdx.symm
    next hj => exact hj (h.extent_inj hd hv hdx)
  · rw [h.findRow_emptyRowOf, if_neg hne]
    exact h.findRow_eq_none.mpr fun i r hr => h.row_unbound hr hv

/-- The third clause of O34. -/
theorem pin_one {s : State} {f : Frame} {rest : List Frame} {owner x : Nat} (hlife : s.mju.life = .active)
    (hturn : s.turn 0x30#8 f rest) (hlen : f.body.length = 6) (hfield : fieldAt f.body 0 1 = owner) (howner : owner ≤ 3)
    (hfirst : fieldAt f.body 1 4 = x) (hcount : fieldAt f.body 5 1 = 1) (halert : s.pu.alert owner = none)
    (hx : x < s.bt.e) (hlog : s.mju.log.length < 240) :
    ∃ t n, exec .pin s = .next t
      ∧ (∀ k b, residency s.bt.slots x = some (k, b) → bindingAt s.bt.slots k = some b →
          (b.owners.getLsbD owner = true ∨ b.owners ≠ 0#4 ∨ pinnedCount s.bt.slots < s.policy.pinLimit →
            n = 0 ∧ bindingAt t.bt.slots k = some { b with owners := b.owners ||| BitVec.ofNat 4 (2 ^ owner) }
            ∧ (b.owners.getLsbD owner = false → inLog t.mju.log k = true)
            ∧ (b.owners.getLsbD owner = true → t.mju = s.mju)
            ∧ ∀ j, j ≠ k → tget t.bt.slots j = tget s.bt.slots j)
          ∧ (b.owners = 0#4 → s.policy.pinLimit ≤ pinnedCount s.bt.slots → n = 1 ∧ t.bt = s.bt))
      ∧ (residency s.bt.slots x = none →
          (∀ k, lowestFree s.bt = some k → pinnedCount s.bt.slots < s.policy.pinLimit →
            n = 0 ∧ bindingAt t.bt.slots k = some ⟨.held, x, 0#64, 0#64, none, none, BitVec.ofNat 4 (2 ^ owner),
              rowHeat s.ct.rows x, 0, none, 0, none⟩
            ∧ (∀ j, j ≠ k → tget t.bt.slots j = tget s.bt.slots j)
            ∧ t.ct.rows = emptyRowOf s.ct.rows x ∧ inLog t.mju.log k = true)
          ∧ (s.policy.pinLimit ≤ pinnedCount s.bt.slots → n = 1 ∧ t.bt = s.bt ∧ t.ct = s.ct))
      ∧ t = { s with
          bt := { s.bt with slots := t.bt.slots }, ct := { s.ct with rows := t.ct.rows }
          pu := { s.pu with scansOwed := s.pu.scansOwed + 1 }
          mju := { s.mju with log := t.mju.log }, lif := { s.lif with deltaAsking := t.lif.deltaAsking }
          }.answered rest f.tag (.shortfall n) := by
  obtain ⟨p, hp⟩ : ∃ p, pinExtent s owner (pinCovers x 1) ⟨s.bt.slots, s.ct.rows, [], 0⟩ x = p := ⟨_, rfl⟩
  refine ⟨_, _, exec_pin_one hlife hturn hlen hfield howner hfirst hcount halert hx hlog hp,
    fun k b hres hb => ⟨fun hmade => ?_, fun hzero hfull => ?_⟩, fun hres => ⟨fun k hfree hroom => ?_, fun hfull => ?_⟩, rfl⟩
  · cases hbit : b.owners.getLsbD owner with
    | true =>
      obtain rfl := hp.symm.trans (pinExtent_owned hres hbit)
      refine ⟨rfl, ?_, nofun, fun _ => rfl, fun j _ => rfl⟩
      rw [show BitVec.ofNat 4 (2 ^ owner) = ownerBit owner from rfl, owned_eq howner hbit]
      exact hb
    | false =>
      rw [hbit] at hmade
      obtain rfl := hp.symm.trans (pinExtent_gains hres hbit (hmade.resolve_left Bool.false_ne_true))
      exact ⟨rfl, bindingAt_tset_same _ _ _,
        fun _ => (inLog_grownLog _ _ _ _ _ _).mpr
          (.inr ⟨List.mem_singleton_self _, persistedChanged_owned howner hb hbit⟩),
        nofun, fun j hj => tget_tset_ne _ _ hj⟩
  · obtain rfl := hp.symm.trans (pinExtent_full hres hzero hfull)
    exact ⟨rfl, rfl⟩
  · obtain rfl := hp.symm.trans (pinExtent_binds hres hroom ((takeSlot_iff _ _ _ _).mpr (.inl ⟨hfree, rfl⟩)))
    exact ⟨rfl, bindingAt_tset_same _ _ _, fun j hj => tget_tset_ne _ _ hj, rfl, (inLog_grownLog _ _ _ _ _ _).mpr
      (.inr ⟨List.mem_singleton_self _, persistedChanged_newlyBound hres⟩)⟩
  · obtain rfl := hp.symm.trans (pinExtent_short hres (.inl hfull))
    exact ⟨rfl, rfl, rfl⟩

/-- The fourth clause of O34: below the limit, with no slot FREE. -/
theorem pin_one_victim {s : State} {f : Frame} {rest : List Frame} {owner x : Nat} (hlife : s.mju.life = .active)
    (hturn : s.turn 0x30#8 f rest) (hlen : f.body.length = 6) (hfield : fieldAt f.body 0 1 = owner) (howner : owner ≤ 3)
    (hfirst : fieldAt f.body 1 4 = x) (hcount : fieldAt f.body 5 1 = 1) (halert : s.pu.alert owner = none)
    (hx : x < s.bt.e) (hlog : s.mju.log.length < 240) (hres : residency s.bt.slots x = none) (hfree : lowestFree s.bt = none)
    (hroom : pinnedCount s.bt.slots < s.policy.pinLimit) (hmap : s.Mapped) :
    ∃ t n, exec .pin s = .next t ∧ t.lif.reply = some ⟨f.tag, .ok (.shortfall n)⟩ ∧ t.lif.intake = rest
      ∧ (victimOf s.bt.slots (· == x) = none → n = 1 ∧ t.bt = s.bt ∧ t.ct = s.ct)
      ∧ (∀ k v, victimOf s.bt.slots (· == x) = some (k, v) →
          n = 0 ∧ bindingAt t.bt.slots k = some ⟨.held, x, 0#64, 0#64, none, none, BitVec.ofNat 4 (2 ^ owner),
            rowHeat s.ct.rows x, 0, none, v.strikes, none⟩
          ∧ residency t.bt.slots v.extent = none ∧ findRow t.ct.rows v.extent = none
          ∧ (∀ j, j ≠ k → tget t.bt.slots j = tget s.bt.slots j)
          ∧ t.ct.rows = emptyRowOf s.ct.rows x ∧ inLog t.mju.log k = true) := by
  obtain ⟨p, hp⟩ : ∃ p, pinExtent s owner (pinCovers x 1) ⟨s.bt.slots, s.ct.rows, [], 0⟩ x = p := ⟨_, rfl⟩
  refine ⟨_, _, exec_pin_one hlife hturn hlen hfield howner hfirst hcount halert hx hlog hp, rfl, rfl, fun hnone => ?_,
    fun k v hvictim => ?_⟩
  · have htake : takeSlot s.bt (pinCovers x 1) = none := by
      rw [takeSlot, hfree]
      dsimp only
      rw [pinCovers_one, hnone]
      rfl
    obtain rfl := hp.symm.trans (pinExtent_short hres (.inr htake))
    exact ⟨rfl, rfl, rfl⟩
  · have htake : takeSlot s.bt (pinCovers x 1) = some (k, v.strikes) :=
      (takeSlot_iff _ _ _ _).mpr (.inr ⟨hfree, v, by rwa [pinCovers_one], rfl⟩)
    obtain rfl := hp.symm.trans (pinExtent_binds hres hroom htake)
    obtain ⟨hv, -, hother, -⟩ := (victimOf_iff hmap.slots_sorted _ _ _).mp hvictim
    obtain ⟨hunbound, hrowless⟩ := hmap.victim_unbound hv (c := ⟨.held, x, 0#64, 0#64, none, none,
      BitVec.ofNat 4 (2 ^ owner), rowHeat s.ct.rows x, 0, none, v.strikes, none⟩) (by simpa using hother)
    exact ⟨rfl, bindingAt_tset_same _ _ _, hunbound, hrowless, fun j hj => tget_tset_ne _ _ hj, rfl,
      (inLog_grownLog _ _ _ _ _ _).mpr (.inr ⟨List.mem_singleton_self _, persistedChanged_newlyBound hres⟩)⟩

/-! ### A PIN of a range -/

/-- What the decision of extent `x` makes of the tables and the shortfall before it. -/
structure PinDecided (s : State) (owner first count : Nat) (p p' : Pinning) (x : Nat) : Prop where
  bound : ∀ k b, residency p.slots x = some (k, b) → p'.rows = p.rows
    ∧ (b.owners.getLsbD owner = true → p'.slots = p.slots ∧ p'.shortfall = p.shortfall)
    ∧ (b.owners.getLsbD owner = false → b.owners ≠ 0#4 ∨ pinnedCount p.slots < s.policy.pinLimit →
        bindingAt p'.slots k = some { b with owners := b.owners ||| BitVec.ofNat 4 (2 ^ owner) }
        ∧ (∀ j, j ≠ k → tget p'.slots j = tget p.slots j) ∧ p'.shortfall = p.shortfall)
    ∧ (b.owners = 0#4 → s.policy.pinLimit ≤ pinnedCount p.slots →
        p'.slots = p.slots ∧ p'.shortfall = p.shortfall + 1)
  binds : residency p.slots x = none → ∀ k strikes, pinnedCount p.slots < s.policy.pinLimit →
      lowestFree { s.bt with slots := p.slots } = some k ∧ strikes = 0
        ∨ lowestFree { s.bt with slots := p.slots } = none
          ∧ (∃ v, victimOf p.slots (fun y => decide (first ≤ y ∧ y < first + count)) = some (k, v) ∧ strikes = v.strikes) →
      bindingAt p'.slots k = some ⟨.held, x, 0#64, 0#64, none, none, BitVec.ofNat 4 (2 ^ owner),
        rowHeat p.rows x, 0, none, strikes, none⟩
      ∧ (∀ j, j ≠ k → tget p'.slots j = tget p.slots j)
      ∧ p'.rows = emptyRowOf p.rows x ∧ p'.shortfall = p.shortfall
  short : residency p.slots x = none → s.policy.pinLimit ≤ pinnedCount p.slots
      ∨ lowestFree { s.bt with slots := p.slots } = none
        ∧ victimOf p.slots (fun y => decide (first ≤ y ∧ y < first + count)) = none →
      p'.slots = p.slots ∧ p'.rows = p.rows ∧ p'.shortfall = p.shortfall + 1

theorem pinExtent_decided (s : State) (owner first count : Nat) (p : Pinning) (x : Nat) :
    PinDecided s owner first count p (pinExtent s owner (pinCovers first count) p x) x := by
  refine ⟨fun k b hres => ⟨?_, fun hbit => ?_, fun hbit hroom => ?_, fun hzero hfull => ?_⟩,
    fun hres k strikes hroom hslot => ?_, fun hres hshort => ?_⟩
  · rw [pinExtent, hres]
    dsimp only
    split
    · rfl
    · split <;> rfl
  · rw [pinExtent_owned hres hbit]
    exact ⟨rfl, rfl⟩
  · rw [pinExtent_gains hres hbit hroom]
    exact ⟨bindingAt_tset_same _ _ _, fun j hj => tget_tset_ne _ _ hj, rfl⟩
  · rw [pinExtent_full hres hzero hfull]
    exact ⟨rfl, rfl⟩
  · rw [← pinCovers_eq] at hslot
    rw [pinExtent_binds hres hroom ((takeSlot_iff { s.bt with slots := p.slots } _ _ _).mpr hslot)]
    exact ⟨bindingAt_tset_same _ _ _, fun j hj => tget_tset_ne _ _ hj, rfl, rfl⟩
  · have hnone : s.policy.pinLimit ≤ pinnedCount p.slots
        ∨ takeSlot { s.bt with slots := p.slots } (pinCovers first count) = none := hshort.imp_right fun ⟨hfree, hvictim⟩ => by
      rw [takeSlot, hfree]
      dsimp only
      rw [pinCovers_eq, hvictim]
      rfl
    rw [pinExtent_short hres hnone]
    exact ⟨rfl, rfl, rfl⟩

/-- Settles O34: one extent, a range decision by decision, and the room. -/
theorem pinOfOneExtent : Obligations.PinOfOneExtent := by
  refine ⟨?_, ?_, fun s f rest hlife hturn hmap => roomRule_pin hlife hturn hmap⟩
  · intro s f rest owner x hlife hturn hlen hfield howner hfirst hcount
    refine ⟨fun a halert => ?_,
      exec_pin_beyond hlife hturn hlen hfield howner hfirst hcount,
      pin_one hlife hturn hlen hfield howner hfirst hcount,
      fun halert hx hlog hres hfree hroom hmap => pin_one_victim hlife hturn hlen hfield howner hfirst hcount halert hx hlog
        hres hfree hroom ((mapLaw_iff s).mp hmap).1⟩
    obtain ⟨hcleared, hothers, hscans⟩ := alerted_refusal s rest f howner a
    refine ⟨_, exec_pin_alerted hlife hturn hlen hfield howner hcount (by decide) halert, hcleared, hothers, hscans, ?_⟩
    cases a <;> rfl
  · intro s f rest owner first count hlife hturn hlen hmapLaw hfield howner hfirst hcount hpos hcount64 hrange halert hlog
    have hmap : s.Mapped := ((mapLaw_iff s).mp hmapLaw).1
    have hgrown := pinSteps_grown s owner first count hmap.slots_sorted count
    obtain ⟨more, htouched, hlength, -⟩ := hgrown.changes
    have hstep := fun i => pinSteps_succ s owner first count i ▸
      pinExtent_decided s owner first count (pinSteps s owner first count i) (first + i)
    refine ⟨_, fun i => (pinSteps s owner first count i).slots, fun i => (pinSteps s owner first count i).rows,
      fun i => (pinSteps s owner first count i).shortfall,
      exec_pin_made hlife hturn hlen hfield howner hfirst hcount hpos hcount64 hrange halert
        (pinPlan_eq s owner first count) ?_, rfl, rfl, rfl, rfl, rfl, fun i x _ hx => ?_, fun k b hb hlo hhi => ?_, fun k => ?_, rfl⟩
    · have hlen : (pinSteps s owner first count count).touched.length = more.length := by rw [htouched]; rfl
      omega
    · subst hx
      exact ⟨(hstep i).bound, fun hres => ⟨(hstep i).binds hres, (hstep i).short hres⟩⟩
    · exact hgrown.stays k b hb (Bool.and_eq_true_iff.mpr ⟨decide_eq_true hlo, decide_eq_true hhi⟩)
    · refine (inLog_grownLog _ _ _ _ _ _).trans (or_congr_right ?_)
      exact ⟨fun h => decide_eq_true_eq.mp h.2, fun h => ⟨(pinPlan_changed hmap hrange (decide_eq_true h)).1, decide_eq_true h⟩⟩

end Sys2Proof.Machine
end
